-- ==== Sys2Proof/Word.lean ====
section
/-! DEFINITION. The words of the set-up window and the bytes of objects and messages (R9: bit 0 is the least significant bit). -/

namespace Sys2Proof

/-- A register of the set-up window: 32 bits (R13, R602). -/
abbrev Word := BitVec 32

/-- One byte of an object, a descriptor or a message. -/
abbrev Byte := BitVec 8

end Sys2Proof
end

