-- ==== Sys2Proof/Machine/Tab.lean ====
section
/-! DEFINITION. Sparse tables: a list of (key, value) pairs in one canonical form, keys strictly rising and no entry equal to
what an unlisted key reads as. Registers, tiles, lanes and stores are held in them, so equal contents are equal data. -/

namespace Sys2Proof.Machine

/-- A sparse table. What an unlisted key reads as is an argument of the operations. -/
abbrev Tab (α : Type) := List (Nat × α)

/-- The value at `k`; an unlisted key reads as `d`. -/
def Tab.read {α : Type} (d : α) (k : Nat) : Tab α → α
  | [] => d
  | (k', v) :: r => if k = k' then v else Tab.read d k r

/-- The entries of other keys. -/
def Tab.without {α : Type} (k : Nat) : Tab α → Tab α
  | [] => []
  | (k', v) :: r => if k' = k then Tab.without k r else (k', v) :: Tab.without k r

/-- An entry put before the first higher key. -/
def Tab.insert {α : Type} (k : Nat) (v : α) : Tab α → Tab α
  | [] => [(k, v)]
  | (k', v') :: r => if k < k' then (k, v) :: (k', v') :: r else (k', v') :: Tab.insert k v r

/-- Write `v` at `k`, where `d` is what `k` reads as when it is not listed. Keeps the canonical form. -/
def Tab.write {α : Type} [DecidableEq α] (d : α) (k : Nat) (v : α) (t : Tab α) : Tab α :=
  if v = d then t.without k else (t.without k).insert k v

/-- Every listed key is at least `lo`, keys rise strictly, and no entry equals its default. -/
def Tab.wfFrom {α : Type} [DecidableEq α] (d : Nat → α) (lo : Nat) : Tab α → Bool
  | [] => true
  | (k, v) :: r => decide (lo ≤ k) && decide (v ≠ d k) && Tab.wfFrom d (k + 1) r

/-- The canonical form. -/
def Tab.wf {α : Type} [DecidableEq α] (d : Nat → α) (t : Tab α) : Bool := Tab.wfFrom d 0 t

/-- Write a list of (key, value) pairs over a constant default, in order. -/
def Tab.writes {α : Type} [DecidableEq α] (d : α) : List (Nat × α) → Tab α → Tab α
  | [], t => t
  | (k, v) :: r, t => Tab.writes d r (t.write d k v)

/-- Replace the value at every key of `ks` (rising) by `f` of the key and its present value. -/
def Tab.update {α : Type} [DecidableEq α] (d : α) (f : Nat → α → α) : List Nat → Tab α → Tab α
  | [], t => t
  | k :: ks, t => Tab.update d f ks (t.write d k (f k (t.read d k)))

end Sys2Proof.Machine
end

