-- ==== Sys2Proof/Machine/Objects.lean ====
section
/-! DEFINITION. What commands and stores both carry: status codes, device times, the tables and objects host software loads
(chapters 5, 7 to 10), and the banked tables of R176. -/

namespace Sys2Proof.Machine

/-- The status codes of R16. -/
inductive Status where
  | done | queued | lateReject | lateAligned | lateNow | conflict | notArmed | aborted | settleLate | throttled | policed
  | badObject | badVersion | malformed | parseDeep | safetyHold | notActive | fenced | presenceNeeded | signatureFail
  | writeWindow | internal
  deriving DecidableEq, Repr

/-- A device time as a format carries it (R10, R11): seconds, nanoseconds, fraction, and whether its reserved bits are 0. -/
structure DtField where
  sec : Nat
  ns : Nat
  frac : Nat
  resvZero : Bool := true
  deriving DecidableEq, Repr
/-- The lane modes of R166. -/
inductive LaneMode where
  | feedback | burst | hold | park | cal | shadow
  deriving DecidableEq, Repr

/-- A gain set (R178): coefficients in Q3.12, limits in Q8.15. -/
structure GainSet where
  a : List Int
  b : List Int
  c : List Int
  l : List Int
  k : List Int
  ki : List Int
  nbrUse : Nat
  n : List Int
  zmin0 : Int
  zmax0 : Int
  zmin1 : Int
  zmax1 : Int
  innovMax : Int
  deriving DecidableEq, Repr

/-- A lane configuration entry (R180); the defaults are the reset entry. -/
structure LaneCfg where
  sRef : Nat := 0
  nbr : List Nat := [255, 255, 255, 255]
  ramp : Nat := 0
  gsFix : Nat := 0
  gsFixEn : Bool := false
  loopEn : Bool := false
  deriving DecidableEq, Repr

/-- A feedforward curve entry (R181): 17 primary and 17 trim codes. -/
structure Curve where
  pri : List Nat := List.replicate 17 0
  trim : List Nat := List.replicate 17 0
  deriving DecidableEq, Repr

/-- A write or a commit that waits for an exchange (R176). -/
inductive HeldOp (α : Type) where
  | write (entries : List (Nat × α))
  | commit
  deriving DecidableEq, Repr

/-- A double-banked tile table (R176): the live bank, the standby bank, which bank is live, an exchange pending, and what waits. -/
structure Banked (α : Type) where
  live : Tab α := []
  standby : Tab α := []
  bank : Nat := 0
  pend : Bool := false
  held : List (HeldOp α) := []
  deriving DecidableEq, Repr

/-- A plan slot's content (R237). -/
structure Plan where
  tag : Nat
  mask : Nat
  /-- Global element and setpoint of every named element, rising. -/
  elems : List (Nat × Nat)
  deriving DecidableEq, Repr

/-- An edit (R241). -/
structure Edit where
  tag : Nat
  mask : Nat
  elems : List (Nat × Nat)
  deriving DecidableEq, Repr

/-! ### Calendar, admission and classification tables (R281, R284, R334, R335, R351, R354, R370) -/

/-- A calendar list descriptor (R284). -/
structure ListDesc where
  base : DtField
  first : Nat
  count : Nat
  cycle : Nat
  tag : Nat
  deriving DecidableEq, Repr

/-- A tenant table entry (R334); the defaults are the reset entry. -/
structure Tenant where
  rate : Nat := 0
  cir : Nat := 0
  cbs : Nat := 0
  ebs : Nat := 0
  hi : Nat := 0
  prio : Nat := 0
  redDefer : Bool := false
  police : Bool := false
  en : Bool := false
  profile : Nat := 0
  deriving DecidableEq, Repr

/-- A class entry of a profile (R335); the defaults are the reset entry. -/
structure ClassProf where
  share : Nat := 0
  hi : Nat := 0
  qmax : Nat := 0
  maxWait : Nat := 0
  deriving DecidableEq, Repr

/-- A protocol table entry (R351). -/
structure Proto where
  key : Nat := 0
  mask : Nat := 0
  protoId : Nat := 0
  gcrp : Bool := false
  mdata : Nat := 0
  valid : Bool := false
  deriving DecidableEq, Repr

/-- An action table entry (R354). -/
structure Act where
  key : Nat := 0
  mask : Nat := 0
  /-- 0 `DROP`, 1 `FORWARD`, 2 `COPY`. -/
  action : Nat := 0
  mirror : Bool := false
  setClass : Bool := false
  cls : Nat := 0
  dest : Nat := 0
  ring : Nat := 0
  mirrorRing : Nat := 0
  lClass : Nat := 0
  lColour : Nat := 0
  lQueue : Nat := 0
  valid : Bool := false
  deriving DecidableEq, Repr

/-- One bank of the rule set (R359). -/
structure Rules where
  protos : Tab Proto := []
  acts : Tab Act := []
  deriving DecidableEq, Repr

/-- A session record (R370). -/
structure Sess where
  srcAddr : Nat := 0
  srcPort : Nat := 0
  tenant : Nat := 0
  cls : Nat := 0
  rxLast : Nat := 0
  rxWin : Nat := 0
  txSeq : Nat := 0
  valid : Bool := false
  port : Nat := 0
  ipv6 : Bool := false
  host : Bool := false
  quar : Bool := false
  ntags : Nat := 0
  tags : Nat := 0
  srcMac : Nat := 0
  idle : Nat := 0
  /-- The tick of the latest accepted request, from which `IDLE_AGE` counts; in quarantine, the tick at which it ends. -/
  ageAt : Nat := 0
  deriving DecidableEq, Repr

/-- What a list of the calendar carries over a sync (R438). -/
structure CalImg where
  desc : Option ListDesc
  st : Nat
  late : Bool
  swapPend : Bool
  stopPend : Bool
  swapWith : Nat
  base : Nat
  q : Nat
  cycle : Nat
  next : Nat
  deriving DecidableEq, Repr

/-- The tables of one tile as store 0x03 carries them. -/
structure TileImg where
  gain : Banked (Option GainSet)
  lcfg : Banked LaneCfg
  curves : Banked Curve
  firefly : Banked Nat
  deriving DecidableEq, Repr

/-- The content of a store (R444). The manual gives the stores their content and no byte layout. -/
inductive StoreImg where
  | plans (slots : Tab (Option Plan))
  | edits (nums : Tab (Option Edit))
  | tiles (ts : List (Nat × TileImg))
  | calendar (pool : Tab (Option Nat)) (lists : List (Nat × CalImg))
  | admission (tenants : Banked Tenant) (profiles : Banked ClassProf)
  | classifier (live standby : Rules) (ver : Nat) (mode chain modeLive chainLive : Bool)
  | sessions (t : Tab Sess)
  deriving DecidableEq, Repr

/-- A GCRP request as the engine takes it from its frame: the message of R362 with what the record keeps of the frame. -/
structure GcrpReq where
  port : Nat
  ntags : Nat := 0
  tags : Nat := 0
  srcMac : Nat := 0
  /-- Source address in the form of R370, and the UDP source port. -/
  srcAddr : Nat
  srcPort : Nat
  ipv6 : Bool := true
  /-- `SRES` (R352). -/
  sres : Nat := 1
  /-- The class of the action entry when `SET_CLASS` is 1. -/
  setClass : Option Nat := none
  /-- `RING` of the action entry. -/
  ring : Nat := 0
  /-- The whole frame and the receive completion's `RESULT` (R417), for a CIRCUIT's copy (R377). -/
  frame : List Byte := []
  result : List Byte := []
  msg : List Byte
  deriving DecidableEq, Repr

/-- What the SIU measures at an evaluation (R465, R477): readbacks of SO_A and SO_B and VSAFE_OUT in mV, the current limit of each output
for more than 5 ms, and a mismatch of its two channels or a failure of its oscillator. -/
structure SiuEnv where
  rbA : Nat := 0
  rbB : Nat := 0
  vsafe : Nat := 24000
  limA : Bool := false
  limB : Bool := false
  mismatch : Bool := false
  deriving DecidableEq, Repr

/-- How far a frame comes in one FRAME_RECEIVED (R348, R357, R358). -/
inductive RxStage where
  /-- From the port through its stages. -/
  | whole
  /-- Into a parser engine, whose stages it has not yet left. -/
  | held
  /-- Out of its stages: the frame of this stamp, which was held in them. -/
  | left (stamp : Nat)
  /-- Into a parser engine that reports an internal error. -/
  | lost
  /-- No parser engine is free for it. -/
  | noEngine
  deriving DecidableEq, Repr

/-- A frame at a control port, from its destination address to its FCS, with its ingress timestamp and, should it be forwarded, its
egress DT, in 2⁻¹⁶ ns of DT (R197). -/
structure RxFrame where
  port : Nat
  bytes : List Byte
  rx : Int := 0
  tx : Int := 0
  stage : RxStage := .whole
  /-- Codewords of Clause 108 that its PCS has corrected, and those it could not, since the last frame (R385). -/
  fecCorr : Nat := 0
  fecBad : Nat := 0
  deriving DecidableEq, Repr

/-- A host command: the ring pair it was fetched from, its 64-byte descriptor (R408), and the bytes that the device reads from the
host buffer it names. `readOk` is false when that read fails in host memory, `cplOk` when the writes of its completions do, or those into
the receive buffer that it posts (R400, R421). -/
structure HostCmd where
  ring : Nat
  desc : List Byte
  data : List Byte := []
  readOk : Bool := true
  cplOk : Bool := true
  /-- It outlived a reset or a disable of its ring: what it owes is dropped (R389, R399). No command is given with it. -/
  orphan : Bool := false
  deriving DecidableEq, Repr

/-- What every PTP message carries that the time unit uses (R199): the port it came in on, its domain, sender, sequence, log message
interval, correction field in 2⁻¹⁶ ns, and its ingress timestamp in 2⁻¹⁶ ns of DT; the transport it came by, as `TRANSPORT` codes it, and
whether it was sent to that transport's group address. -/
structure PtpMsg where
  port : Nat
  domain : Nat := 0
  id : Nat := 0
  idPort : Nat := 0
  seq : Nat := 0
  logInt : Int := 0
  corr : Int := 0
  rx : Int := 0
  transport : Nat := 0
  group : Bool := true
  deriving DecidableEq, Repr

/-- Who is owed a completion, response or report. -/
inductive Src where
  | nobody
  | host (ring cmdId kind : Nat)
  /-- A partner request: session index, request sequence and message type (R365). -/
  | partner (sess seq type : Nat)
  /-- The calendar: list, entry within the list, cycle, essential. -/
  | calendar (list entry cycle : Nat) (ess : Bool)
  /-- A command that the twin forwarded (R440). -/
  | twin (num : Nat)
  deriving DecidableEq, Repr

/-- The window through which a register is reached: host software at BAR0, the supervisor through its mirror (R600), host software at
the kick window BAR2 (R391). -/
inductive Window where
  | host | supervisor | kick | config
  deriving DecidableEq, Repr

/-- A kick of the event ring: its consumer index, and whether host memory fails the entries written from then on (R418, R421). -/
structure EvtKick where
  ci : Nat
  fails : Bool := false
  deriving DecidableEq, Repr

/-- A beat of 64 B: byte k has enable bit k, and its data are bits 8k to 8k + 7 (R591). -/
structure Beat where
  en : BitVec 64
  data : BitVec 512 := 0
  deriving DecidableEq, Repr

/-- A burst that a master of the fast matrix has issued (R591, R592). -/
structure MtxReq where
  master : Nat
  /-- Transaction ID. -/
  id : Nat := 0
  write : Bool := false
  addr : Nat
  beats : List Beat
  /-- SRAM errors that a read meets for the first time: address, corrected or not (R604). -/
  found : List (Nat × Bool) := []
  /-- Cycles that it has waited for its grant; once granted, the beats delivered. -/
  waited : Nat := 0
  delivered : Option Nat := none
  /-- The command or calendar instance that it serves. -/
  src : Src := .nobody
  deriving DecidableEq, Repr

/-- What MASTER_RESET brings: the master, by its code of R592, and the bursts that the matrix holds (R606). -/
structure MtxReset where
  master : Nat
  held : List MtxReq := []
  deriving DecidableEq, Repr

end Sys2Proof.Machine
end

