-- ==== Sys2Proof/Syntax.lean ====
section
/-! DEFINITION. The commands of the block: one constructor per row of the opcode table, in its order. What happens outside the device is
an operand: the sender, the measured value, the instant, the bytes. Times measured in 2⁻¹⁶ ns of DT. -/

namespace Sys2Proof

open Machine

/-- A command of the opcode table. (DESIGN CHOICE, log 7.) -/
inductive Instr where
  /-- R560: The filtered falling edge of PORST_N resets both dies outside the safety island's own reset scope, starts the park sequencer and makes every output inert. -/
  | porstAssert
  /-- R561: The filtered falling edge of RESET_N resets the logic die and the slot sequencers and starts the park sequencer, while the safety island, the fault history and the shutdown latch are kept. -/
  | resetNAssert
  /-- R192: The release of PORST_N sets DT to zero with the first frame marker on it and starts the POR work. -/
  | porstRelease
  /-- R566: The release of RESET_N starts the POR work, and the safety island delivers the raises it kept to the fault logger. -/
  | resetNRelease
  /-- R464: VDD_SAFE rising through its power-on threshold resets the safety island, with the outputs off and the configuration at its reset values. -/
  | safetyIslandReset
  /-- R464: The loss of VDD_SAFE or VSAFE_OUT removes the drive of both output switches, which turn off. -/
  | safetySupplyLoss
  /-- R562: RESET_N held low for more than 10 s makes the safety island set SIU_STICKY.RST_HELD. -/
  | rstHeldTimeout
  /-- R101: 1.0 µs after the reset edge the park sequencer samples OWNX_Dd and asserts OWN_Dd for each domain that the twin does not own. -/
  | parkOwnxSample
  /-- R101: At the first park marker at least 300 ns later the park sequencer samples OWNX_Dd again and either releases the domain or starts one full park burst in it. -/
  | parkBurstStart
  /-- R101: 10 ns after the park burst ends the park sequencer deasserts OWN_Dd, and the columns go to 0 V. -/
  | parkBurstEnd
  /-- R101: Every 1.0 ms while reset is asserted the park sequence repeats from the OWNX_Dd sample. -/
  | parkRepeat
  /-- R566: With both resets released and the PLL lock, fuse read and SRAM clearing complete, the device enters BOOT. -/
  | porDone
  /-- R573: The boot ROM finishes image selection and either starts the first verified firmware in CONFIG or enters RECOVERY. -/
  | bootDone
  /-- R567: The completion of one row of CONFIG steps starts the next row. -/
  | configRowDone
  /-- R425: When the 100 ms join wait ends, the device takes role SOLO or STANDBY. -/
  | joinWaitEnd
  /-- R563: An internal block reset that has not completed within 1 ms raises source 929. -/
  | internalBlockResetTimeout
  /-- R21: When a slot sequencer sees no tree-clock edge for 50 ns, the monitor forces FRS_Ttt low in every tile and holds the address and the columns. -/
  | treeClockLoss
  /-- R21: 10 ns after a tree-clock loss the monitor deasserts every OWN_Dd and holds them deasserted until reset. -/
  | treeLossOwnRelease
  /-- R27: Every 3,200 ticks a frame marker starts a new frame of 32 row slots in every tile. -/
  | frameMarker
  /-- R27: A row slot begins, with its address, its column codes and its strobe and sense timing. -/
  | slotStart (slot : Nat) (bad : List (Nat × Nat))
  /-- R80: A column held at the 150 mA limit for more than 200 ns raises a drive fault and is counted. -/
  | columnCurrentLimit (t c : Nat) (ends : Bool)
  /-- R80: FRF_Ttt reaching its 6 mA limit holds the bias at the limit and raises a sense fault. -/
  | frfBiasLimit (t : Nat) (ends : Bool)
  /-- R125: The record of one slot and line crosses to the tile engine, with its REASON set. -/
  | sampleRecord (t slot line c1 c2 : Nat) (sat1 sat2 : Bool)
  /-- R126: When a tap's fine counter reaches FINE_FRAMES, the tap's range becomes one step finer. -/
  | rangeFiner (t e x : Nat)
  /-- R130: A flagged run of FAULT_FRAMES consecutive valid records of one tap raises the sense-fault event once. -/
  | senseFaultRun (t e x : Nat)
  /-- R150: Once the record of slot 2r+1 is in, the tile engine runs the loop of every lane of row r and places the row's codes for the next frame. -/
  | loopRowUpdate (t r : Nat)
  /-- R160: After MISS_MAX consecutive unmeasured frames the lane freezes its observer and integrators. -/
  | loopFreeze (t e : Nat)
  /-- R170: After REACQ_FRAMES measured frames re-acquire ends, with a handover due. -/
  | reacqEnd (t e : Nat)
  /-- R173: An innovation run of DIV_FRAMES frames resets the lane into re-acquire and counts an episode, which may hold the lane or raise the tile event. -/
  | divergenceEpisode (t e : Nat)
  /-- R173: Every 100,000 frames from tree calibration a divergence counting window closes and the next one begins. -/
  | divergenceWindowEnd
  /-- R172: A lane whose HOLD time reaches HOLD_MAX enters PARK, raises the hold event and is counted. -/
  | holdMaxExpiry (t e : Nat)
  /-- R137: A tap drift test that holds for DRIFT_CNT consecutive valid frames sets the element's drift flag, which may park the lane. -/
  | driftFlag (t e : Nat)
  /-- R138: At the end of each 256-frame epoch the telemetry banks exchange. -/
  | epochEnd
  /-- R133: At the end of a 250 ms period the spare slice takes over its line if the comparison passed, and the step is postponed, refused or failed otherwise. -/
  | scarabStep (t pairs : Nat) (sum : Int)
  /-- R133: The spare slice ends its calibration and holds its new coefficients unapplied. -/
  | scarabCalDone (t : Nat) (ok : Bool)
  /-- R133: 65 frames before the step the spare slice starts converting its target line alongside the serving slice. -/
  | scarabOverlapStart (t : Nat)
  /-- R135: The start-up calibration of the slices, ranges and lines ends and sets CAL_DONE. -/
  | senseStartupCalDone (t slices lines opens : Nat)
  /-- R136: A write of SNS_CTRL.LINE_CHECK starts a line check in an unowned tile and is refused in an owned one. -/
  | lineCheck (t : Nat)
  /-- R136: A line check ends, marking the lines that took too little charge as open. -/
  | lineCheckDone (t opens : Nat)
  /-- R72: A change of OWNX_Dd passes the 20 ns glitch filter. -/
  | ownxChange (d : Nat) (level : Bool)
  /-- R72: OWN_Dd and the filtered OWNX_Dd both asserted for 1.0 µs raise the conflict event, and the port-S device releases the domain. -/
  | ownershipConflict (d : Nat)
  /-- R75: A descriptor block read completes, or fails and is retried. -/
  | descriptorBlockDone (block : List Byte) (ok : Bool)
  /-- R75: FDI_SDA held low for 35 ms is cleared with nine clock pulses and counted as one retry. -/
  | fdiBusClear
  /-- R78: A write of KFI_CTRL.DESC_REREAD starts a re-read when no OWN_Dd is asserted, and is counted as ignored otherwise. -/
  | descReread
  /-- R88: A write of DRV_SPAN with a new span starts the span-change sequence of the tile. -/
  | spanChange (t v : Nat)
  /-- R88: At F0+D the new spans become live and the park codes are recomputed. -/
  | parkDwellEnd (t : Nat)
  /-- R96: STEEP_DWELL after the steep burst ends, the target burst begins. -/
  | steepDwellEnd (t : Nat)
  /-- R259: The last burst of a commit ends in a tile, and the tile idles until the next marker. -/
  | burstsEnd (t : Nat)
  /-- R97: The filtered fall of FABRIC_CLR_N ends the current slot, writes a full park burst and holds every lane in PARK. -/
  | fabricClrAssert
  /-- R97: The clear's park burst ends, and the tile idles until the next frame marker. -/
  | clearBurstEnd (t : Nat)
  /-- R100: The filtered rise of FABRIC_CLR_N lets the lanes leave PARK at the next frame marker. -/
  | fabricClrRelease
  /-- R200: A PTP Announce message is received and updates source qualification and the best-source choice. -/
  | announceReceived (m : PtpMsg) (data : List Nat) (steps : Nat) (ts : Bool)
  /-- R201: A PTP Sync message is timestamped and, when complete, yields an offset sample. -/
  | syncReceived (m : PtpMsg) (t1 : Int) (twoStep : Bool)
  /-- R201: A Follow_Up completes the offset sample of a two-step Sync. -/
  | followUpReceived (m : PtpMsg) (t1 : Int)
  /-- R201: The time unit sends a Delay_Req at the rate given in Delay_Resp and takes its egress time. -/
  | delayReqSend (t3 : Int)
  /-- R201: A Delay_Resp completes an end-to-end path delay sample and updates MPD. -/
  | delayRespReceived (m : PtpMsg) (t4 : Int)
  /-- R201: The time unit sends a Pdelay_Req for the peer-to-peer delay. -/
  | pdelayReqSend (p : Nat) (t1 : Int)
  /-- R199: A Pdelay_Req from the peer is answered one-step. -/
  | pdelayReqReceived (m : PtpMsg) (t3 : Int)
  /-- R201: A Pdelay response completes a peer path delay sample. -/
  | pdelayRespReceived (m : PtpMsg) (turn : Int)
  /-- R200: Announce or Sync messages stopping for their limit lose the source, taking the unit to HOLDOVER or FREERUN. -/
  | sourceLost
  /-- R228: A write of TMU_CTRL that changes the port, transport, delay mechanism, domain or PTP_EN acts as a change or loss of source. -/
  | tmuCtrlWrite (v : Nat)
  /-- R210: TIME_STEP in Accept mode places the pending step with the quoted STEP_ID. -/
  | timeStepAccept (c : HostCmd)
  /-- R210: TIME_STEP in Explicit mode places a signed step given in the command. -/
  | timeStepExplicit (c : HostCmd)
  /-- R211: When DT reaches M minus the arm margin, the placement of the step is fixed. -/
  | stepPlacementFixed
  /-- R211: When the fixing instant of the last candidate marker passes without a placement, the TIME_STEP ends ABORTED. -/
  | timeStepAbort
  /-- R212: The step remainder has been slewed out and SLEWING clears. -/
  | slewEnd
  /-- R218: The tree calibration ends on the tree calibration marker, or marks the leaves that cannot be calibrated. -/
  | treeCalDone (delays : List (Option Nat))
  /-- R220: Within each second in RUN every leaf is measured again, and a drifted leaf is scheduled for a trim move or marked. -/
  | treeRemeasure (errs : List (Option Int))
  /-- R221: The recalibration of the 12 leaves of a returning domain ends, and the domain returns to service or to FENCED. -/
  | returnCalDone (d : Nat) (delays : List (Option Nat))
  /-- R224: A write of TOUTn_CTRL.ARM loads the staged values and starts the output, or sets LATE. -/
  | toutArm (n : Nat)
  /-- R224: A write of TOUTn_CTRL.STOP ends the output after any pulse in progress. -/
  | toutStop (n : Nat)
  /-- R223: A pulse output rises or falls on the first tick at or after its due DT. -/
  | toutEdge (n : Nat)
  /-- R226: An edge on TCAPn is timestamped into the FIFO, or dropped and counted. -/
  | tcapEdge (n u : Nat) (fall : Bool)
  /-- R227: A read of TCAPn_NS removes the oldest entry and latches its other words. -/
  | tcapRead (p : Window) (n : Nat)
  /-- R195: A read of a latching register returns its word and copies the other words of the value into the path's shadows. -/
  | latchingRegisterRead (p : Window) (o : Nat)
  /-- R215: A forwarded event message that cannot leave within 20 µs is dropped and counted. -/
  | tcEgressTimeout (p : Nat)
  /-- R238: OBJECT_LOAD fetches and checks a plan, edit, gain set, compensation table or image, or releases an edit. -/
  | objectLoad (c : HostCmd)
  /-- R239: A load that waited for the staging from its slot or edit to end proceeds. -/
  | objectLoadResume (n : Nat)
  /-- R239: A load completes, making the slot or edit valid. -/
  | objectLoadDone (n : Nat) (same : Bool)
  /-- R251: TXN_STAGE is checked, admitted and copied into the pending banks of the involved tiles. -/
  | txnStage (c : HostCmd)
  /-- R252: The copy into the pending banks completes, and the transaction enters STAGED or ARMING and completes DONE. -/
  | stageCopyDone (i : Nat)
  /-- R253: TXN_ARM checks the commit DT and starts arming a staged transaction. -/
  | txnArm (c : HostCmd)
  /-- R250: TXN_ABORT reaches the transaction controller and aborts a transaction not yet armed. -/
  | txnAbort (c : HostCmd)
  /-- R254: Within t_FRZ of the freeze marker a tile reports armed to the time island. -/
  | armedReport (t k : Nat)
  /-- R257: At the deadline tick the transaction enters ARMED if every tile is armed, and ends NOT_ARMED otherwise. -/
  | armDeadline (i : Nat)
  /-- R259: On the commit tick every involved tile ends its slot, changes its lanes to BURST and starts the bursts. -/
  | commitTick (h : Nat)
  /-- R267: A QUENCH demand reaching the time island fixes the QUENCH tick 64 ticks later. -/
  | quenchDemand
  /-- R267: On the QUENCH tick pending transactions abort and a dark-plan commit goes to every owned tile. -/
  | quenchTick
  /-- R261: A tile's verify window closes after VERIFY_WIN. -/
  | verifyWindowClose (t h : Nat)
  /-- R262: Once the last frame sampled within its window is processed, or all lanes are verified, the tile decides its outcome and the transaction ends DONE or SETTLE_LATE. -/
  | verifyOutcome (t h : Nat)
  /-- R411: TABLE_WRITE checks its entries whole and stores them into the named table. -/
  | tableWrite (c : HostCmd)
  /-- R411: TABLE_COMMIT makes a tile, admission or classifier table pending for its exchange. -/
  | tableCommit (c : HostCmd)
  /-- R295: The calendar action START puts an idle list in WAITING on its base, or refuses it under the late policy. -/
  | calendarStart (c : HostCmd)
  /-- R298: The calendar action STOP_BOUNDARY sets STOP_PEND so that the list stops at a cycle boundary. -/
  | stopBoundary (c : HostCmd)
  /-- R298: The calendar action STOP_NOW makes the list IDLE at once and cancels any pending swap. -/
  | stopNow (c : HostCmd)
  /-- R297: The calendar action SWAP schedules the replacement of a running list at a swap boundary. -/
  | calendarSwap (c : HostCmd)
  /-- R291: At an instance's issue point the sequencer tests collision, lateness and throttle, and then issues a TXN_STAGE with the commit DT. -/
  | calIssuePoint (n : Nat)
  /-- R296: At a cycle boundary the list counts a cycle and carries out a pending stop or swap. -/
  | calCycleBoundary (n : Nat)
  /-- R321: Every 4 µs the scheduler trues up, raises credits, ends requests, selects, resolves conflicts and admits. -/
  | admissionTick
  /-- R328: On every REFILL-th tick pending tables become live, registers take effect, f is read and the rates are recomputed. -/
  | refill
  /-- R321: An open request whose latest admission instant has passed ends THROTTLED or LATE_REJECT. -/
  | requestExpiry
  /-- R332: On every 16th tick the monitored queues are sampled into the histograms. -/
  | queueSample
  /-- R333: A write of ADM_HIST_CTRL.SWAP requests a histogram bank exchange at the next sample. -/
  | histSwap
  /-- R343: A control port gains block lock, without high BER and with FEC lock, and comes up. -/
  | linkUp (n : Nat)
  /-- R343: A control port goes down and raises the link-lost event. -/
  | linkDown (n : Nat) (lock ber fec : Bool)
  /-- R344: A frame received on CP0 or CP1 is checked, stamped, parsed and classified and then acted upon. -/
  | frameReceived (f : RxFrame)
  /-- R357: A stamp not released 10 µs after the oldest waiting frame arrived is skipped. -/
  | reorderTimeout (n : Nat)
  /-- R360: The older rule version drains, or 20 µs pass, and the waiting writes and commits are applied. -/
  | versionDrain
  /-- R345: An ARP request for a port address is answered in hardware when ND_EN is set. -/
  | arpRequest (n : Nat) (b : List Byte)
  /-- R345: An IPv6 neighbour solicitation for a port address is answered in hardware when ND_EN is set. -/
  | neighbourSolicitation (n : Nat) (b : List Byte)
  /-- R376: A GCRP PLAN_SELECT is checked, sequenced and sent into admission. -/
  | planSelect (r : GcrpReq)
  /-- R376: A GCRP EDIT_APPLY is checked, sequenced and sent into admission. -/
  | editApply (r : GcrpReq)
  /-- R377: A GCRP CIRCUIT is copied to its host ring and answered QUEUED. -/
  | circuit (r : GcrpReq)
  /-- R378: A GCRP QUERY is answered DONE with the data of its kind. -/
  | query (r : GcrpReq)
  /-- R371: A GCRP SESSION_OPEN allocates or reuses a session record and answers with its index. -/
  | sessionOpen (r : GcrpReq)
  /-- R373: A GCRP SESSION_CLOSE ends the session and puts its record in quarantine. -/
  | sessionClose (r : GcrpReq)
  /-- R378: A GCRP HEARTBEAT is answered DONE with its echo and the present DT. -/
  | heartbeat (r : GcrpReq)
  /-- R373: A session whose IDLE_AGE reaches its idle time ends. -/
  | sessionIdleExpiry (i : Nat)
  /-- R373: At the end of quarantine the session record becomes invalid. -/
  | quarantineEnd (i : Nat)
  /-- R389: A function level reset resets the host island only. -/
  | functionLevelReset
  /-- R389: A PCIe hot reset resets the host island only. -/
  | hotReset
  /-- R389: A loss of the PCIe link resets the host island and raises the link-down source. -/
  | pcieLinkLoss
  /-- R618: PCIE_PERST_N low resets the PCIe endpoint and the host island. -/
  | pciePerst
  /-- R390: Bus Master Enable set to 1 lets the held completions, events and interrupts go out in order. -/
  | busMasterEnable (on : Bool)
  /-- R393: A write of HIF_CTRL.EN starts or stops fetching. -/
  | hostInterfaceEnable (v : Nat)
  /-- R397: A write of HIF_ADM_CFG.EN enables or disables ring pair 0 and resets its indices. -/
  | adminRingEnable (v : Nat)
  /-- R395: A write of HIF_EVT_CFG.EN enables or disables the event ring. -/
  | eventRingEnable (v : Nat)
  /-- R402: A KICK write with GROUP_VALID schedules a read of the doorbell line, or merges it into a pending read. -/
  | kickGroup (g : Nat)
  /-- R418: A KICK write with EVT_VALID publishes the event ring consumer index. -/
  | kickEvtCi (k : EvtKick)
  /-- R392: A KICK write that is not 32 bits wide is ignored and raises the bad-kick event. -/
  | badKick
  /-- R402: A doorbell line read returns, the rings' indices are taken and checked, and fetches are scheduled. -/
  | doorbellLineDone (g : Nat) (entries : List Nat) (ok : Bool)
  /-- R404: Every POLL_US the device reads each line that has a polled ring, as a kick. -/
  | doorbellPoll
  /-- R405: The device fetches a descriptor from an eligible ring once there is room for its completions. -/
  | descriptorFetch
  /-- R406: A fetched descriptor arrives and its form checks begin, or it is posted as a receive buffer. -/
  | descriptorReturned (c : HostCmd) (ok : Bool)
  /-- R420: COAL_US after the first unsignalled entry, the ring signals its MSI-X vector. -/
  | coalesceTimer (ring : Option Nat)
  /-- R181: CAL_LOAD writes feedforward curves into the standby bank after the CRC checks. -/
  | calLoad (c : HostCmd)
  /-- R176: CAL_SWAP exchanges the curve banks of the named tiles at the next frame marker. -/
  | calSwap (c : HostCmd)
  /-- R174: CAL_START starts a calibration sweep of the named elements from the next marker. -/
  | calStart (c : HostCmd)
  /-- R174: After D frames a sweep point stores its capture and the lane moves to the next point or ends the sweep. -/
  | calPointEnd (t : Nat)
  /-- R374: SESSION_OP open writes a host session record at a chosen free index. -/
  | sessionOpOpen (c : HostCmd)
  /-- R374: SESSION_OP close ends a session under R373. -/
  | sessionOpClose (c : HostCmd)
  /-- R374: SESSION_OP set class changes the CLASS of a valid session. -/
  | sessionOpSetClass (c : HostCmd)
  /-- R377: SESSION_OP answer sends the final response of a CIRCUIT. -/
  | sessionOpAnswer (c : HostCmd)
  /-- R413: TELEMETRY_READ copies the named data to the host buffer. -/
  | telemetryRead (c : HostCmd)
  /-- R522: HK_INJECT queues one conversion of a housekeeping channel. -/
  | hkInject (c : HostCmd)
  /-- R548: FAULT_CLEAR ends the held status of the named sources whose cause has ended. -/
  | faultClear (c : HostCmd)
  /-- R454: TWIN_OP SWITCHOVER releases ownership to a synchronised standby. -/
  | twinOpSwitchover (c : HostCmd)
  /-- R454: After 100 µs without the twin taking over, the device reasserts ownership and the switchover ends ABORTED. -/
  | switchoverTimeout
  /-- R454: TWIN_OP RESIGN makes the device resign. -/
  | twinOpResign (c : HostCmd)
  /-- R454: TWIN_OP REJOIN takes a resigned device back to STANDBY. -/
  | twinOpRejoin (c : HostCmd)
  /-- R430: Every 10 µs the device sends a TL HEARTBEAT. -/
  | heartbeatSend
  /-- R432: A twin HEARTBEAT received over TL updates the twin's role and sync state. -/
  | tlHeartbeat (m : List Byte)
  /-- R437: A RESIGN frame received from the twin announces the release of its domains. -/
  | resign (m : List Byte)
  /-- R434: A TXN_NOTE received from the active updates the standby's transactions and calendar. -/
  | txnNote (m : List Byte)
  /-- R440: A complete forwarded COMMAND is applied by the standby in CMD_NUM order. -/
  | tlCommand (m : List Byte)
  /-- R442: A forwarded MESSAGE is sent by the standby unchanged to the partner. -/
  | message (m : List Byte)
  /-- R441: A SNAPSHOT received replaces the standby's lane state records, or is discarded. -/
  | snapshot (m : List Byte)
  /-- R441: The active sends a snapshot frame of 32 lane records as of one frame marker. -/
  | snapshotSend
  /-- R438: A SYNC_DATA frame delivers part of a store image to the standby. -/
  | syncData (m : List Byte)
  /-- R445: A SYNC_END completes a store, applies the kept commands, and may set SYNCED. -/
  | syncEnd (m : List Byte) (img : StoreImg)
  /-- R431: TL losing block lock marks the twin's state as lost. -/
  | tlLinkDown
  /-- R426: No TL frame for HB_MISS × 10 µs changes the role or allows a takeover. -/
  | heartbeatLost
  /-- R450: A synchronised standby takes over a domain whose OWNX_Dd has been low for 200 ns after a release. -/
  | takeover (d : Nat)
  /-- R468: Every 250 µs the SIU evaluates its inputs and decides its state and outputs. -/
  | siuEvaluation (e : SiuEnv)
  /-- R481: The S_INIT self-test ends and the SIU enters S_STOP or S_FAULT. -/
  | siuSelfTestDone (pass : Bool)
  /-- R476: An off-pulse test switches one output channel off. -/
  | outputTest (x : Nat)
  /-- R476: The tested channel is switched back on after its readback falls, or the test fails at 400 µs. -/
  | outputTestEnd (fell : Bool)
  /-- R482: The output self-test of a start ends, and the SIU enters S_ON or S_FAULT. -/
  | startSelfTestDone (passA passB : Bool)
  /-- R478: The expiry of the degraded timer takes the SIU to S_FAULT. -/
  | degradeExpiry
  /-- R479: 300 ms after a switch the SIU checks SAFE_EDM. -/
  | edmCheck
  /-- R483: The trailing edge of a valid SAFE_RST press requests a reset. -/
  | safeRstRelease
  /-- R483: A SAFE_RST press held longer than 5 s raises the stuck reset input event. -/
  | safeRstStuck
  /-- R483: A write of 1 to RESET_REQ within presence requests an SIU reset. -/
  | resetReq
  /-- R491: A write of CFG_COMMIT makes the pending SIU configuration live, or is refused. -/
  | cfgCommit
  /-- R491: Every second the SIU recomputes CFG_CRC, and a mismatch is a configuration check failure. -/
  | cfgCrcCheck
  /-- R488: A filtered press of PRESENCE_N opens or restarts the presence window. -/
  | presencePress
  /-- R489: The presence window closes at the end of its time. -/
  | presenceWindowExpiry
  /-- R489: A write of PRES_CLOSE closes the presence window. -/
  | presClose
  /-- R489: PRESENCE_N held low for more than 10 s closes the window and sets PRES_STUCK. -/
  | presenceStuck
  /-- R506: A converter round of 0 and 1 ends and gives a kiln reading, which updates the sensors, the thresholds, throttle and compensation. -/
  | kilnReading (vf : List Nat)
  /-- R517: 20 ms after the shutdown latch is set the device releases ownership, stops the engines and turns off the transmitters. -/
  | shutdownRelease
  /-- R506: A housekeeping conversion ends, and the converter takes its next injection, calibration or channel. -/
  | hkConversionDone (c q : Nat)
  /-- R523: A write of HK_CTRL.CAL_REQ requests a calibration of every converter. -/
  | hkCalRequest (v : Nat)
  /-- R523: Every 60 s with CAL_AUTO set, a calibration is requested. -/
  | hkCalAuto
  /-- R521: VHV outside its window after the 10 µs filter raises the VHV source. -/
  | vhvExcursion (mv : Nat)
  /-- R521: VHV inside its window for 1 ms ends the cause of the VHV source. -/
  | vhvRecovered (mv : Nat)
  /-- R542: In each cycle the fault logger records the raises it has received, in order, and takes their severity actions. -/
  | eventRecord
  /-- R547: A write of FLT_INJ.GO raises an injected event. -/
  | faultInject (v : Nat)
  /-- R552: A write of FLT_SWTRIG raises software trigger sources as real notices. -/
  | softwareTrigger (v : Nat)
  /-- R554: A write of FLT_HIST_SNAP copies the history queue into the history registers. -/
  | historySnap
  /-- R537: An engine that hands over no row in 4 frames stops and raises the watchdog source. -/
  | watchdogFire (t : Nat)
  /-- R577: A write of BTU_CTRL.SEAL starts sealing the cask into the older copy. -/
  | sealCask
  /-- R577: An erase, program or readback step of a seal completes, and the seal proceeds or ends with its result. -/
  | sealStepDone (same : Bool)
  /-- R572: A write of SVN_COMMIT raises the fuse floor to the running firmware's SVN. -/
  | svnCommit
  /-- R572: A write of KEY_REVOKE revokes keys, except the running firmware's key. -/
  | keyRevoke (mask : Nat)
  /-- R580: A write of DOM_CTRL.FENCE fences the domain at the next marker. -/
  | fence (d : Nat)
  /-- R582: A write of DOM_CTRL.UPDATE requests loading of the staged microcode into a fenced domain. -/
  | update (d : Nat)
  /-- R582: A write of DOM_CTRL.RELOAD requests a reload of the live microcode into a fenced domain. -/
  | reload (d : Nat)
  /-- R580: At the first marker with no burst and no other domain loading, the domain enters LOADING and its engines stop. -/
  | loadingStart (d : Nat)
  /-- R582: The microcode load ends, the banks exchange if all CRCs match, and the domain is FENCED. -/
  | loadDone (d : Nat) (ok : Bool)
  /-- R583: A write of DOM_CTRL.RETURN starts the return of a fenced domain. -/
  | returnService (d : Nat)
  /-- R598: A supervisor write of MTX_CTRL.REMAP exchanges the boot ROM and the working SRAM at address 0. -/
  | remap
  /-- R604: The SRAM controllers scrub every word within 60 s. -/
  | scrub (found : List (Nat × Bool))
  /-- R606: A master reset during a burst completes the burst without data and retires the master's IDs. -/
  | masterReset (r : MtxReset)
  /-- R606: All IDs of a reset master are retired, and it may issue again. -/
  | retirementDone (k : Nat)
  /-- R13: A write to a register that has no row of its own changes its fields as their access codes give. -/
  | registerWrite (p : Window) (o v : Nat)
  /-- R603: A read of an RC field returns its value and clears it. -/
  | rcRegisterRead (p : Window) (o : Nat)
  /-- R602: A short, unaligned or hole access on BAR0 is ignored or returns fill and raises source 864 or 865. -/
  | bar0IllegalAccess (write : Bool) (o size v : Nat)
  /-- R622: TRST_N or power-up resets the TAP and selects IDCODE. -/
  | tapReset
  /-- R625: EXTEST drives the boundary cells while PORST_N is asserted, and acts as BYPASS otherwise. -/
  | extest
  /-- R623: SAMPLE/PRELOAD selects the boundary register. -/
  | samplePreload (cells : Nat)
  /-- R622: IDCODE selects the 32-bit identity register. -/
  | idcode
  /-- R625: HIGHZ releases every driven pin while PORST_N is asserted. -/
  | highz
  /-- R625: CLAMP holds the boundary values with bypass selected while PORST_N is asserted. -/
  | clamp
  /-- R625: EXTEST_PULSE runs the IEEE 1149.6 pulse test while PORST_N is asserted. -/
  | extestPulse
  /-- R625: EXTEST_TRAIN runs the IEEE 1149.6 train test while PORST_N is asserted. -/
  | extestTrain
  /-- R627: MBIST_RUN tests every SRAM region and the boot ROM while RESET_N is asserted. -/
  | mbistRun
  /-- R627: The memory test ends and leaves its result word. -/
  | mbistDone (failed : Nat)
  /-- R623: DIE_ID selects the 64-bit identity register. -/
  | dieId
  /-- R623: BYPASS, and every other code, selects the bypass register. -/
  | bypass (code : Nat)
  /-- R468: Every 31.25 µs the SIU samples each safety input channel and accepts a new level once it has been read on every sample for T_FILT. -/
  | siuChannelSample (raw : Nat)
  /-- R489: After a stuck episode, a filtered PRESENCE_N that has stayed high for at least 1 s lets the input open windows again. -/
  | presenceStuckEnd
  /-- R457: TL gains block lock, with FEC alignment lock when RS-FEC is on, so TL_UP becomes 1, UP_CHG is set and the twin-link-down cause ends. -/
  | twinLinkUp
  /-- R536: The PCIe link trains up again after a loss, which ends the cause of the PCIe link down source 700. -/
  | pcieLinkUp
  /-- R536: The time-base PLL loses lock, PLL_LOCK falls to 0, and source 613 is raised with severity RESIGN. -/
  | timeBasePllUnlock
  /-- R229: The time-base PLL regains lock in RUN, PLL_LOCK returns to 1, and the cause of source 613 ends. -/
  | timeBasePllRelock
  /-- R446: The lockstep supervisor pair detects a mismatch and raises source 928, resignation cause 0x01. -/
  | supervisorLockstepMismatch
  /-- R428: A TL frame with a bad FCS, another EtherType, another destination address or an unknown VERSION is dropped and counted in TL_DROP. -/
  | tlFrameRejected
  /-- R444: The active or SOLO sender transmits the next SYNC_DATA or SYNC_END frame of the store it is streaming to a standby that needs sync. -/
  | syncSend (data : List Byte) (last : Bool)
  /-- R420: Host software unmasks an MSI-X vector or the function, and the device sends the held message for each pending bit. -/
  | msixVectorUnmask (v : Option Nat)
  deriving DecidableEq, Repr

end Sys2Proof
end

