-- ==== Sys2Proof/Config.lean ====
section
/-! DEFINITION. What an implementation fixes, and the free values. No free value has a body that a proof could see. -/

namespace Sys2Proof.Config

/-! The PCIe endpoint's fixed properties (R388), which its configuration space reports. -/

abbrev vendorId : Nat := 0x1FD7
abbrev deviceId : Nat := 0x1096
abbrev classCode : Nat := 0x088000
abbrev msixVectors : Nat := 2048
/-- AER: the mask after reset, with every uncorrectable error masked. (PRESUMED, log 146.) -/
abbrev aerUncorrMasked : Nat := 0xFFFFFFFF
/-- Non-posted requests outstanding at most. -/
abbrev maxNonPosted : Nat := 512

/-! The free values. -/

/-- A fresh value for a result the spec leaves open, applied to the counter `State.free`. (DESIGN CHOICE, log 13.) -/
opaque freeValue : Nat → BitVec 64

/-- SHA-384 of a byte string (R570, R572); the spec names the algorithm and does not define it. (DESIGN CHOICE, log 14.) -/
opaque sha384 : List Byte → List Byte

/-- ECDSA P-384 over a digest (R571, R572): public key, digest, signature. (DESIGN CHOICE, log 14.) -/
opaque ecdsaP384 : List Byte → List Byte → List Byte → Bool

/-- The SHA-384 key hashes of the fuses (R572), by key index. (DESIGN CHOICE, log 14.) -/
opaque keyHash : Nat → List Byte

/-- The fused 64-bit die identity (R628). (DESIGN CHOICE, log 14.) -/
opaque dieId : BitVec 64

/-- What a calendar pool entry reads as while no write has reached it after a reset (R288 leaves it undefined). (DESIGN CHOICE, log 14.) -/
opaque poolReset : Nat → BitVec 128

/-- The temperature, in 1/16 °C as 16 bits, that the kiln takes from a diode's code with its gain and offset trims; R507 names the
conversion and does not give it. (DESIGN CHOICE, log 54.) -/
opaque diodeTemp : Nat → Nat → Nat → BitVec 16

/-- A thermistor's temperature where the formula of R508 has none: β = 0, or 1 ÷ T = 0. (DESIGN CHOICE, log 54.) -/
opaque ntcOpen : Nat → BitVec 16

/-- The trims of the ROM (R578), by their place in bytes 0x0040 to 0xD8FF of the cask image. (DESIGN CHOICE, log 150.) -/
opaque romTrim : Nat → BitVec 8

/-- The sense trims of a tile after its calibration n (R133, R135), by place in their 512 bytes. (DESIGN CHOICE, log 150.) -/
opaque calTrim : Nat → Nat → BitVec 8

end Sys2Proof.Config
end

