-- ==== Sys2Proof/Machine/Regs.lean ====
section
/-! DEFINITION. The set-up window's register map, written from the register tables of the spec (R13 to R15, R45, R601 and the
register sections of chapters 2 to 18): one constant per field, with its offset in BAR0, its place in the word, its access
code, its reset value and the encodings that are not reserved. -/

namespace Sys2Proof.Machine

/-- The access codes of R13. -/
inductive Acc where
  | rw | ro | w1c | w1s | wo | rc | rwp | rwt
  deriving DecidableEq, Repr

/-- The encodings of a field that are not reserved (R15). -/
inductive Legal where
  | any
  /-- 0 to `hi`. -/
  | upTo (hi : Nat)
  /-- `lo` to `hi`. -/
  | range (lo hi : Nat)
  /-- Everything but `lo` to `hi`. -/
  | notIn (lo hi : Nat)
  /-- 0 to `hi`, and the value `all`. -/
  | orAll (hi all : Nat)
  /-- The multiples of `n` (a base address whose low bits must be 0). -/
  | mult (n : Nat)
  deriving DecidableEq, Repr

/-- Is `v` an encoding the register tables allow? -/
def Legal.ok : Legal → Nat → Bool
  | .any, _ => true
  | .upTo hi, v => decide (v ≤ hi)
  | .range lo hi, v => decide (lo ≤ v) && decide (v ≤ hi)
  | .notIn lo hi, v => decide (v < lo) || decide (hi < v)
  | .orAll hi all, v => decide (v ≤ hi) || decide (v = all)
  | .mult n, v => decide (v % n = 0)

/-- One field of one register, or of `count` registers `stride` bytes apart. -/
structure Fd where
  /-- BAR0 offset of the first instance. -/
  off : Nat
  stride : Nat
  count : Nat
  /-- Lowest bit and width in the 32-bit word. -/
  lo : Nat
  wd : Nat
  acc : Acc
  /-- Value after reset (R13). -/
  rst : Nat
  legal : Legal
  deriving DecidableEq, Repr

/-- The same field at another offset (register groups that repeat). -/
def Fd.plus (f : Fd) (n : Nat) : Fd := { f with off := f.off + n }

/-- Offset of instance `i`. -/
def Fd.offAt (f : Fd) (i : Nat) : Nat := f.off + f.stride * i

/-- Does the field lie in the word at offset `o`? -/
def Fd.covers (f : Fd) (o : Nat) : Bool :=
  if f.count ≤ 1 then decide (o = f.off)
  else decide (f.off ≤ o) && decide ((o - f.off) % f.stride = 0) && decide ((o - f.off) / f.stride < f.count)

/-- Instance number of the word at offset `o`. -/
def Fd.inst (f : Fd) (o : Nat) : Nat := if f.count ≤ 1 then 0 else (o - f.off) / f.stride

end Sys2Proof.Machine

/-! ### The fields, block by block -/
namespace Sys2Proof.Machine.Reg
open Sys2Proof.Machine

/-- R81 (DESIGN CHOICE, log 78.) -/ def KFI_CTRL_FDI_FAST : Fd := ⟨0x400, 0x0, 1, 0, 1, .rw, 0x1, .any⟩
/-- R81 -/ def KFI_CTRL_DESC_REREAD : Fd := ⟨0x400, 0x0, 1, 1, 1, .w1s, 0x0, .any⟩
/-- R82 -/ def KFI_STATUS_DESC_VALID : Fd := ⟨0x404, 0x0, 1, 0, 1, .ro, 0x0, .any⟩
/-- R82 -/ def KFI_STATUS_PARK_TABLE : Fd := ⟨0x404, 0x0, 1, 1, 1, .ro, 0x0, .any⟩
/-- R82 -/ def KFI_STATUS_DESC_ERR : Fd := ⟨0x404, 0x0, 1, 2, 4, .ro, 0x0, .any⟩
/-- R82 -/ def KFI_STATUS_PORT_STRAP : Fd := ⟨0x404, 0x0, 1, 6, 1, .ro, 0x0, .any⟩
/-- R82 -/ def KFI_STATUS_READING : Fd := ⟨0x404, 0x0, 1, 7, 1, .ro, 0x0, .any⟩
/-- R82 -/ def KFI_STATUS_OWN : Fd := ⟨0x404, 0x0, 1, 8, 8, .ro, 0x0, .any⟩
/-- R82 -/ def KFI_STATUS_OWNX : Fd := ⟨0x404, 0x0, 1, 16, 8, .ro, 0x0, .any⟩
/-- R82 -/ def KFI_STATUS_REREAD_IGN : Fd := ⟨0x404, 0x0, 1, 24, 4, .rc, 0x0, .any⟩
/-- R111 -/ def DRV_SPAN_SPAN_PRI : Fd := ⟨0x100100, 0x1000, 96, 0, 2, .rw, 0x0, .upTo 2⟩
/-- R111 -/ def DRV_SPAN_SPAN_TRIM : Fd := ⟨0x100100, 0x1000, 96, 2, 2, .rw, 0x0, .upTo 2⟩
/-- R111 -/ def DRV_SPAN_SPAN_BUSY : Fd := ⟨0x100100, 0x1000, 96, 8, 1, .ro, 0x0, .any⟩
/-- R111 -/ def DRV_SPAN_SPAN_WAIT : Fd := ⟨0x100100, 0x1000, 96, 9, 1, .ro, 0x0, .any⟩
/-- R111 -/ def DRV_SPAN_LIVE_PRI : Fd := ⟨0x100100, 0x1000, 96, 10, 2, .ro, 0x0, .any⟩
/-- R111 -/ def DRV_SPAN_LIVE_TRIM : Fd := ⟨0x100100, 0x1000, 96, 12, 2, .ro, 0x0, .any⟩
/-- R112 -/ def DRV_SLEW_N_STEP : Fd := ⟨0x100104, 0x1000, 96, 0, 16, .rw, 0x1000, .range 1 65535⟩
/-- R112 -/ def DRV_SLEW_B_STEP : Fd := ⟨0x100108, 0x1000, 96, 0, 16, .rw, 0x2000, .range 1 65535⟩
/-- R112 -/ def DRV_SLEW_N_RATE : Fd := ⟨0x100104, 0x1000, 96, 16, 3, .rw, 0x1, .range 1 7⟩
/-- R112 -/ def DRV_SLEW_B_RATE : Fd := ⟨0x100108, 0x1000, 96, 16, 3, .rw, 0x1, .range 1 7⟩
/-- R113 (DESIGN CHOICE, log 78.) -/ def DRV_CTRL_DEGLITCH_EN : Fd := ⟨0x10010C, 0x1000, 96, 0, 1, .rw, 0x1, .any⟩
/-- R113 -/ def DRV_CTRL_STEEP_EN : Fd := ⟨0x10010C, 0x1000, 96, 1, 1, .rw, 0x1, .any⟩
/-- R113 -/ def DRV_CTRL_STEEP_DWELL : Fd := ⟨0x10010C, 0x1000, 96, 8, 8, .rw, 0x10, .any⟩
/-- R113 -/ def DRV_CTRL_PARK_DWELL : Fd := ⟨0x10010C, 0x1000, 96, 16, 5, .rw, 0x5, .range 5 31⟩
/-- R114 -/ def DRV_STEEP_STEEP_GAIN_PRI : Fd := ⟨0x100110, 0x1000, 96, 0, 8, .rw, 0x40, .any⟩
/-- R114 -/ def DRV_STEEP_STEEP_GAIN_TRIM : Fd := ⟨0x100110, 0x1000, 96, 8, 8, .rw, 0x0, .any⟩
/-- R114 -/ def DRV_STEEP_STEEP_MAX : Fd := ⟨0x100110, 0x1000, 96, 16, 16, .rw, 0x4000, .any⟩
/-- R115 -/ def FF_CTRL_FF_AMP_PRI : Fd := ⟨0x100114, 0x1000, 96, 0, 11, .rw, 0x40, .upTo 1024⟩
/-- R115 -/ def FF_CTRL_FF_AMP_TRIM : Fd := ⟨0x100114, 0x1000, 96, 11, 11, .rw, 0x0, .upTo 1024⟩
/-- R115 -/ def FF_CTRL_FF_TOFF : Fd := ⟨0x100114, 0x1000, 96, 22, 2, .rw, 0x0, .upTo 2⟩
/-- R115 -/ def FF_CTRL_FF_SRC : Fd := ⟨0x100114, 0x1000, 96, 24, 1, .rw, 0x0, .any⟩
/-- R116 -/ def DRV_STATUS_CLR : Fd := ⟨0x100118, 0x1000, 96, 0, 1, .ro, 0x0, .any⟩
/-- R116 -/ def DRV_STATUS_BURST : Fd := ⟨0x100118, 0x1000, 96, 1, 1, .ro, 0x0, .any⟩
/-- R116 -/ def DRV_STATUS_PARK_HOLD : Fd := ⟨0x100118, 0x1000, 96, 2, 1, .ro, 0x0, .any⟩
/-- R116 -/ def DRV_STATUS_DRV_FAULT : Fd := ⟨0x100118, 0x1000, 96, 8, 8, .w1c, 0x0, .any⟩
/-- R116 -/ def DRV_STATUS_ILIM_NOW : Fd := ⟨0x100118, 0x1000, 96, 16, 8, .ro, 0x0, .any⟩
/-- R117 -/ def DRV_MISS_MISS : Fd := ⟨0x10011C, 0x1000, 96, 0, 16, .rc, 0x0, .any⟩
/-- R117 -/ def DRV_MISS_FF_CLIP : Fd := ⟨0x10011C, 0x1000, 96, 16, 16, .rc, 0x0, .any⟩
/-- R117 -/ def DRV_ILIM0_C0 : Fd := ⟨0x100120, 0x1000, 96, 0, 8, .rc, 0x0, .any⟩
/-- R117 -/ def DRV_ILIM0_C1 : Fd := ⟨0x100120, 0x1000, 96, 8, 8, .rc, 0x0, .any⟩
/-- R117 -/ def DRV_ILIM0_C2 : Fd := ⟨0x100120, 0x1000, 96, 16, 8, .rc, 0x0, .any⟩
/-- R117 -/ def DRV_ILIM0_C3 : Fd := ⟨0x100120, 0x1000, 96, 24, 8, .rc, 0x0, .any⟩
/-- R117 -/ def DRV_ILIM1_C4 : Fd := ⟨0x100124, 0x1000, 96, 0, 8, .rc, 0x0, .any⟩
/-- R117 -/ def DRV_ILIM1_C5 : Fd := ⟨0x100124, 0x1000, 96, 8, 8, .rc, 0x0, .any⟩
/-- R117 -/ def DRV_ILIM1_C6 : Fd := ⟨0x100124, 0x1000, 96, 16, 8, .rc, 0x0, .any⟩
/-- R117 -/ def DRV_ILIM1_C7 : Fd := ⟨0x100124, 0x1000, 96, 24, 8, .rc, 0x0, .any⟩
/-- R139 -/ def SNS_CTRL_RANGE_MODE : Fd := ⟨0x100200, 0x1000, 96, 0, 1, .rw, 0x0, .any⟩
/-- R139 -/ def SNS_CTRL_FIX_RANGE : Fd := ⟨0x100200, 0x1000, 96, 1, 2, .rw, 0x0, .any⟩
/-- R139 -/ def SNS_CTRL_SCARAB_EN : Fd := ⟨0x100200, 0x1000, 96, 3, 1, .rw, 0x1, .any⟩
/-- R139 -/ def SNS_CTRL_LINE_CHECK : Fd := ⟨0x100200, 0x1000, 96, 4, 1, .w1s, 0x0, .any⟩
/-- R139 -/ def SNS_CTRL_FINE_FRAMES : Fd := ⟨0x100200, 0x1000, 96, 8, 4, .rw, 0x8, .range 1 15⟩
/-- R139 -/ def SNS_CTRL_FAULT_FRAMES : Fd := ⟨0x100200, 0x1000, 96, 16, 8, .rw, 0x10, .range 1 255⟩
/-- R140 -/ def SNS_SCARAB_SPARE : Fd := ⟨0x100204, 0x1000, 96, 0, 4, .ro, 0x8, .any⟩
/-- R140 -/ def SNS_SCARAB_DIR : Fd := ⟨0x100204, 0x1000, 96, 4, 1, .ro, 0x0, .any⟩
/-- R140 -/ def SNS_SCARAB_OVERLAP : Fd := ⟨0x100204, 0x1000, 96, 5, 1, .ro, 0x0, .any⟩
/-- R140 -/ def SNS_SCARAB_SCARAB_TOL : Fd := ⟨0x100204, 0x1000, 96, 8, 7, .rw, 0x20, .range 1 127⟩
/-- R140 -/ def SNS_SCARAB_FAILED : Fd := ⟨0x100204, 0x1000, 96, 16, 9, .ro, 0x0, .any⟩
/-- R141 -/ def SNS_DRIFT_DRIFT_ABS : Fd := ⟨0x100208, 0x1000, 96, 0, 16, .rw, 0x190, .any⟩
/-- R141 -/ def SNS_DRIFT_DRIFT_REL : Fd := ⟨0x100208, 0x1000, 96, 16, 8, .rw, 0x14, .any⟩
/-- R141 -/ def SNS_DRIFT_DRIFT_CNT : Fd := ⟨0x100208, 0x1000, 96, 24, 4, .rw, 0x4, .range 1 15⟩
/-- R142 -/ def SNS_STATUS_LINE_OPEN : Fd := ⟨0x10020C, 0x1000, 96, 0, 8, .ro, 0x0, .any⟩
/-- R142 -/ def SNS_STATUS_CHECK_BUSY : Fd := ⟨0x10020C, 0x1000, 96, 8, 1, .ro, 0x0, .any⟩
/-- R142 -/ def SNS_STATUS_CAL_DONE : Fd := ⟨0x10020C, 0x1000, 96, 9, 1, .ro, 0x0, .any⟩
/-- R142 -/ def SNS_STATUS_FAULT_NOW : Fd := ⟨0x10020C, 0x1000, 96, 16, 8, .ro, 0x0, .any⟩
/-- R142 -/ def SNS_STATUS_UNSERVED : Fd := ⟨0x10020C, 0x1000, 96, 24, 8, .ro, 0x0, .any⟩
/-- R143 -/ def SNS_OVR0_C0 : Fd := ⟨0x100210, 0x1000, 96, 0, 8, .rc, 0x0, .any⟩
/-- R143 -/ def SNS_OVR0_C1 : Fd := ⟨0x100210, 0x1000, 96, 8, 8, .rc, 0x0, .any⟩
/-- R143 -/ def SNS_OVR0_C2 : Fd := ⟨0x100210, 0x1000, 96, 16, 8, .rc, 0x0, .any⟩
/-- R143 -/ def SNS_OVR0_C3 : Fd := ⟨0x100210, 0x1000, 96, 24, 8, .rc, 0x0, .any⟩
/-- R143 -/ def SNS_OVR1_C4 : Fd := ⟨0x100214, 0x1000, 96, 0, 8, .rc, 0x0, .any⟩
/-- R143 -/ def SNS_OVR1_C5 : Fd := ⟨0x100214, 0x1000, 96, 8, 8, .rc, 0x0, .any⟩
/-- R143 -/ def SNS_OVR1_C6 : Fd := ⟨0x100214, 0x1000, 96, 16, 8, .rc, 0x0, .any⟩
/-- R143 -/ def SNS_OVR1_C7 : Fd := ⟨0x100214, 0x1000, 96, 24, 8, .rc, 0x0, .any⟩
/-- R143 -/ def SNS_UNR0_C0 : Fd := ⟨0x100218, 0x1000, 96, 0, 8, .rc, 0x0, .any⟩
/-- R143 -/ def SNS_UNR0_C1 : Fd := ⟨0x100218, 0x1000, 96, 8, 8, .rc, 0x0, .any⟩
/-- R143 -/ def SNS_UNR0_C2 : Fd := ⟨0x100218, 0x1000, 96, 16, 8, .rc, 0x0, .any⟩
/-- R143 -/ def SNS_UNR0_C3 : Fd := ⟨0x100218, 0x1000, 96, 24, 8, .rc, 0x0, .any⟩
/-- R143 -/ def SNS_UNR1_C4 : Fd := ⟨0x10021C, 0x1000, 96, 0, 8, .rc, 0x0, .any⟩
/-- R143 -/ def SNS_UNR1_C5 : Fd := ⟨0x10021C, 0x1000, 96, 8, 8, .rc, 0x0, .any⟩
/-- R143 -/ def SNS_UNR1_C6 : Fd := ⟨0x10021C, 0x1000, 96, 16, 8, .rc, 0x0, .any⟩
/-- R143 -/ def SNS_UNR1_C7 : Fd := ⟨0x10021C, 0x1000, 96, 24, 8, .rc, 0x0, .any⟩
/-- R143 -/ def SNS_EVENTS_RANGE_CHG : Fd := ⟨0x100220, 0x1000, 96, 0, 16, .rc, 0x0, .any⟩
/-- R143 -/ def SNS_EVENTS_SWAPS : Fd := ⟨0x100220, 0x1000, 96, 16, 8, .rc, 0x0, .any⟩
/-- R143 -/ def SNS_EVENTS_SWAP_REFUSED : Fd := ⟨0x100220, 0x1000, 96, 24, 8, .rc, 0x0, .any⟩
/-- R143 -/ def SNS_TRUNC_TRUNC : Fd := ⟨0x100224, 0x1000, 96, 0, 32, .rc, 0x0, .any⟩
/-- R183 -/ def LOOP_CTRL_RUN : Fd := ⟨0x100300, 0x1000, 96, 0, 1, .rw, 0x0, .any⟩
/-- R183 -/ def LOOP_CTRL_REACQ_FRAMES : Fd := ⟨0x100300, 0x1000, 96, 8, 8, .rw, 0x8, .any⟩
/-- R183 -/ def LOOP_CTRL_DIV_FRAMES : Fd := ⟨0x100300, 0x1000, 96, 16, 8, .rw, 0x20, .range 1 255⟩
/-- R183 -/ def LOOP_CTRL_DIV_LANE_MAX : Fd := ⟨0x100300, 0x1000, 96, 24, 4, .rw, 0x4, .range 1 15⟩
/-- R184 -/ def LOOP_MEAS_SUM_MIN : Fd := ⟨0x100304, 0x1000, 96, 0, 16, .rw, 0x19, .any⟩
/-- R184 -/ def LOOP_MEAS_MISS_MAX : Fd := ⟨0x100304, 0x1000, 96, 16, 8, .rw, 0x10, .range 1 255⟩
/-- R184 -/ def LOOP_MEAS_DIV_LIMIT : Fd := ⟨0x100304, 0x1000, 96, 24, 8, .rw, 0x40, .range 1 255⟩
/-- R185 -/ def LOOP_REGION_BAR_EDGE : Fd := ⟨0x100308, 0x1000, 96, 0, 16, .rw, 0x800, .any⟩
/-- R185 -/ def LOOP_REGION_CROSS_EDGE : Fd := ⟨0x100308, 0x1000, 96, 16, 16, .rw, 0xF800, .any⟩
/-- R186 -/ def LOOP_TEMP_TSRC : Fd := ⟨0x10030C, 0x1000, 96, 0, 3, .rw, 0x0, .any⟩
/-- R186 -/ def LOOP_TEMP_TSRC_DIE : Fd := ⟨0x10030C, 0x1000, 96, 3, 1, .rw, 0x0, .any⟩
/-- R186 -/ def LOOP_TEMP_TB_BASE : Fd := ⟨0x10030C, 0x1000, 96, 8, 8, .rw, 0x14, .any⟩
/-- R186 -/ def LOOP_TEMP_TB_STEP : Fd := ⟨0x10030C, 0x1000, 96, 16, 4, .rw, 0xA, .range 1 15⟩
/-- R186 -/ def LOOP_TEMP_TBAND : Fd := ⟨0x10030C, 0x1000, 96, 20, 3, .ro, 0x0, .any⟩
/-- R187 -/ def LOOP_HOLD_HOLD_MAX : Fd := ⟨0x100310, 0x1000, 96, 0, 9, .rw, 0x32, .range 1 500⟩
/-- R187 -/ def LOOP_HOLD_DRIFT_ACT : Fd := ⟨0x100310, 0x1000, 96, 9, 1, .rw, 0x0, .any⟩
/-- R187 -/ def LOOP_HOLD_HOLD_LEFT : Fd := ⟨0x100310, 0x1000, 96, 16, 16, .ro, 0x0, .any⟩
/-- R188 -/ def LOOP_BANK_GAIN_LIVE : Fd := ⟨0x100314, 0x1000, 96, 0, 1, .ro, 0x0, .any⟩
/-- R188 -/ def LOOP_BANK_LCFG_LIVE : Fd := ⟨0x100314, 0x1000, 96, 1, 1, .ro, 0x0, .any⟩
/-- R188 -/ def LOOP_BANK_FFC_LIVE : Fd := ⟨0x100314, 0x1000, 96, 2, 1, .ro, 0x0, .any⟩
/-- R188 -/ def LOOP_BANK_GAIN_PEND : Fd := ⟨0x100314, 0x1000, 96, 4, 1, .ro, 0x0, .any⟩
/-- R188 -/ def LOOP_BANK_LCFG_PEND : Fd := ⟨0x100314, 0x1000, 96, 5, 1, .ro, 0x0, .any⟩
/-- R188 -/ def LOOP_BANK_FFC_PEND : Fd := ⟨0x100314, 0x1000, 96, 6, 1, .ro, 0x0, .any⟩
/-- R189 -/ def LOOP_CAL_BUSY : Fd := ⟨0x100318, 0x1000, 96, 0, 1, .ro, 0x0, .any⟩
/-- R189 -/ def LOOP_CAL_DONE : Fd := ⟨0x100318, 0x1000, 96, 1, 1, .w1c, 0x0, .any⟩
/-- R189 -/ def LOOP_CAL_ABORTED : Fd := ⟨0x100318, 0x1000, 96, 2, 1, .w1c, 0x0, .any⟩
/-- R189 -/ def LOOP_CAL_POINT : Fd := ⟨0x100318, 0x1000, 96, 8, 5, .ro, 0x0, .any⟩
/-- R189 -/ def LOOP_MODES_N_FEEDBACK : Fd := ⟨0x10031C, 0x1000, 96, 0, 8, .ro, 0x0, .any⟩
/-- R189 -/ def LOOP_MODES_N_HOLD : Fd := ⟨0x10031C, 0x1000, 96, 8, 8, .ro, 0x0, .any⟩
/-- R189 -/ def LOOP_MODES_N_PARK : Fd := ⟨0x10031C, 0x1000, 96, 16, 8, .ro, 0x80, .any⟩
/-- R189 -/ def LOOP_MODES_N_OTHER : Fd := ⟨0x10031C, 0x1000, 96, 24, 8, .ro, 0x0, .any⟩
/-- R190 -/ def LOOP_SAT_ACC_SAT : Fd := ⟨0x100320, 0x1000, 96, 0, 16, .rc, 0x0, .any⟩
/-- R190 -/ def LOOP_SAT_HANDOVER_CLAMP : Fd := ⟨0x100320, 0x1000, 96, 16, 16, .rc, 0x0, .any⟩
/-- R190 -/ def LOOP_DIV_DIV_EPISODES : Fd := ⟨0x100324, 0x1000, 96, 0, 16, .rc, 0x0, .any⟩
/-- R190 -/ def LOOP_DIV_MISS_FREEZE : Fd := ⟨0x100324, 0x1000, 96, 16, 16, .rc, 0x0, .any⟩
/-- R190 -/ def LOOP_HEVT_HOLD_EXPIRED : Fd := ⟨0x100328, 0x1000, 96, 0, 8, .rc, 0x0, .any⟩
/-- R190 -/ def LOOP_HEVT_DRIFT_PARKED : Fd := ⟨0x100328, 0x1000, 96, 8, 8, .rc, 0x0, .any⟩
/-- R190 -/ def LOOP_HEVT_GS_INVALID : Fd := ⟨0x100328, 0x1000, 96, 16, 16, .rc, 0x0, .any⟩
/-- R228 -/ def TMU_CTRL_PTP_EN : Fd := ⟨0x200000, 0x0, 1, 0, 1, .rw, 0x0, .any⟩
/-- R228 -/ def TMU_CTRL_PORT : Fd := ⟨0x200000, 0x0, 1, 1, 1, .rw, 0x0, .any⟩
/-- R228 -/ def TMU_CTRL_TRANSPORT : Fd := ⟨0x200000, 0x0, 1, 2, 2, .rw, 0x0, .upTo 2⟩
/-- R228 -/ def TMU_CTRL_DELAY_MECH : Fd := ⟨0x200000, 0x0, 1, 4, 1, .rw, 0x0, .any⟩
/-- R228 -/ def TMU_CTRL_TC_MODE : Fd := ⟨0x200000, 0x0, 1, 5, 2, .rw, 0x0, .upTo 2⟩
/-- R228 -/ def TMU_CTRL_AUTO_FIRST : Fd := ⟨0x200000, 0x0, 1, 7, 1, .rw, 0x1, .any⟩
/-- R228 -/ def TMU_CTRL_DOMAIN_NUM : Fd := ⟨0x200000, 0x0, 1, 8, 8, .rw, 0x0, .any⟩
/-- R229 -/ def TMU_STATUS_SERVO_STATE : Fd := ⟨0x200004, 0x0, 1, 0, 3, .ro, 0x0, .any⟩
/-- R229 -/ def TMU_STATUS_TRACEABLE : Fd := ⟨0x200004, 0x0, 1, 3, 1, .ro, 0x0, .any⟩
/-- R229 -/ def TMU_STATUS_SLEWING : Fd := ⟨0x200004, 0x0, 1, 4, 1, .ro, 0x0, .any⟩
/-- R229 -/ def TMU_STATUS_STEP_PLACED : Fd := ⟨0x200004, 0x0, 1, 5, 1, .ro, 0x0, .any⟩
/-- R229 -/ def TMU_STATUS_PLL_LOCK : Fd := ⟨0x200004, 0x0, 1, 6, 1, .ro, 0x0, .any⟩
/-- R229 -/ def TMU_STATUS_STEP_ID : Fd := ⟨0x200004, 0x0, 1, 16, 16, .ro, 0x0, .any⟩
/-- R230 -/ def TMU_NOW_NS_NS : Fd := ⟨0x200010, 0x0, 1, 0, 30, .ro, 0x0, .any⟩
/-- R230 -/ def TMU_NOW_FRAC_FRAC : Fd := ⟨0x200014, 0x0, 1, 0, 16, .ro, 0x0, .any⟩
/-- R230 -/ def TMU_NOW_SEC_LO_SEC_LO : Fd := ⟨0x200018, 0x0, 1, 0, 32, .ro, 0x0, .any⟩
/-- R230 -/ def TMU_NOW_SEC_HI_SEC_HI : Fd := ⟨0x20001C, 0x0, 1, 0, 32, .ro, 0x0, .any⟩
/-- R231 -/ def TMU_SERVO_KP : Fd := ⟨0x200020, 0x0, 1, 0, 16, .rw, 0x8000, .any⟩
/-- R231 -/ def TMU_SERVO_KI : Fd := ⟨0x200020, 0x0, 1, 16, 16, .rw, 0x2000, .any⟩
/-- R231 -/ def TMU_LIMITS_FREQ_MAX : Fd := ⟨0x200024, 0x0, 1, 0, 8, .rw, 0x64, .range 1 200⟩
/-- R231 -/ def TMU_LIMITS_SLEW_MAX : Fd := ⟨0x200024, 0x0, 1, 8, 8, .rw, 0x32, .range 1 50⟩
/-- R231 -/ def TMU_LIMITS_HOLD_AVG : Fd := ⟨0x200024, 0x0, 1, 16, 8, .rw, 0x40, .range 1 255⟩
/-- R231 -/ def TMU_JUMP_THR_JUMP_THR : Fd := ⟨0x200028, 0x0, 1, 0, 32, .rw, 0x3E8, .range 100 4000000000⟩
/-- R231 -/ def TMU_LOCK_LOCK_THR : Fd := ⟨0x20002C, 0x0, 1, 0, 16, .rw, 0x14, .range 1 65535⟩
/-- R231 -/ def TMU_LOCK_LOCK_CNT : Fd := ⟨0x20002C, 0x0, 1, 16, 8, .rw, 0x10, .range 1 255⟩
/-- R231 -/ def TMU_LOCK_UNLOCK_CNT : Fd := ⟨0x20002C, 0x0, 1, 24, 8, .rw, 0x4, .range 1 255⟩
/-- R231 -/ def TMU_EVAL_EVAL_SAMPLES : Fd := ⟨0x200030, 0x0, 1, 0, 8, .rw, 0x10, .range 4 255⟩
/-- R231 -/ def TMU_EVAL_WITHDRAW_CNT : Fd := ⟨0x200030, 0x0, 1, 8, 8, .rw, 0x8, .range 1 255⟩
/-- R231 -/ def TMU_EVAL_EVAL_SPREAD : Fd := ⟨0x200030, 0x0, 1, 16, 16, .rw, 0x64, .range 1 65535⟩
/-- R231 -/ def TMU_STEP_STEP_WAIT : Fd := ⟨0x200034, 0x0, 1, 0, 16, .rw, 0x64, .range 1 65535⟩
/-- R231 -/ def TMU_LOSS_SYNC_LOSS : Fd := ⟨0x200038, 0x0, 1, 0, 4, .rw, 0x3, .range 2 15⟩
/-- R231 -/ def TMU_LOSS_MPD_WEIGHT : Fd := ⟨0x200038, 0x0, 1, 4, 3, .rw, 0x3, .any⟩
/-- R232 -/ def TMU_OFFSET_LO_OFFSET : Fd := ⟨0x200040, 0x0, 1, 0, 32, .ro, 0x0, .any⟩
/-- R232 -/ def TMU_OFFSET_HI_OFFSET : Fd := ⟨0x200044, 0x0, 1, 0, 32, .ro, 0x0, .any⟩
/-- R232 -/ def TMU_PEND_STEP_LO_PEND_STEP : Fd := ⟨0x200048, 0x0, 1, 0, 32, .ro, 0x0, .any⟩
/-- R232 -/ def TMU_PEND_STEP_HI_PEND_STEP : Fd := ⟨0x20004C, 0x0, 1, 0, 32, .ro, 0x0, .any⟩
/-- R232 -/ def TMU_MPD_LO_MPD : Fd := ⟨0x200050, 0x0, 1, 0, 32, .ro, 0x0, .any⟩
/-- R232 -/ def TMU_MPD_HI_MPD : Fd := ⟨0x200054, 0x0, 1, 0, 32, .ro, 0x0, .any⟩
/-- R232 -/ def TMU_FREQ_FREQ : Fd := ⟨0x200058, 0x0, 1, 0, 32, .ro, 0x0, .any⟩
/-- R232 -/ def TMU_SLEW_LEFT_SLEW_LEFT : Fd := ⟨0x20005C, 0x0, 1, 0, 32, .ro, 0x0, .any⟩
/-- R232 -/ def TMU_SRC_ID_LO_CLOCK_ID : Fd := ⟨0x200060, 0x0, 1, 0, 32, .ro, 0x0, .any⟩
/-- R232 -/ def TMU_SRC_ID_HI_CLOCK_ID : Fd := ⟨0x200064, 0x0, 1, 0, 32, .ro, 0x0, .any⟩
/-- R232 -/ def TMU_SRC_PORT_PORT_NUM : Fd := ⟨0x200068, 0x0, 1, 0, 16, .ro, 0x0, .any⟩
/-- R232 -/ def TMU_SRC_PORT_CLOCK_CLASS : Fd := ⟨0x200068, 0x0, 1, 16, 8, .ro, 0x0, .any⟩
/-- R232 -/ def TMU_ASYM_CP0_ASYM_PS : Fd := ⟨0x200070, 0x0, 1, 0, 16, .rw, 0x0, .any⟩
/-- R232 -/ def TMU_ASYM_CP1_ASYM_PS : Fd := ⟨0x200074, 0x0, 1, 0, 16, .rw, 0x0, .any⟩
/-- R233 -/ def TMU_TREE_CAL_BUSY : Fd := ⟨0x200080, 0x0, 1, 0, 1, .ro, 0x0, .any⟩
/-- R233 -/ def TMU_TREE_DONE : Fd := ⟨0x200080, 0x0, 1, 1, 1, .ro, 0x0, .any⟩
/-- R233 -/ def TMU_TREE_MAX_ERR : Fd := ⟨0x200080, 0x0, 1, 2, 8, .ro, 0x0, .any⟩
/-- R233 -/ def TMU_TREE_DOM_FAIL : Fd := ⟨0x200080, 0x0, 1, 10, 8, .ro, 0x0, .any⟩
/-- R233 -/ def TMU_TREE_TRIM_MOVES : Fd := ⟨0x200080, 0x0, 1, 18, 14, .rc, 0x0, .any⟩
/-- R233 -/ def TMU_TREE_FAIL_TILE : Fd := ⟨0x200084, 0x4, 3, 0, 32, .ro, 0x0, .any⟩
/-- R234 -/ def TOUT_CTRL_ARM : Fd := ⟨0x200100, 0x20, 4, 0, 1, .w1s, 0x0, .any⟩
/-- R234 -/ def TOUT_CTRL_STOP : Fd := ⟨0x200100, 0x20, 4, 1, 1, .w1s, 0x0, .any⟩
/-- R234 -/ def TOUT_CTRL_ACTIVE : Fd := ⟨0x200100, 0x20, 4, 2, 1, .ro, 0x0, .any⟩
/-- R234 -/ def TOUT_CTRL_LATE : Fd := ⟨0x200100, 0x20, 4, 3, 1, .w1c, 0x0, .any⟩
/-- R234 -/ def TOUT_CTRL_POL : Fd := ⟨0x200100, 0x20, 4, 4, 1, .rw, 0x0, .any⟩
/-- R234 -/ def TOUT_START_NS_NS : Fd := ⟨0x200104, 0x20, 4, 0, 30, .rw, 0x0, .upTo 999999999⟩
/-- R234 -/ def TOUT_START_SEC_LO_SEC : Fd := ⟨0x200108, 0x20, 4, 0, 32, .rw, 0x0, .any⟩
/-- R234 -/ def TOUT_START_SEC_HI_SEC : Fd := ⟨0x20010C, 0x20, 4, 0, 32, .rw, 0x0, .any⟩
/-- R234 -/ def TOUT_PERIOD_PERIOD : Fd := ⟨0x200110, 0x20, 4, 0, 32, .rw, 0x0, .notIn 1 24⟩
/-- R234 -/ def TOUT_WIDTH_WIDTH : Fd := ⟨0x200114, 0x20, 4, 0, 32, .rw, 0x4, .any⟩
/-- R235 -/ def TCAP_CTRL_EN : Fd := ⟨0x200180, 0x20, 4, 0, 1, .rw, 0x0, .any⟩
/-- R235 -/ def TCAP_CTRL_EDGE : Fd := ⟨0x200180, 0x20, 4, 1, 2, .rw, 0x1, .range 1 3⟩
/-- R235 -/ def TCAP_CTRL_OVF : Fd := ⟨0x200180, 0x20, 4, 3, 1, .w1c, 0x0, .any⟩
/-- R235 -/ def TCAP_CTRL_LEVEL : Fd := ⟨0x200180, 0x20, 4, 4, 5, .ro, 0x0, .any⟩
/-- R235 -/ def TCAP_NS_NS : Fd := ⟨0x200184, 0x20, 4, 0, 30, .ro, 0x0, .any⟩
/-- R235 -/ def TCAP_NS_FALL : Fd := ⟨0x200184, 0x20, 4, 30, 1, .ro, 0x0, .any⟩
/-- R235 -/ def TCAP_NS_VALID : Fd := ⟨0x200184, 0x20, 4, 31, 1, .ro, 0x0, .any⟩
/-- R235 -/ def TCAP_FRAC_FRAC : Fd := ⟨0x200188, 0x20, 4, 0, 16, .ro, 0x0, .any⟩
/-- R235 -/ def TCAP_SEC_LO_SEC : Fd := ⟨0x20018C, 0x20, 4, 0, 32, .ro, 0x0, .any⟩
/-- R235 -/ def TCAP_SEC_HI_SEC : Fd := ⟨0x200190, 0x20, 4, 0, 32, .ro, 0x0, .any⟩
/-- R236 -/ def TMU_CNT_EVAL_REFUSED : Fd := ⟨0x200200, 0x0, 1, 0, 16, .rc, 0x0, .any⟩
/-- R236 -/ def TMU_CNT_EVAL_EVAL_RESTART : Fd := ⟨0x200200, 0x0, 1, 16, 16, .rc, 0x0, .any⟩
/-- R236 -/ def TMU_CNT_TC_TC_SAT : Fd := ⟨0x200204, 0x0, 1, 0, 16, .rc, 0x0, .any⟩
/-- R236 -/ def TMU_CNT_TC_TC_UNPARSED : Fd := ⟨0x200204, 0x0, 1, 16, 16, .rc, 0x0, .any⟩
/-- R236 -/ def TMU_CNT_CAP_CAP0 : Fd := ⟨0x200208, 0x0, 1, 0, 8, .rc, 0x0, .any⟩
/-- R236 -/ def TMU_CNT_CAP_CAP1 : Fd := ⟨0x200208, 0x0, 1, 8, 8, .rc, 0x0, .any⟩
/-- R236 -/ def TMU_CNT_CAP_CAP2 : Fd := ⟨0x200208, 0x0, 1, 16, 8, .rc, 0x0, .any⟩
/-- R236 -/ def TMU_CNT_CAP_CAP3 : Fd := ⟨0x200208, 0x0, 1, 24, 8, .rc, 0x0, .any⟩
/-- R236 -/ def TMU_CNT_MSG_MSG_IGNORED : Fd := ⟨0x20020C, 0x0, 1, 0, 16, .rc, 0x0, .any⟩
/-- R236 -/ def TMU_CNT_MSG_TOUT_SKIPPED : Fd := ⟨0x20020C, 0x0, 1, 16, 16, .rc, 0x0, .any⟩
/-- R273 -/ def TXN_CTRL_ARM_MARGIN : Fd := ⟨0x200800, 0x0, 1, 0, 16, .rw, 0x7D0, .range 1000 50000⟩
/-- R274 -/ def TXN_VERIFY_VERIFY_WIN : Fd := ⟨0x200804, 0x0, 1, 0, 16, .rw, 0x28, .range 1 65535⟩
/-- R274 -/ def TXN_VERIFY_VERIFY_TOL : Fd := ⟨0x200804, 0x0, 1, 16, 16, .rw, 0x200, .range 1 65535⟩
/-- R275 -/ def TXN_STATUS_N_USED : Fd := ⟨0x200808, 0x0, 1, 0, 6, .ro, 0x0, .any⟩
/-- R275 -/ def TXN_STATUS_QUENCH_BUSY : Fd := ⟨0x200808, 0x0, 1, 6, 1, .ro, 0x0, .any⟩
/-- R275 -/ def TXN_STATUS_SAFETY_HOLD : Fd := ⟨0x200808, 0x0, 1, 7, 1, .ro, 0x0, .any⟩
/-- R275 -/ def TXN_STATUS_LAST_HANDLE : Fd := ⟨0x200808, 0x0, 1, 16, 16, .ro, 0x0, .any⟩
/-- R276 -/ def TXN_ERR_HANDLE : Fd := ⟨0x20080C, 0x0, 1, 0, 16, .ro, 0x0, .any⟩
/-- R276 -/ def TXN_ERR_REASON : Fd := ⟨0x20080C, 0x0, 1, 16, 4, .ro, 0x0, .any⟩
/-- R276 -/ def TXN_ERR_TILE : Fd := ⟨0x20080C, 0x0, 1, 20, 7, .ro, 0x7F, .any⟩
/-- R276 -/ def TXN_ERR_NO_HANDLE : Fd := ⟨0x20080C, 0x0, 1, 27, 1, .ro, 0x0, .any⟩
/-- R277 -/ def TXN_CNT0_COMMITS : Fd := ⟨0x200810, 0x0, 1, 0, 16, .rc, 0x0, .any⟩
/-- R277 -/ def TXN_CNT0_NOT_ARMED : Fd := ⟨0x200810, 0x0, 1, 16, 16, .rc, 0x0, .any⟩
/-- R277 -/ def TXN_CNT1_ABORTED : Fd := ⟨0x200814, 0x0, 1, 0, 16, .rc, 0x0, .any⟩
/-- R277 -/ def TXN_CNT1_SETTLE_LATE : Fd := ⟨0x200814, 0x0, 1, 16, 16, .rc, 0x0, .any⟩
/-- R277 -/ def TXN_CNT2_QUENCHES : Fd := ⟨0x200818, 0x0, 1, 0, 16, .rc, 0x0, .any⟩
/-- R277 -/ def TXN_CNT2_REFUSED : Fd := ⟨0x200818, 0x0, 1, 16, 16, .rc, 0x0, .any⟩
/-- R278 -/ def TXN_QDT_NS_NS : Fd := ⟨0x200820, 0x0, 1, 0, 30, .ro, 0x0, .any⟩
/-- R278 -/ def TXN_QDT_FRAC_FRAC : Fd := ⟨0x200824, 0x0, 1, 0, 16, .ro, 0x0, .any⟩
/-- R278 -/ def TXN_QDT_SEC_LO_SEC_LO : Fd := ⟨0x200828, 0x0, 1, 0, 32, .ro, 0x0, .any⟩
/-- R278 -/ def TXN_QDT_SEC_HI_SEC_HI : Fd := ⟨0x20082C, 0x0, 1, 0, 32, .ro, 0x0, .any⟩
/-- R279 -/ def TXN_TBANK0_HANDLE : Fd := ⟨0x100400, 0x1000, 96, 0, 16, .ro, 0x0, .any⟩
/-- R279 -/ def TXN_TBANK0_STATE : Fd := ⟨0x100400, 0x1000, 96, 16, 3, .ro, 0x0, .any⟩
/-- R279 -/ def TXN_TBANK0_PARTIAL : Fd := ⟨0x100400, 0x1000, 96, 19, 1, .ro, 0x0, .any⟩
/-- R279 -/ def TXN_TBANK1_HANDLE : Fd := ⟨0x100404, 0x1000, 96, 0, 16, .ro, 0x0, .any⟩
/-- R279 -/ def TXN_TBANK1_STATE : Fd := ⟨0x100404, 0x1000, 96, 16, 3, .ro, 0x0, .any⟩
/-- R279 -/ def TXN_TBANK1_PARTIAL : Fd := ⟨0x100404, 0x1000, 96, 19, 1, .ro, 0x0, .any⟩
/-- R279 -/ def TXN_TCNT_ARM_MISS : Fd := ⟨0x100408, 0x1000, 96, 0, 16, .rc, 0x0, .any⟩
/-- R279 -/ def TXN_TCNT_LATE_ELEM : Fd := ⟨0x100408, 0x1000, 96, 16, 16, .rc, 0x0, .any⟩
/-- R306 -/ def CAL_CTRL_CAL_LEAD : Fd := ⟨0x200C00, 0x0, 1, 0, 10, .rw, 0xA, .range 6 1000⟩
/-- R307 -/ def CAL_STATUS_RUNNING : Fd := ⟨0x200C04, 0x0, 1, 0, 16, .ro, 0x0, .any⟩
/-- R307 -/ def CAL_STATUS_WAITING : Fd := ⟨0x200C04, 0x0, 1, 16, 16, .ro, 0x0, .any⟩
/-- R308 -/ def CAL_THROTTLE_K : Fd := ⟨0x200C08, 0x0, 1, 0, 3, .ro, 0x1, .any⟩
/-- R308 -/ def CAL_ENERGY_ENERGY : Fd := ⟨0x200C0C, 0x0, 1, 0, 16, .ro, 0x0, .any⟩
/-- R309 -/ def CAL_L_STATE_STATE : Fd := ⟨0x200D00, 0x20, 16, 0, 3, .ro, 0x0, .any⟩
/-- R309 -/ def CAL_L_STATE_LATE : Fd := ⟨0x200D00, 0x20, 16, 3, 1, .w1c, 0x0, .any⟩
/-- R309 -/ def CAL_L_STATE_SWAP_PEND : Fd := ⟨0x200D00, 0x20, 16, 4, 1, .ro, 0x0, .any⟩
/-- R309 -/ def CAL_L_STATE_STOP_PEND : Fd := ⟨0x200D00, 0x20, 16, 5, 1, .ro, 0x0, .any⟩
/-- R309 -/ def CAL_L_STATE_SWAP_WITH : Fd := ⟨0x200D00, 0x20, 16, 8, 4, .ro, 0x0, .any⟩
/-- R309 -/ def CAL_L_STATE_LAST_STATUS : Fd := ⟨0x200D00, 0x20, 16, 16, 8, .ro, 0x0, .any⟩
/-- R309 -/ def CAL_L_POS_NEXT : Fd := ⟨0x200D04, 0x20, 16, 0, 18, .ro, 0x0, .any⟩
/-- R309 -/ def CAL_L_CYCLES_CYCLES : Fd := ⟨0x200D08, 0x20, 16, 0, 32, .ro, 0x0, .any⟩
/-- R309 -/ def CAL_L_ISSUED_ISSUED : Fd := ⟨0x200D0C, 0x20, 16, 0, 32, .rc, 0x0, .any⟩
/-- R310 -/ def CAL_L_CNT0_SKIPPED : Fd := ⟨0x200D10, 0x20, 16, 0, 16, .rc, 0x0, .any⟩
/-- R310 -/ def CAL_L_CNT0_MISSED : Fd := ⟨0x200D10, 0x20, 16, 16, 16, .rc, 0x0, .any⟩
/-- R310 -/ def CAL_L_CNT1_FAILED : Fd := ⟨0x200D14, 0x20, 16, 0, 16, .rc, 0x0, .any⟩
/-- R310 -/ def CAL_L_CNT1_COLLIDED : Fd := ⟨0x200D14, 0x20, 16, 16, 16, .rc, 0x0, .any⟩
/-- R310 -/ def CAL_L_CNT2_ESS_FAIL : Fd := ⟨0x200D18, 0x20, 16, 0, 16, .rc, 0x0, .any⟩
/-- R336 -/ def ADM_CTRL_REFILL : Fd := ⟨0x240000, 0x0, 1, 0, 16, .rw, 0xFA, .range 25 25000⟩
/-- R336 -/ def ADM_CTRL_MAX_PER_TICK : Fd := ⟨0x240000, 0x0, 1, 16, 6, .rw, 0x10, .range 1 63⟩
/-- R337 -/ def ADM_ENERGY_E_CAP : Fd := ⟨0x240004, 0x0, 1, 0, 16, .rw, 0x4B0, .range 1 6000⟩
/-- R337 -/ def ADM_ENERGY_E_HICREDIT : Fd := ⟨0x240004, 0x0, 1, 16, 16, .rw, 0x3E8, .range 1 65535⟩
/-- R337 -/ def ADM_COST_E_UNIT : Fd := ⟨0x240008, 0x0, 1, 0, 16, .rw, 0x40, .range 1 65535⟩
/-- R337 -/ def ADM_COST_E_EST : Fd := ⟨0x240008, 0x0, 1, 16, 16, .rw, 0x4C, .range 1 65535⟩
/-- R337 -/ def ADM_LEAD_ADMIT_LEAD : Fd := ⟨0x24000C, 0x0, 1, 0, 16, .rw, 0x14, .range 15 1000⟩
/-- R337 -/ def ADM_LEAD_ADMIT_WIN : Fd := ⟨0x24000C, 0x0, 1, 16, 16, .rw, 0x64, .any⟩
/-- R338 -/ def ADM_DOM_RATE_D_RATE : Fd := ⟨0x240020, 0x8, 8, 0, 32, .rw, 0x2FAF080, .upTo 4000000000⟩
/-- R338 -/ def ADM_DOM_LIM_D_HICREDIT : Fd := ⟨0x240024, 0x8, 8, 0, 16, .rw, 0x2000, .range 1 65535⟩
/-- R339 -/ def ADM_STATUS_TENANT_LIVE : Fd := ⟨0x240060, 0x0, 1, 0, 1, .ro, 0x0, .any⟩
/-- R339 -/ def ADM_STATUS_PROFILE_LIVE : Fd := ⟨0x240060, 0x0, 1, 1, 1, .ro, 0x0, .any⟩
/-- R339 -/ def ADM_STATUS_TENANT_PEND : Fd := ⟨0x240060, 0x0, 1, 2, 1, .ro, 0x0, .any⟩
/-- R339 -/ def ADM_STATUS_PROFILE_PEND : Fd := ⟨0x240060, 0x0, 1, 3, 1, .ro, 0x0, .any⟩
/-- R339 -/ def ADM_STATUS_F_LIVE : Fd := ⟨0x240060, 0x0, 1, 8, 9, .ro, 0x100, .any⟩
/-- R339 -/ def ADM_POOL_HELD : Fd := ⟨0x240064, 0x0, 1, 0, 14, .ro, 0x0, .any⟩
/-- R339 -/ def ADM_POOL_PEAK : Fd := ⟨0x240064, 0x0, 1, 16, 14, .rc, 0x0, .any⟩
/-- R340 -/ def ADM_CNT0_ADMITTED : Fd := ⟨0x240070, 0x0, 1, 0, 16, .rc, 0x0, .any⟩
/-- R340 -/ def ADM_CNT0_CONFLICT : Fd := ⟨0x240070, 0x0, 1, 16, 16, .rc, 0x0, .any⟩
/-- R340 -/ def ADM_CNT1_POLICED : Fd := ⟨0x240074, 0x0, 1, 0, 16, .rc, 0x0, .any⟩
/-- R340 -/ def ADM_CNT1_DEFERRED : Fd := ⟨0x240074, 0x0, 1, 16, 16, .rc, 0x0, .any⟩
/-- R340 -/ def ADM_CNT2_LATE : Fd := ⟨0x240078, 0x0, 1, 0, 16, .rc, 0x0, .any⟩
/-- R340 -/ def ADM_CNT2_THROTTLED : Fd := ⟨0x240078, 0x0, 1, 16, 16, .rc, 0x0, .any⟩
/-- R340 -/ def ADM_CNT3_REFUNDS : Fd := ⟨0x24007C, 0x0, 1, 0, 16, .rc, 0x0, .any⟩
/-- R340 -/ def ADM_CNT3_CRED_SAT : Fd := ⟨0x24007C, 0x0, 1, 16, 16, .rc, 0x0, .any⟩
/-- R341 -/ def ADM_DCRED_CREDIT : Fd := ⟨0x240080, 0x4, 8, 0, 32, .ro, 0x0, .any⟩
/-- R341 -/ def ADM_ECRED_CREDIT : Fd := ⟨0x2400A0, 0x0, 1, 0, 32, .ro, 0x0, .any⟩
/-- R342 -/ def ADM_MON_TENANT : Fd := ⟨0x240100, 0x4, 16, 0, 12, .rw, 0x0, .any⟩
/-- R342 -/ def ADM_MON_CLASS : Fd := ⟨0x240100, 0x4, 16, 12, 3, .rw, 0x0, .any⟩
/-- R342 -/ def ADM_MON_EN : Fd := ⟨0x240100, 0x4, 16, 15, 1, .rw, 0x0, .any⟩
/-- R342 -/ def ADM_HIST_CTRL_SWAP : Fd := ⟨0x240140, 0x0, 1, 0, 1, .w1s, 0x0, .any⟩
/-- R342 -/ def ADM_HDEPTH_COUNT : Fd := ⟨0x241000, 0x4, 16, 0, 32, .ro, 0x0, .any⟩
/-- R342 -/ def ADM_HDELAY_COUNT : Fd := ⟨0x241040, 0x4, 16, 0, 32, .ro, 0x0, .any⟩
/-- R380 -/ def CPX_CTRL_MODE : Fd := ⟨0x210000, 0x0, 1, 0, 1, .rwt, 0x0, .any⟩
/-- R380 -/ def CPX_CTRL_CHAIN : Fd := ⟨0x210000, 0x0, 1, 1, 1, .rwt, 0x0, .any⟩
/-- R380 -/ def CPX_CTRL_ND_EN : Fd := ⟨0x210000, 0x0, 1, 2, 1, .rw, 0x1, .any⟩
/-- R380 -/ def CPX_CTRL_MODE_LIVE : Fd := ⟨0x210000, 0x0, 1, 3, 1, .ro, 0x0, .any⟩
/-- R380 -/ def CPX_CTRL_CHAIN_LIVE : Fd := ⟨0x210000, 0x0, 1, 4, 1, .ro, 0x0, .any⟩
/-- R381 -/ def CPX_GCRP_GCRP_PORT : Fd := ⟨0x210004, 0x0, 1, 0, 16, .rw, 0xA392, .range 1 65535⟩
/-- R381 -/ def CPX_GCRP_SESS_IDLE_MAX : Fd := ⟨0x210004, 0x0, 1, 16, 12, .rw, 0x1E, .range 1 3600⟩
/-- R381 -/ def CPX_GCRP_QUAR : Fd := ⟨0x210004, 0x0, 1, 28, 4, .rw, 0xA, .range 1 15⟩
/-- R382 -/ def CPX_STATUS_LIVE_VER : Fd := ⟨0x210008, 0x0, 1, 0, 8, .ro, 0x0, .any⟩
/-- R382 -/ def CPX_STATUS_OLD_VER : Fd := ⟨0x210008, 0x0, 1, 8, 8, .ro, 0x0, .any⟩
/-- R382 -/ def CPX_STATUS_DRAINING : Fd := ⟨0x210008, 0x0, 1, 16, 1, .ro, 0x0, .any⟩
/-- R382 -/ def CPX_STATUS_COMMIT_WAIT : Fd := ⟨0x210008, 0x0, 1, 17, 1, .ro, 0x0, .any⟩
/-- R382 -/ def CPX_STATUS_ENG_OK : Fd := ⟨0x210008, 0x0, 1, 20, 4, .ro, 0xF, .any⟩
/-- R383 -/ def CPX_DEEP_RULE : Fd := ⟨0x21000C, 0x0, 1, 0, 11, .rw, 0x0, .any⟩
/-- R383 -/ def CPX_DEEP_USE_RULE : Fd := ⟨0x21000C, 0x0, 1, 11, 1, .rw, 0x0, .any⟩
/-- R384 -/ def CPX_LQ_RING : Fd := ⟨0x210040, 0x4, 16, 0, 16, .rw, 0x0, .any⟩
/-- R385 -/ def CP_CTRL_EN : Fd := ⟨0x210100, 0x80, 2, 0, 1, .rw, 0x0, .any⟩
/-- R385 -/ def CP_CTRL_FEC_EN : Fd := ⟨0x210100, 0x80, 2, 1, 1, .rw, 0x0, .any⟩
/-- R385 -/ def CP_STATUS_BLOCK_LOCK : Fd := ⟨0x210104, 0x80, 2, 0, 1, .ro, 0x0, .any⟩
/-- R385 -/ def CP_STATUS_HI_BER : Fd := ⟨0x210104, 0x80, 2, 1, 1, .ro, 0x0, .any⟩
/-- R385 -/ def CP_STATUS_FEC_LOCK : Fd := ⟨0x210104, 0x80, 2, 2, 1, .ro, 0x0, .any⟩
/-- R385 -/ def CP_STATUS_UP : Fd := ⟨0x210104, 0x80, 2, 3, 1, .ro, 0x0, .any⟩
/-- R385 -/ def CP_STATUS_UP_CHG : Fd := ⟨0x210104, 0x80, 2, 4, 1, .w1c, 0x0, .any⟩
/-- R385 -/ def CP_MAC_LO_MAC_LO : Fd := ⟨0x210108, 0x80, 2, 0, 32, .rw, 0x0, .any⟩
/-- R385 -/ def CP_MAC_HI_MAC_HI : Fd := ⟨0x21010C, 0x80, 2, 0, 16, .rw, 0x0, .any⟩
/-- R385 -/ def CP_IPV4_IPV4 : Fd := ⟨0x210110, 0x80, 2, 0, 32, .rw, 0x0, .any⟩
/-- R385 -/ def CP_IPV6_0_IPV6 : Fd := ⟨0x210114, 0x80, 2, 0, 32, .rw, 0x0, .any⟩
/-- R385 -/ def CP_IPV6_1_IPV6 : Fd := ⟨0x210118, 0x80, 2, 0, 32, .rw, 0x0, .any⟩
/-- R385 -/ def CP_IPV6_2_IPV6 : Fd := ⟨0x21011C, 0x80, 2, 0, 32, .rw, 0x0, .any⟩
/-- R385 -/ def CP_IPV6_3_IPV6 : Fd := ⟨0x210120, 0x80, 2, 0, 32, .rw, 0x0, .any⟩
/-- R385 -/ def CP_CNT_RX_RX_FRAMES : Fd := ⟨0x210140, 0x80, 2, 0, 32, .rc, 0x0, .any⟩
/-- R385 -/ def CP_CNT_TX_TX_FRAMES : Fd := ⟨0x210144, 0x80, 2, 0, 32, .rc, 0x0, .any⟩
/-- R385 -/ def CP_CNT_ERR_FCS_ERR : Fd := ⟨0x210148, 0x80, 2, 0, 16, .rc, 0x0, .any⟩
/-- R385 -/ def CP_CNT_ERR_OVERSIZE : Fd := ⟨0x210148, 0x80, 2, 16, 16, .rc, 0x0, .any⟩
/-- R385 (DESIGN CHOICE, log 44.) -/ def CP_CNT_FEC_FEC_CORR : Fd := ⟨0x21014C, 0x80, 2, 0, 16, .rc, 0x0, .any⟩
/-- R385 -/ def CP_CNT_FEC_FEC_UNCORR : Fd := ⟨0x21014C, 0x80, 2, 16, 16, .rc, 0x0, .any⟩
/-- R385 -/ def CP_CNT_DROP_ING_DROP : Fd := ⟨0x210150, 0x80, 2, 0, 16, .rc, 0x0, .any⟩
/-- R385 -/ def CP_CNT_DROP_TX_DROP : Fd := ⟨0x210150, 0x80, 2, 16, 16, .rc, 0x0, .any⟩
/-- R386 -/ def CPX_SESS_N_OPEN : Fd := ⟨0x210200, 0x0, 1, 0, 15, .ro, 0x0, .any⟩
/-- R386 -/ def CPX_SESS_FULL : Fd := ⟨0x210200, 0x0, 1, 15, 1, .w1c, 0x0, .any⟩
/-- R386 -/ def CPX_SESS_PEAK : Fd := ⟨0x210200, 0x0, 1, 16, 15, .rc, 0x0, .any⟩
/-- R387 -/ def CPX_CNT0_MALFORMED : Fd := ⟨0x210210, 0x0, 1, 0, 16, .rc, 0x0, .any⟩
/-- R387 -/ def CPX_CNT0_PARSE_DEEP : Fd := ⟨0x210210, 0x0, 1, 16, 16, .rc, 0x0, .any⟩
/-- R387 -/ def CPX_CNT1_NO_MATCH : Fd := ⟨0x210214, 0x0, 1, 0, 16, .rc, 0x0, .any⟩
/-- R387 -/ def CPX_CNT1_CSUM_ERR : Fd := ⟨0x210214, 0x0, 1, 16, 16, .rc, 0x0, .any⟩
/-- R387 -/ def CPX_CNT2_REORDER_SKIP : Fd := ⟨0x210218, 0x0, 1, 0, 16, .rc, 0x0, .any⟩
/-- R387 -/ def CPX_CNT2_VER_DROP : Fd := ⟨0x210218, 0x0, 1, 16, 16, .rc, 0x0, .any⟩
/-- R387 -/ def CPX_CNT3_COPY_DROP : Fd := ⟨0x21021C, 0x0, 1, 0, 16, .rc, 0x0, .any⟩
/-- R387 -/ def CPX_CNT3_FWD_OFF : Fd := ⟨0x21021C, 0x0, 1, 16, 16, .rc, 0x0, .any⟩
/-- R387 -/ def GCRP_CNT0_DUPLICATE : Fd := ⟨0x210220, 0x0, 1, 0, 16, .rc, 0x0, .any⟩
/-- R387 -/ def GCRP_CNT0_STALE : Fd := ⟨0x210220, 0x0, 1, 16, 16, .rc, 0x0, .any⟩
/-- R387 -/ def GCRP_CNT1_SESS_MISS : Fd := ⟨0x210224, 0x0, 1, 0, 16, .rc, 0x0, .any⟩
/-- R387 -/ def GCRP_CNT1_SESS_GONE : Fd := ⟨0x210224, 0x0, 1, 16, 16, .rc, 0x0, .any⟩
/-- R387 -/ def GCRP_CNT2_BAD_VER : Fd := ⟨0x210228, 0x0, 1, 0, 16, .rc, 0x0, .any⟩
/-- R387 -/ def GCRP_CNT2_STBY_DISCARD : Fd := ⟨0x210228, 0x0, 1, 16, 16, .rc, 0x0, .any⟩
/-- R387 -/ def GCRP_CNT3_OPENS : Fd := ⟨0x21022C, 0x0, 1, 0, 16, .rc, 0x0, .any⟩
/-- R387 -/ def GCRP_CNT3_CLOSES : Fd := ⟨0x21022C, 0x0, 1, 16, 16, .rc, 0x0, .any⟩
/-- R393 -/ def HIF_CTRL_EN : Fd := ⟨0x260000, 0x0, 1, 0, 1, .rw, 0x0, .any⟩
/-- R393 -/ def HIF_CTRL_FETCH_BURST : Fd := ⟨0x260000, 0x0, 1, 1, 4, .rw, 0x8, .range 1 15⟩
/-- R394 -/ def HIF_ADM_CMD_LO_CMD_BASE : Fd := ⟨0x260010, 0x0, 1, 0, 32, .rw, 0x0, .mult 64⟩
/-- R394 -/ def HIF_ADM_CMD_HI_CMD_BASE : Fd := ⟨0x260014, 0x0, 1, 0, 32, .rw, 0x0, .any⟩
/-- R394 -/ def HIF_ADM_CPL_LO_CPL_BASE : Fd := ⟨0x260018, 0x0, 1, 0, 32, .rw, 0x0, .mult 64⟩
/-- R394 -/ def HIF_ADM_CPL_HI_CPL_BASE : Fd := ⟨0x26001C, 0x0, 1, 0, 32, .rw, 0x0, .any⟩
/-- R394 -/ def HIF_ADM_CFG_EN : Fd := ⟨0x260020, 0x0, 1, 0, 1, .rw, 0x0, .any⟩
/-- R394 -/ def HIF_ADM_CFG_ERR : Fd := ⟨0x260020, 0x0, 1, 1, 1, .w1c, 0x0, .any⟩
/-- R394 -/ def HIF_ADM_CFG_CMD_LOG2 : Fd := ⟨0x260020, 0x0, 1, 8, 4, .rw, 0x4, .range 4 15⟩
/-- R394 -/ def HIF_ADM_CFG_CPL_LOG2 : Fd := ⟨0x260020, 0x0, 1, 12, 4, .rw, 0x4, .range 4 15⟩
/-- R394 -/ def HIF_ADM_CFG_VECTOR : Fd := ⟨0x260020, 0x0, 1, 16, 16, .rw, 0xFFFF, .orAll 2047 65535⟩
/-- R394 -/ def HIF_ADM_COAL_COAL_CNT : Fd := ⟨0x260024, 0x0, 1, 0, 16, .rw, 0x0, .any⟩
/-- R394 -/ def HIF_ADM_COAL_COAL_US : Fd := ⟨0x260024, 0x0, 1, 16, 16, .rw, 0x0, .any⟩
/-- R394 -/ def HIF_ADM_TENANT_TENANT : Fd := ⟨0x260028, 0x0, 1, 0, 12, .rw, 0x0, .any⟩
/-- R394 -/ def HIF_ADM_TENANT_CLASS : Fd := ⟨0x260028, 0x0, 1, 12, 3, .rw, 0x0, .any⟩
/-- R394 -/ def HIF_DB_LO_DB_BASE : Fd := ⟨0x260030, 0x0, 1, 0, 32, .rw, 0x0, .mult 4096⟩
/-- R394 -/ def HIF_DB_HI_DB_BASE : Fd := ⟨0x260034, 0x0, 1, 0, 32, .rw, 0x0, .any⟩
/-- R394 -/ def HIF_POLL_POLL_US : Fd := ⟨0x260038, 0x0, 1, 0, 16, .rw, 0x0, .any⟩
/-- R395 -/ def HIF_EVT_LO_EVT_BASE : Fd := ⟨0x260040, 0x0, 1, 0, 32, .rw, 0x0, .mult 64⟩
/-- R395 -/ def HIF_EVT_HI_EVT_BASE : Fd := ⟨0x260044, 0x0, 1, 0, 32, .rw, 0x0, .any⟩
/-- R395 -/ def HIF_EVT_CFG_EN : Fd := ⟨0x260048, 0x0, 1, 0, 1, .rw, 0x0, .any⟩
/-- R395 -/ def HIF_EVT_CFG_LOG2 : Fd := ⟨0x260048, 0x0, 1, 8, 4, .rw, 0x4, .range 4 15⟩
/-- R395 -/ def HIF_EVT_CFG_VECTOR : Fd := ⟨0x260048, 0x0, 1, 16, 16, .rw, 0xFFFF, .orAll 2047 65535⟩
/-- R395 -/ def HIF_EVT_COAL_COAL_CNT : Fd := ⟨0x26004C, 0x0, 1, 0, 16, .rw, 0x0, .any⟩
/-- R395 -/ def HIF_EVT_COAL_COAL_US : Fd := ⟨0x26004C, 0x0, 1, 16, 16, .rw, 0x0, .any⟩
/-- R396 -/ def HIF_STATUS_BME : Fd := ⟨0x260060, 0x0, 1, 0, 1, .ro, 0x0, .any⟩
/-- R396 -/ def HIF_STATUS_MSIX_EN : Fd := ⟨0x260060, 0x0, 1, 1, 1, .ro, 0x0, .any⟩
/-- R396 -/ def HIF_STATUS_N_ERR_RINGS : Fd := ⟨0x260060, 0x0, 1, 16, 16, .ro, 0x0, .any⟩
/-- R396 -/ def HIF_CNT0_CMDS : Fd := ⟨0x260070, 0x0, 1, 0, 32, .rc, 0x0, .any⟩
/-- R396 -/ def HIF_CNT1_ORPHANS : Fd := ⟨0x260074, 0x0, 1, 0, 16, .rc, 0x0, .any⟩
/-- R396 -/ def HIF_CNT1_RING_ERR : Fd := ⟨0x260074, 0x0, 1, 16, 16, .rc, 0x0, .any⟩
/-- R396 -/ def HIF_CNT2_EVT_LOST : Fd := ⟨0x260078, 0x0, 1, 0, 16, .rc, 0x0, .any⟩
/-- R396 -/ def HIF_CNT2_DMA_ERR : Fd := ⟨0x260078, 0x0, 1, 16, 16, .rc, 0x0, .any⟩
/-- R396 -/ def HIF_CNT3_KICKS : Fd := ⟨0x26007C, 0x0, 1, 0, 16, .rc, 0x0, .any⟩
/-- R396 -/ def HIF_CNT3_KICK_MERGED : Fd := ⟨0x26007C, 0x0, 1, 16, 16, .rc, 0x0, .any⟩
/-- R456 -/ def TWN_CTRL_PAIRED : Fd := ⟨0x280000, 0x0, 1, 0, 1, .rwp, 0x0, .any⟩
/-- R456 -/ def TWN_CTRL_TL_FEC : Fd := ⟨0x280000, 0x0, 1, 1, 1, .rw, 0x1, .any⟩
/-- R456 -/ def TWN_CTRL_HB_MISS : Fd := ⟨0x280000, 0x0, 1, 4, 4, .rw, 0x3, .range 3 15⟩
/-- R456 (DESIGN CHOICE, log 78.) -/ def TWN_CTRL_SNAP_US : Fd := ⟨0x280000, 0x0, 1, 8, 10, .rw, 0x3E8, .range 250 1000⟩
/-- R456 -/ def TWN_CTRL_STALE_MS : Fd := ⟨0x280000, 0x0, 1, 18, 10, .rw, 0xA, .range 1 1000⟩
/-- R457 -/ def TWN_STATUS_ROLE : Fd := ⟨0x280004, 0x0, 1, 0, 2, .ro, 0x0, .any⟩
/-- R457 -/ def TWN_STATUS_SYNCED : Fd := ⟨0x280004, 0x0, 1, 2, 1, .ro, 0x0, .any⟩
/-- R457 -/ def TWN_STATUS_TWIN_SEEN : Fd := ⟨0x280004, 0x0, 1, 3, 1, .ro, 0x0, .any⟩
/-- R457 -/ def TWN_STATUS_TWIN_ROLE : Fd := ⟨0x280004, 0x0, 1, 4, 3, .ro, 0x7, .any⟩
/-- R457 -/ def TWN_STATUS_TL_UP : Fd := ⟨0x280004, 0x0, 1, 7, 1, .ro, 0x0, .any⟩
/-- R457 -/ def TWN_STATUS_CAUSE : Fd := ⟨0x280004, 0x0, 1, 8, 8, .ro, 0x0, .any⟩
/-- R457 -/ def TWN_STATUS_TAKEN : Fd := ⟨0x280004, 0x0, 1, 16, 8, .ro, 0x0, .any⟩
/-- R457 -/ def TWN_STATUS_STALE_TAKE : Fd := ⟨0x280004, 0x0, 1, 24, 1, .w1c, 0x0, .any⟩
/-- R458 -/ def TWN_SYNC_STORE : Fd := ⟨0x280008, 0x0, 1, 0, 8, .ro, 0x0, .any⟩
/-- R458 -/ def TWN_SYNC_NEED_SYNC : Fd := ⟨0x280008, 0x0, 1, 8, 1, .ro, 0x0, .any⟩
/-- R458 -/ def TWN_SYNC_KEPT : Fd := ⟨0x280008, 0x0, 1, 16, 16, .ro, 0x0, .any⟩
/-- R459 -/ def TWN_CNT0_TAKEOVERS : Fd := ⟨0x280010, 0x0, 1, 0, 16, .rc, 0x0, .any⟩
/-- R459 -/ def TWN_CNT0_RESIGNS : Fd := ⟨0x280010, 0x0, 1, 16, 16, .rc, 0x0, .any⟩
/-- R459 -/ def TWN_CNT1_RESYNCS : Fd := ⟨0x280014, 0x0, 1, 0, 16, .rc, 0x0, .any⟩
/-- R459 -/ def TWN_CNT1_TL_GAPS : Fd := ⟨0x280014, 0x0, 1, 16, 16, .rc, 0x0, .any⟩
/-- R459 -/ def TWN_CNT2_SNAP_DISCARD : Fd := ⟨0x280018, 0x0, 1, 0, 16, .rc, 0x0, .any⟩
/-- R459 -/ def TWN_CNT2_DIVERGE : Fd := ⟨0x280018, 0x0, 1, 16, 16, .rc, 0x0, .any⟩
/-- R459 -/ def TWN_CNT3_GUARD : Fd := ⟨0x28001C, 0x0, 1, 0, 16, .rc, 0x0, .any⟩
/-- R459 -/ def TWN_CNT3_TL_DROP : Fd := ⟨0x28001C, 0x0, 1, 16, 16, .rc, 0x0, .any⟩
/-- R460 -/ def TWN_TAKE_NS_NS : Fd := ⟨0x280020, 0x0, 1, 0, 30, .ro, 0x0, .any⟩
/-- R460 -/ def TWN_TAKE_FRAC_FRAC : Fd := ⟨0x280024, 0x0, 1, 0, 16, .ro, 0x0, .any⟩
/-- R460 -/ def TWN_TAKE_SEC_LO_SEC_LO : Fd := ⟨0x280028, 0x0, 1, 0, 32, .ro, 0x0, .any⟩
/-- R460 -/ def TWN_TAKE_SEC_HI_SEC_HI : Fd := ⟨0x28002C, 0x0, 1, 0, 32, .ro, 0x0, .any⟩
/-- R461 -/ def TWN_TL_STATUS_BLOCK_LOCK : Fd := ⟨0x280030, 0x0, 1, 0, 1, .ro, 0x0, .any⟩
/-- R461 -/ def TWN_TL_STATUS_HI_BER : Fd := ⟨0x280030, 0x0, 1, 1, 1, .ro, 0x0, .any⟩
/-- R461 -/ def TWN_TL_STATUS_FEC_LOCK : Fd := ⟨0x280030, 0x0, 1, 2, 1, .ro, 0x0, .any⟩
/-- R461 -/ def TWN_TL_STATUS_UP_CHG : Fd := ⟨0x280030, 0x0, 1, 3, 1, .w1c, 0x0, .any⟩
/-- R497 -/ def SIU_CFG0_T_DISC : Fd := ⟨0x290000, 0x0, 1, 0, 10, .rwp, 0x64, .range 10 500⟩
/-- R497 -/ def SIU_CFG0_T_FILT : Fd := ⟨0x290000, 0x0, 1, 10, 3, .rwp, 0x3, .range 1 6⟩
/-- R497 -/ def SIU_CFG0_DG_AUTO : Fd := ⟨0x290000, 0x0, 1, 13, 1, .rwp, 0x0, .any⟩
/-- R497 -/ def SIU_CFG0_LC_AUTO : Fd := ⟨0x290000, 0x0, 1, 14, 1, .rwp, 0x0, .any⟩
/-- R497 -/ def SIU_CFG0_DG_QUENCH : Fd := ⟨0x290000, 0x0, 1, 15, 1, .rwp, 0x0, .any⟩
/-- R497 -/ def SIU_CFG0_LC_QUENCH : Fd := ⟨0x290000, 0x0, 1, 16, 1, .rwp, 0x0, .any⟩
/-- R497 -/ def SIU_CFG0_TH_BYPASS_DG : Fd := ⟨0x290000, 0x0, 1, 17, 1, .rwp, 0x0, .any⟩
/-- R497 -/ def SIU_CFG0_HOST_RST_EN : Fd := ⟨0x290000, 0x0, 1, 18, 1, .rwp, 0x0, .any⟩
/-- R497 -/ def SIU_CFG0_EDM_EN : Fd := ⟨0x290000, 0x0, 1, 19, 1, .rwp, 0x0, .any⟩
/-- R498 -/ def SIU_CFG1_DEGRADE_MIN : Fd := ⟨0x290004, 0x0, 1, 0, 11, .rwp, 0x3C, .range 1 1440⟩
/-- R498 -/ def SIU_CFG1_PRES_WIN : Fd := ⟨0x290004, 0x0, 1, 11, 10, .rwp, 0x3C, .range 1 600⟩
/-- R499 -/ def SIU_CMD_CFG_COMMIT : Fd := ⟨0x290008, 0x0, 1, 0, 1, .rwp, 0x0, .any⟩
/-- R499 -/ def SIU_CMD_RESET_REQ : Fd := ⟨0x290008, 0x0, 1, 1, 1, .rwp, 0x0, .any⟩
/-- R499 -/ def SIU_CMD_PRES_CLOSE : Fd := ⟨0x290008, 0x0, 1, 2, 1, .w1s, 0x0, .any⟩
/-- R499 -/ def SIU_CFG_CRC_CFG_CRC : Fd := ⟨0x29000C, 0x0, 1, 0, 32, .ro, 0x0, .any⟩
/-- R500 -/ def SIU_STATUS_STATE : Fd := ⟨0x290010, 0x0, 1, 0, 3, .ro, 0x0, .any⟩
/-- R500 -/ def SIU_STATUS_SAFETY_HOLD : Fd := ⟨0x290010, 0x0, 1, 3, 1, .ro, 0x0, .any⟩
/-- R500 -/ def SIU_STATUS_PRES_OPEN : Fd := ⟨0x290010, 0x0, 1, 4, 1, .ro, 0x0, .any⟩
/-- R500 -/ def SIU_STATUS_TH_ACTIVE : Fd := ⟨0x290010, 0x0, 1, 5, 1, .ro, 0x0, .any⟩
/-- R500 -/ def SIU_STATUS_DG_BYPASSED : Fd := ⟨0x290010, 0x0, 1, 6, 1, .ro, 0x0, .any⟩
/-- R500 -/ def SIU_STATUS_CFG_PEND : Fd := ⟨0x290010, 0x0, 1, 7, 1, .ro, 0x0, .any⟩
/-- R500 -/ def SIU_STATUS_PRES_LEFT : Fd := ⟨0x290010, 0x0, 1, 16, 10, .ro, 0x0, .any⟩
/-- R501 -/ def SIU_INPUTS_ES : Fd := ⟨0x290014, 0x0, 1, 0, 4, .ro, 0x2, .any⟩
/-- R501 -/ def SIU_INPUTS_DG : Fd := ⟨0x290014, 0x0, 1, 4, 4, .ro, 0x2, .any⟩
/-- R501 -/ def SIU_INPUTS_TH1 : Fd := ⟨0x290014, 0x0, 1, 8, 4, .ro, 0x2, .any⟩
/-- R501 -/ def SIU_INPUTS_TH2 : Fd := ⟨0x290014, 0x0, 1, 12, 4, .ro, 0x2, .any⟩
/-- R501 -/ def SIU_INPUTS_LC : Fd := ⟨0x290014, 0x0, 1, 16, 4, .ro, 0x2, .any⟩
/-- R501 -/ def SIU_INPUTS_RAW : Fd := ⟨0x290014, 0x0, 1, 20, 10, .ro, 0x0, .any⟩
/-- R501 -/ def SIU_INPUTS_RST_RAW : Fd := ⟨0x290014, 0x0, 1, 30, 1, .ro, 0x0, .any⟩
/-- R501 -/ def SIU_INPUTS_EDM_RAW : Fd := ⟨0x290014, 0x0, 1, 31, 1, .ro, 0x0, .any⟩
/-- R502 -/ def SIU_OUTPUTS_SO_A_ON : Fd := ⟨0x290018, 0x0, 1, 0, 1, .ro, 0x0, .any⟩
/-- R502 -/ def SIU_OUTPUTS_SO_B_ON : Fd := ⟨0x290018, 0x0, 1, 1, 1, .ro, 0x0, .any⟩
/-- R502 -/ def SIU_OUTPUTS_RB_A : Fd := ⟨0x290018, 0x0, 1, 2, 1, .ro, 0x0, .any⟩
/-- R502 -/ def SIU_OUTPUTS_RB_B : Fd := ⟨0x290018, 0x0, 1, 3, 1, .ro, 0x0, .any⟩
/-- R502 -/ def SIU_OUTPUTS_FAIL_A : Fd := ⟨0x290018, 0x0, 1, 4, 4, .ro, 0x0, .any⟩
/-- R502 -/ def SIU_OUTPUTS_FAIL_B : Fd := ⟨0x290018, 0x0, 1, 8, 4, .ro, 0x0, .any⟩
/-- R502 -/ def SIU_DEGRADE_DEGRADE_LEFT : Fd := ⟨0x29001C, 0x0, 1, 0, 17, .ro, 0x0, .any⟩
/-- R503 -/ def SIU_FAULT_DISC : Fd := ⟨0x290020, 0x0, 1, 0, 5, .ro, 0x0, .any⟩
/-- R503 -/ def SIU_FAULT_SEEN_SAFE : Fd := ⟨0x290020, 0x0, 1, 5, 5, .ro, 0x0, .any⟩
/-- R503 -/ def SIU_FAULT_OUT_FAULT : Fd := ⟨0x290020, 0x0, 1, 10, 1, .ro, 0x0, .any⟩
/-- R503 -/ def SIU_FAULT_DEGRADE_EXP : Fd := ⟨0x290020, 0x0, 1, 11, 1, .ro, 0x0, .any⟩
/-- R503 -/ def SIU_FAULT_INTERNAL : Fd := ⟨0x290020, 0x0, 1, 12, 1, .ro, 0x0, .any⟩
/-- R503 -/ def SIU_STICKY_RST_HELD : Fd := ⟨0x290024, 0x0, 1, 0, 1, .w1c, 0x0, .any⟩
/-- R503 -/ def SIU_STICKY_PRES_STUCK : Fd := ⟨0x290024, 0x0, 1, 1, 1, .w1c, 0x0, .any⟩
/-- R504 -/ def SIU_CNT0_DEMANDS : Fd := ⟨0x290030, 0x0, 1, 0, 16, .rc, 0x0, .any⟩
/-- R504 -/ def SIU_CNT0_DISC_FAULTS : Fd := ⟨0x290030, 0x0, 1, 16, 16, .rc, 0x0, .any⟩
/-- R504 -/ def SIU_CNT1_INCOMPLETE : Fd := ⟨0x290034, 0x0, 1, 0, 16, .rc, 0x0, .any⟩
/-- R504 -/ def SIU_CNT1_RESET_REFUSED : Fd := ⟨0x290034, 0x0, 1, 16, 16, .rc, 0x0, .any⟩
/-- R504 -/ def SIU_CNT2_PULSE_FAIL : Fd := ⟨0x290038, 0x0, 1, 0, 16, .rc, 0x0, .any⟩
/-- R504 -/ def SIU_CNT2_QUENCHES : Fd := ⟨0x290038, 0x0, 1, 16, 16, .rc, 0x0, .any⟩
/-- R526 -/ def KLN_THR_WARN : Fd := ⟨0x2B0000, 0x0, 1, 0, 8, .rwp, 0x5F, .any⟩
/-- R526 -/ def KLN_THR_THROTTLE : Fd := ⟨0x2B0000, 0x0, 1, 8, 8, .rwp, 0x67, .any⟩
/-- R526 -/ def KLN_THR_SHUTDOWN : Fd := ⟨0x2B0000, 0x0, 1, 16, 8, .rwp, 0x73, .any⟩
/-- R527 -/ def KLN_THROTTLE_K_SLOPE : Fd := ⟨0x2B0004, 0x0, 1, 0, 8, .rwp, 0x3C, .range 10 200⟩
/-- R527 -/ def KLN_THROTTLE_FLOOR : Fd := ⟨0x2B0004, 0x0, 1, 8, 7, .rwp, 0x14, .range 20 100⟩
/-- R527 -/ def KLN_THROTTLE_F_NOW : Fd := ⟨0x2B0004, 0x0, 1, 16, 9, .ro, 0x100, .any⟩
/-- R528 -/ def KLN_CTRL_CASK_WIN_EN : Fd := ⟨0x2B0008, 0x0, 1, 0, 1, .rwp, 0x1, .any⟩
/-- R528 -/ def KLN_CTRL_TCOMP_EN : Fd := ⟨0x2B0008, 0x0, 1, 1, 1, .rwp, 0x1, .any⟩
/-- R528 -/ def KLN_VHV_VHV_LO : Fd := ⟨0x2B000C, 0x0, 1, 0, 8, .rw, 0x28, .range 23 65⟩
/-- R528 -/ def KLN_VHV_VHV_HI : Fd := ⟨0x2B000C, 0x0, 1, 8, 8, .rw, 0x42, .upTo 66⟩
/-- R529 -/ def KLN_STATUS_T_C : Fd := ⟨0x2B0010, 0x0, 1, 0, 16, .ro, 0x0, .any⟩
/-- R529 -/ def KLN_STATUS_WARNING : Fd := ⟨0x2B0010, 0x0, 1, 16, 1, .ro, 0x0, .any⟩
/-- R529 -/ def KLN_STATUS_THROTTLING : Fd := ⟨0x2B0010, 0x0, 1, 17, 1, .ro, 0x0, .any⟩
/-- R529 -/ def KLN_STATUS_SHUTDOWN : Fd := ⟨0x2B0010, 0x0, 1, 18, 1, .ro, 0x0, .any⟩
/-- R529 -/ def KLN_STATUS_CASK_OK : Fd := ⟨0x2B0010, 0x0, 1, 19, 1, .ro, 0x0, .any⟩
/-- R529 -/ def KLN_STATUS_TC_LIVE : Fd := ⟨0x2B0010, 0x0, 1, 20, 1, .ro, 0x0, .any⟩
/-- R529 -/ def KLN_STATUS_TC_VALID : Fd := ⟨0x2B0010, 0x0, 1, 21, 1, .ro, 0x0, .any⟩
/-- R529 -/ def KLN_STATUS_VHV_OUT : Fd := ⟨0x2B0010, 0x0, 1, 22, 1, .ro, 0x0, .any⟩
/-- R530 -/ def KLN_FAIL_FAILED : Fd := ⟨0x2B0014, 0x0, 1, 0, 32, .ro, 0x0, .any⟩
/-- R530 -/ def KLN_TEMP_T : Fd := ⟨0x2B0100, 0x4, 32, 0, 16, .ro, 0x0, .any⟩
/-- R530 -/ def KLN_TEMP_FAILED : Fd := ⟨0x2B0100, 0x4, 32, 16, 1, .ro, 0x0, .any⟩
/-- R530 -/ def KLN_TEMP_NOT_FITTED : Fd := ⟨0x2B0100, 0x4, 32, 17, 1, .ro, 0x0, .any⟩
/-- R530 -/ def KLN_TEMP_PENDING : Fd := ⟨0x2B0100, 0x4, 32, 18, 1, .ro, 0x0, .any⟩
/-- R531 -/ def HK_CTRL_PERIOD2 : Fd := ⟨0x2B0040, 0x0, 1, 0, 2, .rw, 0x0, .any⟩
/-- R531 -/ def HK_CTRL_PERIOD3 : Fd := ⟨0x2B0040, 0x0, 1, 2, 2, .rw, 0x0, .any⟩
/-- R531 -/ def HK_CTRL_CAL_REQ : Fd := ⟨0x2B0040, 0x0, 1, 4, 1, .w1s, 0x0, .any⟩
/-- R531 -/ def HK_CTRL_CAL_AUTO : Fd := ⟨0x2B0040, 0x0, 1, 5, 1, .rw, 0x1, .any⟩
/-- R531 -/ def HK_CTRL_CUSTOM : Fd := ⟨0x2B0040, 0x0, 1, 16, 14, .rw, 0x64, .range 10 10000⟩
/-- R531 -/ def HK_SCAN_MASK2 : Fd := ⟨0x2B0044, 0x0, 1, 0, 16, .rw, 0xFFFF, .any⟩
/-- R531 -/ def HK_SCAN_MASK3 : Fd := ⟨0x2B0044, 0x0, 1, 16, 16, .rw, 0xFFFF, .any⟩
/-- R531 -/ def HK_STATUS_CAL_BUSY : Fd := ⟨0x2B0048, 0x0, 1, 0, 4, .ro, 0x0, .any⟩
/-- R531 -/ def HK_STATUS_INJ_PEND : Fd := ⟨0x2B0048, 0x0, 1, 4, 12, .ro, 0x0, .any⟩
/-- R531 -/ def HK_STATUS_CAL_PEND : Fd := ⟨0x2B0048, 0x0, 1, 16, 4, .ro, 0x0, .any⟩
/-- R532 -/ def HK_RES_LO_CODE : Fd := ⟨0x2B0200, 0x8, 64, 0, 20, .ro, 0x0, .any⟩
/-- R532 -/ def HK_RES_LO_CHANNEL : Fd := ⟨0x2B0200, 0x8, 64, 20, 6, .ro, 0x0, .any⟩
/-- R532 -/ def HK_RES_LO_VALID : Fd := ⟨0x2B0200, 0x8, 64, 26, 1, .ro, 0x0, .any⟩
/-- R532 -/ def HK_RES_HI_END_NS : Fd := ⟨0x2B0204, 0x8, 64, 0, 30, .ro, 0x0, .any⟩
/-- R533 -/ def KLN_CNT_CASK_REFUSED : Fd := ⟨0x2B0018, 0x0, 1, 0, 16, .rc, 0x0, .any⟩
/-- R533 -/ def KLN_CNT_SENSOR_FAIL : Fd := ⟨0x2B0018, 0x0, 1, 16, 16, .rc, 0x0, .any⟩
/-- R533 -/ def HK_CNT_INJECTED : Fd := ⟨0x2B0050, 0x0, 1, 0, 16, .rc, 0x0, .any⟩
/-- R533 -/ def HK_CNT_CAL_DEFER : Fd := ⟨0x2B0050, 0x0, 1, 16, 16, .rc, 0x0, .any⟩
/-- R551 -/ def FLT_CTRL_INJ_ACT : Fd := ⟨0x2A0000, 0x0, 1, 0, 1, .rw, 0x0, .any⟩
/-- R551 -/ def FLT_CTRL_HOLDOFF_US : Fd := ⟨0x2A0000, 0x0, 1, 8, 10, .rw, 0xA, .any⟩
/-- R552 -/ def FLT_INJ_SOURCE : Fd := ⟨0x2A0004, 0x0, 1, 0, 10, .rwp, 0x0, .any⟩
/-- R552 -/ def FLT_INJ_GO : Fd := ⟨0x2A0004, 0x0, 1, 31, 1, .rwp, 0x0, .any⟩
/-- R552 -/ def FLT_SWTRIG_TRIG : Fd := ⟨0x2A0008, 0x0, 1, 0, 32, .w1s, 0x0, .any⟩
/-- R552 -/ def FLT_STATUS_N_HELD : Fd := ⟨0x2A000C, 0x0, 1, 0, 11, .ro, 0x0, .any⟩
/-- R552 -/ def FLT_STATUS_FF_VALID : Fd := ⟨0x2A000C, 0x0, 1, 16, 1, .ro, 0x0, .any⟩
/-- R553 -/ def FLT_FF_SRC_SOURCE : Fd := ⟨0x2A0010, 0x0, 1, 0, 10, .ro, 0x0, .any⟩
/-- R553 -/ def FLT_FF_SRC_SEVERITY : Fd := ⟨0x2A0010, 0x0, 1, 10, 3, .ro, 0x0, .any⟩
/-- R553 -/ def FLT_FF_SRC_STATUS : Fd := ⟨0x2A0010, 0x0, 1, 16, 8, .ro, 0x0, .any⟩
/-- R553 -/ def FLT_FF_INFO_INFO : Fd := ⟨0x2A0014, 0x0, 1, 0, 32, .ro, 0x0, .any⟩
/-- R553 -/ def FLT_FF_NS_NS : Fd := ⟨0x2A0018, 0x0, 1, 0, 30, .ro, 0x0, .any⟩
/-- R553 -/ def FLT_FF_FRAC_FRAC : Fd := ⟨0x2A001C, 0x0, 1, 0, 16, .ro, 0x0, .any⟩
/-- R553 -/ def FLT_FF_SEC_LO_SEC_LO : Fd := ⟨0x2A0020, 0x0, 1, 0, 32, .ro, 0x0, .any⟩
/-- R553 -/ def FLT_FF_SEC_HI_SEC_HI : Fd := ⟨0x2A0024, 0x0, 1, 0, 32, .ro, 0x0, .any⟩
/-- R554 -/ def FLT_HIST_SNAP_SNAP : Fd := ⟨0x2A0030, 0x0, 1, 0, 1, .w1s, 0x0, .any⟩
/-- R554 -/ def FLT_HIST_CNT_ENTRIES : Fd := ⟨0x2A0034, 0x0, 1, 0, 6, .ro, 0x0, .any⟩
/-- R554 -/ def FLT_HIST_CNT_RECORDED : Fd := ⟨0x2A0034, 0x0, 1, 16, 16, .rc, 0x0, .any⟩
/-- R554 -/ def FLT_CNT_CLEAR_REFUSED : Fd := ⟨0x2A0038, 0x0, 1, 0, 16, .rc, 0x0, .any⟩
/-- R554 -/ def FLT_CNT_SUPPRESSED : Fd := ⟨0x2A0038, 0x0, 1, 16, 16, .rc, 0x0, .any⟩
/-- R555 -/ def FLT_HELD_HELD : Fd := ⟨0x2A0080, 0x4, 32, 0, 32, .ro, 0x0, .any⟩
/-- R555 -/ def FLT_CAUSE_CAUSE : Fd := ⟨0x2A0100, 0x4, 32, 0, 32, .ro, 0x0, .any⟩
/-- R556 -/ def FLT_SEV_SEV : Fd := ⟨0x2A0200, 0x4, 128, 0, 3, .rw, 0x0, .upTo 5⟩
/-- R557 -/ def FLT_H_SRC_SOURCE : Fd := ⟨0x2A0400, 0x20, 32, 0, 10, .ro, 0x0, .any⟩
/-- R557 -/ def FLT_H_SRC_SEVERITY : Fd := ⟨0x2A0400, 0x20, 32, 10, 3, .ro, 0x0, .any⟩
/-- R557 -/ def FLT_H_SRC_INJECTED : Fd := ⟨0x2A0400, 0x20, 32, 13, 1, .ro, 0x0, .any⟩
/-- R557 -/ def FLT_H_SRC_FIRST : Fd := ⟨0x2A0400, 0x20, 32, 14, 1, .ro, 0x0, .any⟩
/-- R557 -/ def FLT_H_SRC_VALID : Fd := ⟨0x2A0400, 0x20, 32, 15, 1, .ro, 0x0, .any⟩
/-- R557 -/ def FLT_H_SRC_STATUS : Fd := ⟨0x2A0400, 0x20, 32, 16, 8, .ro, 0x0, .any⟩
/-- R557 -/ def FLT_H_INFO_INFO : Fd := ⟨0x2A0404, 0x20, 32, 0, 32, .ro, 0x0, .any⟩
/-- R557 -/ def FLT_H_NS_NS : Fd := ⟨0x2A0408, 0x20, 32, 0, 30, .ro, 0x0, .any⟩
/-- R557 -/ def FLT_H_FRAC_FRAC : Fd := ⟨0x2A040C, 0x20, 32, 0, 16, .ro, 0x0, .any⟩
/-- R557 -/ def FLT_H_SEC_LO_SEC : Fd := ⟨0x2A0410, 0x20, 32, 0, 32, .ro, 0x0, .any⟩
/-- R557 -/ def FLT_H_SEC_HI_SEC : Fd := ⟨0x2A0414, 0x20, 32, 0, 32, .ro, 0x0, .any⟩
/-- R587 -/ def BTU_STATE_STATE : Fd := ⟨0x2C0000, 0x0, 1, 0, 3, .ro, 0x0, .any⟩
/-- R587 -/ def BTU_STATE_FW_SLOT : Fd := ⟨0x2C0000, 0x0, 1, 3, 1, .ro, 0x0, .any⟩
/-- R587 -/ def BTU_STATE_UC_SLOT : Fd := ⟨0x2C0000, 0x0, 1, 4, 1, .ro, 0x0, .any⟩
/-- R587 -/ def BTU_STATE_CASK_VALID : Fd := ⟨0x2C0000, 0x0, 1, 5, 1, .ro, 0x0, .any⟩
/-- R587 -/ def BTU_STATE_CASK_COPY : Fd := ⟨0x2C0000, 0x0, 1, 6, 1, .ro, 0x0, .any⟩
/-- R587 -/ def BTU_STATE_REMAP : Fd := ⟨0x2C0000, 0x0, 1, 7, 1, .ro, 0x0, .any⟩
/-- R587 -/ def BTU_STATE_UC_STAGED : Fd := ⟨0x2C0000, 0x0, 1, 8, 1, .ro, 0x0, .any⟩
/-- R588 -/ def BTU_RESET_PORST : Fd := ⟨0x2C0004, 0x0, 1, 0, 1, .w1c, 0x1, .any⟩
/-- R588 -/ def BTU_RESET_WARM : Fd := ⟨0x2C0004, 0x0, 1, 1, 1, .w1c, 0x0, .any⟩
/-- R588 -/ def BTU_RESET_WARM_CNT : Fd := ⟨0x2C0004, 0x0, 1, 16, 16, .rc, 0x0, .any⟩
/-- R588 -/ def BTU_FW_VER_IMG_VER : Fd := ⟨0x2C0008, 0x0, 1, 0, 32, .ro, 0x0, .any⟩
/-- R588 -/ def BTU_FUSE_SVN_RUN : Fd := ⟨0x2C000C, 0x0, 1, 0, 6, .ro, 0x0, .any⟩
/-- R588 -/ def BTU_FUSE_SVN_FLOOR : Fd := ⟨0x2C000C, 0x0, 1, 8, 6, .ro, 0x0, .any⟩
/-- R588 -/ def BTU_FUSE_KEY_RUN : Fd := ⟨0x2C000C, 0x0, 1, 14, 2, .ro, 0x0, .any⟩
/-- R588 -/ def BTU_FUSE_KEY_REVOKED : Fd := ⟨0x2C000C, 0x0, 1, 16, 4, .ro, 0x0, .any⟩
/-- R588 -/ def BTU_UC_VER_IMG_VER : Fd := ⟨0x2C0010, 0x0, 1, 0, 32, .ro, 0x0, .any⟩
/-- R589 -/ def BTU_CTRL_SVN_COMMIT : Fd := ⟨0x2C0014, 0x0, 1, 0, 1, .rwp, 0x0, .any⟩
/-- R589 -/ def BTU_CTRL_SEAL : Fd := ⟨0x2C0014, 0x0, 1, 1, 1, .rwp, 0x0, .any⟩
/-- R589 -/ def BTU_CTRL_KEY_REVOKE : Fd := ⟨0x2C0014, 0x0, 1, 4, 4, .rwp, 0x0, .any⟩
/-- R589 -/ def BTU_CASK_GEN : Fd := ⟨0x2C0018, 0x0, 1, 0, 32, .ro, 0x0, .any⟩
/-- R589 -/ def BTU_CASK_STATUS_SEAL_BUSY : Fd := ⟨0x2C001C, 0x0, 1, 0, 1, .ro, 0x0, .any⟩
/-- R589 -/ def BTU_CASK_STATUS_SEAL_RESULT : Fd := ⟨0x2C001C, 0x0, 1, 8, 8, .ro, 0x0, .any⟩
/-- R589 -/ def BTU_CASK_STATUS_SEALS : Fd := ⟨0x2C001C, 0x0, 1, 16, 16, .rc, 0x0, .any⟩
/-- R590 -/ def DOM_CTRL_FENCE : Fd := ⟨0x10000, 0x2000, 8, 0, 1, .w1s, 0x0, .any⟩
/-- R590 -/ def DOM_CTRL_UPDATE : Fd := ⟨0x10000, 0x2000, 8, 1, 1, .rwp, 0x0, .any⟩
/-- R590 -/ def DOM_CTRL_RELOAD : Fd := ⟨0x10000, 0x2000, 8, 2, 1, .w1s, 0x0, .any⟩
/-- R590 -/ def DOM_CTRL_RETURN : Fd := ⟨0x10000, 0x2000, 8, 3, 1, .w1s, 0x0, .any⟩
/-- R590 -/ def DOM_STATUS_STATE : Fd := ⟨0x10004, 0x2000, 8, 0, 3, .ro, 0x0, .any⟩
/-- R590 -/ def DOM_STATUS_FENCE_CAUSE : Fd := ⟨0x10004, 0x2000, 8, 3, 2, .ro, 0x0, .any⟩
/-- R590 -/ def DOM_STATUS_LAST_RESULT : Fd := ⟨0x10004, 0x2000, 8, 5, 2, .ro, 0x0, .any⟩
/-- R590 -/ def DOM_STATUS_REFUSED : Fd := ⟨0x10004, 0x2000, 8, 7, 1, .w1c, 0x0, .any⟩
/-- R590 -/ def DOM_UC_VER_IMG_VER : Fd := ⟨0x10008, 0x2000, 8, 0, 32, .ro, 0x0, .any⟩
/-- R590 -/ def DOM_CNT_FENCES : Fd := ⟨0x1000C, 0x2000, 8, 0, 16, .rc, 0x0, .any⟩
/-- R590 -/ def DOM_CNT_LOADS : Fd := ⟨0x1000C, 0x2000, 8, 16, 16, .rc, 0x0, .any⟩
/-- R608 -/ def MTX_CTRL_REMAP : Fd := ⟨0x2D0000, 0x0, 1, 0, 1, .w1s, 0x0, .any⟩
/-- R608 -/ def MTX_AGE_AGE : Fd := ⟨0x2D0004, 0x0, 1, 0, 10, .rw, 0x100, .range 16 1023⟩
/-- R609 -/ def MTX_STATUS_RETIRING : Fd := ⟨0x2D0008, 0x0, 1, 0, 7, .ro, 0x0, .any⟩
/-- R610 -/ def MTX_ERR_LO_ADDR_LO : Fd := ⟨0x2D0010, 0x0, 1, 0, 32, .ro, 0x0, .any⟩
/-- R610 -/ def MTX_ERR_HI_ADDR_HI : Fd := ⟨0x2D0014, 0x0, 1, 0, 8, .ro, 0x0, .any⟩
/-- R610 -/ def MTX_ERR_HI_MASTER : Fd := ⟨0x2D0014, 0x0, 1, 8, 4, .ro, 0x0, .any⟩
/-- R610 -/ def MTX_ERR_HI_WRITE : Fd := ⟨0x2D0014, 0x0, 1, 12, 1, .ro, 0x0, .any⟩
/-- R610 -/ def MTX_ECC_ADDR_ADDR : Fd := ⟨0x2D0018, 0x0, 1, 0, 32, .ro, 0x0, .any⟩
/-- R611 -/ def MTX_CNT0_CORRECTED : Fd := ⟨0x2D0020, 0x0, 1, 0, 16, .rc, 0x0, .any⟩
/-- R611 -/ def MTX_CNT0_UNCORR : Fd := ⟨0x2D0020, 0x0, 1, 16, 16, .rc, 0x0, .any⟩
/-- R611 -/ def MTX_CNT1_DEFAULT : Fd := ⟨0x2D0024, 0x0, 1, 0, 16, .rc, 0x0, .any⟩
/-- R611 -/ def MTX_CNT1_RESETS : Fd := ⟨0x2D0024, 0x0, 1, 16, 16, .rc, 0x0, .any⟩
/-- R628 -/ def GLB_ID_PART : Fd := ⟨0x0, 0x0, 1, 0, 16, .ro, 0x1096, .any⟩
/-- R628 -/ def GLB_ID_REV : Fd := ⟨0x0, 0x0, 1, 16, 4, .ro, 0x1, .any⟩
/-- R628 -/ def GLB_DIE_ID_LO_DIE_LO : Fd := ⟨0x4, 0x0, 1, 0, 32, .ro, 0x0, .any⟩
/-- R628 -/ def GLB_DIE_ID_HI_DIE_HI : Fd := ⟨0x8, 0x0, 1, 0, 32, .ro, 0x0, .any⟩
/-- R628 -/ def GLB_TEST_TEST_EN : Fd := ⟨0xC, 0x0, 1, 0, 1, .ro, 0x0, .any⟩
/-- R628 -/ def GLB_TEST_TEST_LOCK : Fd := ⟨0xC, 0x0, 1, 1, 1, .ro, 0x1, .any⟩
/-- R628 -/ def GLB_TEST_DRIVE_REFUSED : Fd := ⟨0xC, 0x0, 1, 2, 1, .w1c, 0x0, .any⟩
/-- R628 -/ def GLB_MBIST_RESULT : Fd := ⟨0x10, 0x0, 1, 0, 32, .ro, 0x0, .any⟩
/-- R82 -/ def KFI_DESC_CRC_CRC : Fd := ⟨0x408, 0x0, 1, 0, 32, .ro, 0x0, .any⟩

/-- The fields of the GLB block. -/
def fieldsGLB : List Fd :=
  [KFI_CTRL_FDI_FAST, KFI_CTRL_DESC_REREAD, KFI_STATUS_DESC_VALID, KFI_STATUS_PARK_TABLE, KFI_STATUS_DESC_ERR, KFI_STATUS_PORT_STRAP, KFI_STATUS_READING, KFI_STATUS_OWN, KFI_STATUS_OWNX, KFI_STATUS_REREAD_IGN, GLB_ID_PART, GLB_ID_REV] ++
  [GLB_DIE_ID_LO_DIE_LO, GLB_DIE_ID_HI_DIE_HI, GLB_TEST_TEST_EN, GLB_TEST_TEST_LOCK, GLB_TEST_DRIVE_REFUSED, GLB_MBIST_RESULT, KFI_DESC_CRC_CRC]

/-- The fields of the TILE block. -/
def fieldsTILE : List Fd :=
  [DRV_SPAN_SPAN_PRI, DRV_SPAN_SPAN_TRIM, DRV_SPAN_SPAN_BUSY, DRV_SPAN_SPAN_WAIT, DRV_SPAN_LIVE_PRI, DRV_SPAN_LIVE_TRIM, DRV_SLEW_N_STEP, DRV_SLEW_B_STEP, DRV_SLEW_N_RATE, DRV_SLEW_B_RATE, DRV_CTRL_DEGLITCH_EN, DRV_CTRL_STEEP_EN] ++
  [DRV_CTRL_STEEP_DWELL, DRV_CTRL_PARK_DWELL, DRV_STEEP_STEEP_GAIN_PRI, DRV_STEEP_STEEP_GAIN_TRIM, DRV_STEEP_STEEP_MAX, FF_CTRL_FF_AMP_PRI, FF_CTRL_FF_AMP_TRIM, FF_CTRL_FF_TOFF, FF_CTRL_FF_SRC, DRV_STATUS_CLR, DRV_STATUS_BURST, DRV_STATUS_PARK_HOLD] ++
  [DRV_STATUS_DRV_FAULT, DRV_STATUS_ILIM_NOW, DRV_MISS_MISS, DRV_MISS_FF_CLIP, DRV_ILIM0_C0, DRV_ILIM0_C1, DRV_ILIM0_C2, DRV_ILIM0_C3, DRV_ILIM1_C4, DRV_ILIM1_C5, DRV_ILIM1_C6, DRV_ILIM1_C7] ++
  [SNS_CTRL_RANGE_MODE, SNS_CTRL_FIX_RANGE, SNS_CTRL_SCARAB_EN, SNS_CTRL_LINE_CHECK, SNS_CTRL_FINE_FRAMES, SNS_CTRL_FAULT_FRAMES, SNS_SCARAB_SPARE, SNS_SCARAB_DIR, SNS_SCARAB_OVERLAP, SNS_SCARAB_SCARAB_TOL, SNS_SCARAB_FAILED, SNS_DRIFT_DRIFT_ABS] ++
  [SNS_DRIFT_DRIFT_REL, SNS_DRIFT_DRIFT_CNT, SNS_STATUS_LINE_OPEN, SNS_STATUS_CHECK_BUSY, SNS_STATUS_CAL_DONE, SNS_STATUS_FAULT_NOW, SNS_STATUS_UNSERVED, SNS_OVR0_C0, SNS_OVR0_C1, SNS_OVR0_C2, SNS_OVR0_C3, SNS_OVR1_C4] ++
  [SNS_OVR1_C5, SNS_OVR1_C6, SNS_OVR1_C7, SNS_UNR0_C0, SNS_UNR0_C1, SNS_UNR0_C2, SNS_UNR0_C3, SNS_UNR1_C4, SNS_UNR1_C5, SNS_UNR1_C6, SNS_UNR1_C7, SNS_EVENTS_RANGE_CHG] ++
  [SNS_EVENTS_SWAPS, SNS_EVENTS_SWAP_REFUSED, SNS_TRUNC_TRUNC, LOOP_CTRL_RUN, LOOP_CTRL_REACQ_FRAMES, LOOP_CTRL_DIV_FRAMES, LOOP_CTRL_DIV_LANE_MAX, LOOP_MEAS_SUM_MIN, LOOP_MEAS_MISS_MAX, LOOP_MEAS_DIV_LIMIT, LOOP_REGION_BAR_EDGE, LOOP_REGION_CROSS_EDGE] ++
  [LOOP_TEMP_TSRC, LOOP_TEMP_TSRC_DIE, LOOP_TEMP_TB_BASE, LOOP_TEMP_TB_STEP, LOOP_TEMP_TBAND, LOOP_HOLD_HOLD_MAX, LOOP_HOLD_DRIFT_ACT, LOOP_HOLD_HOLD_LEFT, LOOP_BANK_GAIN_LIVE, LOOP_BANK_LCFG_LIVE, LOOP_BANK_FFC_LIVE, LOOP_BANK_GAIN_PEND] ++
  [LOOP_BANK_LCFG_PEND, LOOP_BANK_FFC_PEND, LOOP_CAL_BUSY, LOOP_CAL_DONE, LOOP_CAL_ABORTED, LOOP_CAL_POINT, LOOP_MODES_N_FEEDBACK, LOOP_MODES_N_HOLD, LOOP_MODES_N_PARK, LOOP_MODES_N_OTHER, LOOP_SAT_ACC_SAT, LOOP_SAT_HANDOVER_CLAMP] ++
  [LOOP_DIV_DIV_EPISODES, LOOP_DIV_MISS_FREEZE, LOOP_HEVT_HOLD_EXPIRED, LOOP_HEVT_DRIFT_PARKED, LOOP_HEVT_GS_INVALID, TXN_TBANK0_HANDLE, TXN_TBANK0_STATE, TXN_TBANK0_PARTIAL, TXN_TBANK1_HANDLE, TXN_TBANK1_STATE, TXN_TBANK1_PARTIAL, TXN_TCNT_ARM_MISS] ++
  [TXN_TCNT_LATE_ELEM]

/-- The fields of the TMU block. -/
def fieldsTMU : List Fd :=
  [TMU_CTRL_PTP_EN, TMU_CTRL_PORT, TMU_CTRL_TRANSPORT, TMU_CTRL_DELAY_MECH, TMU_CTRL_TC_MODE, TMU_CTRL_AUTO_FIRST, TMU_CTRL_DOMAIN_NUM, TMU_STATUS_SERVO_STATE, TMU_STATUS_TRACEABLE, TMU_STATUS_SLEWING, TMU_STATUS_STEP_PLACED, TMU_STATUS_PLL_LOCK] ++
  [TMU_STATUS_STEP_ID, TMU_NOW_NS_NS, TMU_NOW_FRAC_FRAC, TMU_NOW_SEC_LO_SEC_LO, TMU_NOW_SEC_HI_SEC_HI, TMU_SERVO_KP, TMU_SERVO_KI, TMU_LIMITS_FREQ_MAX, TMU_LIMITS_SLEW_MAX, TMU_LIMITS_HOLD_AVG, TMU_JUMP_THR_JUMP_THR, TMU_LOCK_LOCK_THR] ++
  [TMU_LOCK_LOCK_CNT, TMU_LOCK_UNLOCK_CNT, TMU_EVAL_EVAL_SAMPLES, TMU_EVAL_WITHDRAW_CNT, TMU_EVAL_EVAL_SPREAD, TMU_STEP_STEP_WAIT, TMU_LOSS_SYNC_LOSS, TMU_LOSS_MPD_WEIGHT, TMU_OFFSET_LO_OFFSET, TMU_OFFSET_HI_OFFSET, TMU_PEND_STEP_LO_PEND_STEP, TMU_PEND_STEP_HI_PEND_STEP] ++
  [TMU_MPD_LO_MPD, TMU_MPD_HI_MPD, TMU_FREQ_FREQ, TMU_SLEW_LEFT_SLEW_LEFT, TMU_SRC_ID_LO_CLOCK_ID, TMU_SRC_ID_HI_CLOCK_ID, TMU_SRC_PORT_PORT_NUM, TMU_SRC_PORT_CLOCK_CLASS, TMU_ASYM_CP0_ASYM_PS, TMU_ASYM_CP1_ASYM_PS, TMU_TREE_CAL_BUSY, TMU_TREE_DONE] ++
  [TMU_TREE_MAX_ERR, TMU_TREE_DOM_FAIL, TMU_TREE_TRIM_MOVES, TMU_TREE_FAIL_TILE, TOUT_CTRL_ARM, TOUT_CTRL_STOP, TOUT_CTRL_ACTIVE, TOUT_CTRL_LATE, TOUT_CTRL_POL, TOUT_START_NS_NS, TOUT_START_SEC_LO_SEC, TOUT_START_SEC_HI_SEC] ++
  [TOUT_PERIOD_PERIOD, TOUT_WIDTH_WIDTH, TCAP_CTRL_EN, TCAP_CTRL_EDGE, TCAP_CTRL_OVF, TCAP_CTRL_LEVEL, TCAP_NS_NS, TCAP_NS_FALL, TCAP_NS_VALID, TCAP_FRAC_FRAC, TCAP_SEC_LO_SEC, TCAP_SEC_HI_SEC] ++
  [TMU_CNT_EVAL_REFUSED, TMU_CNT_EVAL_EVAL_RESTART, TMU_CNT_TC_TC_SAT, TMU_CNT_TC_TC_UNPARSED, TMU_CNT_CAP_CAP0, TMU_CNT_CAP_CAP1, TMU_CNT_CAP_CAP2, TMU_CNT_CAP_CAP3, TMU_CNT_MSG_MSG_IGNORED, TMU_CNT_MSG_TOUT_SKIPPED, TXN_CTRL_ARM_MARGIN, TXN_VERIFY_VERIFY_WIN] ++
  [TXN_VERIFY_VERIFY_TOL, TXN_STATUS_N_USED, TXN_STATUS_QUENCH_BUSY, TXN_STATUS_SAFETY_HOLD, TXN_STATUS_LAST_HANDLE, TXN_ERR_HANDLE, TXN_ERR_REASON, TXN_ERR_TILE, TXN_ERR_NO_HANDLE, TXN_CNT0_COMMITS, TXN_CNT0_NOT_ARMED, TXN_CNT1_ABORTED] ++
  [TXN_CNT1_SETTLE_LATE, TXN_CNT2_QUENCHES, TXN_CNT2_REFUSED, TXN_QDT_NS_NS, TXN_QDT_FRAC_FRAC, TXN_QDT_SEC_LO_SEC_LO, TXN_QDT_SEC_HI_SEC_HI, CAL_CTRL_CAL_LEAD, CAL_STATUS_RUNNING, CAL_STATUS_WAITING, CAL_THROTTLE_K, CAL_ENERGY_ENERGY] ++
  [CAL_L_STATE_STATE, CAL_L_STATE_LATE, CAL_L_STATE_SWAP_PEND, CAL_L_STATE_STOP_PEND, CAL_L_STATE_SWAP_WITH, CAL_L_STATE_LAST_STATUS, CAL_L_POS_NEXT, CAL_L_CYCLES_CYCLES, CAL_L_ISSUED_ISSUED, CAL_L_CNT0_SKIPPED, CAL_L_CNT0_MISSED, CAL_L_CNT1_FAILED] ++
  [CAL_L_CNT1_COLLIDED, CAL_L_CNT2_ESS_FAIL]

/-- The fields of the ADM block. -/
def fieldsADM : List Fd :=
  [ADM_CTRL_REFILL, ADM_CTRL_MAX_PER_TICK, ADM_ENERGY_E_CAP, ADM_ENERGY_E_HICREDIT, ADM_COST_E_UNIT, ADM_COST_E_EST, ADM_LEAD_ADMIT_LEAD, ADM_LEAD_ADMIT_WIN, ADM_DOM_RATE_D_RATE, ADM_DOM_LIM_D_HICREDIT, ADM_STATUS_TENANT_LIVE, ADM_STATUS_PROFILE_LIVE] ++
  [ADM_STATUS_TENANT_PEND, ADM_STATUS_PROFILE_PEND, ADM_STATUS_F_LIVE, ADM_POOL_HELD, ADM_POOL_PEAK, ADM_CNT0_ADMITTED, ADM_CNT0_CONFLICT, ADM_CNT1_POLICED, ADM_CNT1_DEFERRED, ADM_CNT2_LATE, ADM_CNT2_THROTTLED, ADM_CNT3_REFUNDS] ++
  [ADM_CNT3_CRED_SAT, ADM_DCRED_CREDIT, ADM_ECRED_CREDIT, ADM_MON_TENANT, ADM_MON_CLASS, ADM_MON_EN, ADM_HIST_CTRL_SWAP] ++
  (List.range 24).map (fun q => ADM_HDEPTH_COUNT.plus (0x80 * q)) ++
  (List.range 24).map (fun q => ADM_HDELAY_COUNT.plus (0x80 * q))

/-- The fields of the CPX block. -/
def fieldsCPX : List Fd :=
  [CPX_CTRL_MODE, CPX_CTRL_CHAIN, CPX_CTRL_ND_EN, CPX_CTRL_MODE_LIVE, CPX_CTRL_CHAIN_LIVE, CPX_GCRP_GCRP_PORT, CPX_GCRP_SESS_IDLE_MAX, CPX_GCRP_QUAR, CPX_STATUS_LIVE_VER, CPX_STATUS_OLD_VER, CPX_STATUS_DRAINING, CPX_STATUS_COMMIT_WAIT] ++
  [CPX_STATUS_ENG_OK, CPX_DEEP_RULE, CPX_DEEP_USE_RULE, CPX_LQ_RING, CP_CTRL_EN, CP_CTRL_FEC_EN, CP_STATUS_BLOCK_LOCK, CP_STATUS_HI_BER, CP_STATUS_FEC_LOCK, CP_STATUS_UP, CP_STATUS_UP_CHG, CP_MAC_LO_MAC_LO] ++
  [CP_MAC_HI_MAC_HI, CP_IPV4_IPV4, CP_IPV6_0_IPV6, CP_IPV6_1_IPV6, CP_IPV6_2_IPV6, CP_IPV6_3_IPV6, CP_CNT_RX_RX_FRAMES, CP_CNT_TX_TX_FRAMES, CP_CNT_ERR_FCS_ERR, CP_CNT_ERR_OVERSIZE, CP_CNT_FEC_FEC_CORR, CP_CNT_FEC_FEC_UNCORR] ++
  [CP_CNT_DROP_ING_DROP, CP_CNT_DROP_TX_DROP, CPX_SESS_N_OPEN, CPX_SESS_FULL, CPX_SESS_PEAK, CPX_CNT0_MALFORMED, CPX_CNT0_PARSE_DEEP, CPX_CNT1_NO_MATCH, CPX_CNT1_CSUM_ERR, CPX_CNT2_REORDER_SKIP, CPX_CNT2_VER_DROP, CPX_CNT3_COPY_DROP] ++
  [CPX_CNT3_FWD_OFF, GCRP_CNT0_DUPLICATE, GCRP_CNT0_STALE, GCRP_CNT1_SESS_MISS, GCRP_CNT1_SESS_GONE, GCRP_CNT2_BAD_VER, GCRP_CNT2_STBY_DISCARD, GCRP_CNT3_OPENS, GCRP_CNT3_CLOSES]

/-- The fields of the HIF block. -/
def fieldsHIF : List Fd :=
  [HIF_CTRL_EN, HIF_CTRL_FETCH_BURST, HIF_ADM_CMD_LO_CMD_BASE, HIF_ADM_CMD_HI_CMD_BASE, HIF_ADM_CPL_LO_CPL_BASE, HIF_ADM_CPL_HI_CPL_BASE, HIF_ADM_CFG_EN, HIF_ADM_CFG_ERR, HIF_ADM_CFG_CMD_LOG2, HIF_ADM_CFG_CPL_LOG2, HIF_ADM_CFG_VECTOR, HIF_ADM_COAL_COAL_CNT] ++
  [HIF_ADM_COAL_COAL_US, HIF_ADM_TENANT_TENANT, HIF_ADM_TENANT_CLASS, HIF_DB_LO_DB_BASE, HIF_DB_HI_DB_BASE, HIF_POLL_POLL_US, HIF_EVT_LO_EVT_BASE, HIF_EVT_HI_EVT_BASE, HIF_EVT_CFG_EN, HIF_EVT_CFG_LOG2, HIF_EVT_CFG_VECTOR, HIF_EVT_COAL_COAL_CNT] ++
  [HIF_EVT_COAL_COAL_US, HIF_STATUS_BME, HIF_STATUS_MSIX_EN, HIF_STATUS_N_ERR_RINGS, HIF_CNT0_CMDS, HIF_CNT1_ORPHANS, HIF_CNT1_RING_ERR, HIF_CNT2_EVT_LOST, HIF_CNT2_DMA_ERR, HIF_CNT3_KICKS, HIF_CNT3_KICK_MERGED]

/-- The fields of the TWN block. -/
def fieldsTWN : List Fd :=
  [TWN_CTRL_PAIRED, TWN_CTRL_TL_FEC, TWN_CTRL_HB_MISS, TWN_CTRL_SNAP_US, TWN_CTRL_STALE_MS, TWN_STATUS_ROLE, TWN_STATUS_SYNCED, TWN_STATUS_TWIN_SEEN, TWN_STATUS_TWIN_ROLE, TWN_STATUS_TL_UP, TWN_STATUS_CAUSE, TWN_STATUS_TAKEN] ++
  [TWN_STATUS_STALE_TAKE, TWN_SYNC_STORE, TWN_SYNC_NEED_SYNC, TWN_SYNC_KEPT, TWN_CNT0_TAKEOVERS, TWN_CNT0_RESIGNS, TWN_CNT1_RESYNCS, TWN_CNT1_TL_GAPS, TWN_CNT2_SNAP_DISCARD, TWN_CNT2_DIVERGE, TWN_CNT3_GUARD, TWN_CNT3_TL_DROP] ++
  [TWN_TAKE_NS_NS, TWN_TAKE_FRAC_FRAC, TWN_TAKE_SEC_LO_SEC_LO, TWN_TAKE_SEC_HI_SEC_HI, TWN_TL_STATUS_BLOCK_LOCK, TWN_TL_STATUS_HI_BER, TWN_TL_STATUS_FEC_LOCK, TWN_TL_STATUS_UP_CHG]

/-- The fields of the SIU block. -/
def fieldsSIU : List Fd :=
  [SIU_CFG0_T_DISC, SIU_CFG0_T_FILT, SIU_CFG0_DG_AUTO, SIU_CFG0_LC_AUTO, SIU_CFG0_DG_QUENCH, SIU_CFG0_LC_QUENCH, SIU_CFG0_TH_BYPASS_DG, SIU_CFG0_HOST_RST_EN, SIU_CFG0_EDM_EN, SIU_CFG1_DEGRADE_MIN, SIU_CFG1_PRES_WIN, SIU_CMD_CFG_COMMIT] ++
  [SIU_CMD_RESET_REQ, SIU_CMD_PRES_CLOSE, SIU_CFG_CRC_CFG_CRC, SIU_STATUS_STATE, SIU_STATUS_SAFETY_HOLD, SIU_STATUS_PRES_OPEN, SIU_STATUS_TH_ACTIVE, SIU_STATUS_DG_BYPASSED, SIU_STATUS_CFG_PEND, SIU_STATUS_PRES_LEFT, SIU_INPUTS_ES, SIU_INPUTS_DG] ++
  [SIU_INPUTS_TH1, SIU_INPUTS_TH2, SIU_INPUTS_LC, SIU_INPUTS_RAW, SIU_INPUTS_RST_RAW, SIU_INPUTS_EDM_RAW, SIU_OUTPUTS_SO_A_ON, SIU_OUTPUTS_SO_B_ON, SIU_OUTPUTS_RB_A, SIU_OUTPUTS_RB_B, SIU_OUTPUTS_FAIL_A, SIU_OUTPUTS_FAIL_B] ++
  [SIU_DEGRADE_DEGRADE_LEFT, SIU_FAULT_DISC, SIU_FAULT_SEEN_SAFE, SIU_FAULT_OUT_FAULT, SIU_FAULT_DEGRADE_EXP, SIU_FAULT_INTERNAL, SIU_STICKY_RST_HELD, SIU_STICKY_PRES_STUCK, SIU_CNT0_DEMANDS, SIU_CNT0_DISC_FAULTS, SIU_CNT1_INCOMPLETE, SIU_CNT1_RESET_REFUSED] ++
  [SIU_CNT2_PULSE_FAIL, SIU_CNT2_QUENCHES]

/-- The fields of the KLN block. -/
def fieldsKLN : List Fd :=
  [KLN_THR_WARN, KLN_THR_THROTTLE, KLN_THR_SHUTDOWN, KLN_THROTTLE_K_SLOPE, KLN_THROTTLE_FLOOR, KLN_THROTTLE_F_NOW, KLN_CTRL_CASK_WIN_EN, KLN_CTRL_TCOMP_EN, KLN_VHV_VHV_LO, KLN_VHV_VHV_HI, KLN_STATUS_T_C, KLN_STATUS_WARNING] ++
  [KLN_STATUS_THROTTLING, KLN_STATUS_SHUTDOWN, KLN_STATUS_CASK_OK, KLN_STATUS_TC_LIVE, KLN_STATUS_TC_VALID, KLN_STATUS_VHV_OUT, KLN_FAIL_FAILED, KLN_TEMP_T, KLN_TEMP_FAILED, KLN_TEMP_NOT_FITTED, KLN_TEMP_PENDING, HK_CTRL_PERIOD2] ++
  [HK_CTRL_PERIOD3, HK_CTRL_CAL_REQ, HK_CTRL_CAL_AUTO, HK_CTRL_CUSTOM, HK_SCAN_MASK2, HK_SCAN_MASK3, HK_STATUS_CAL_BUSY, HK_STATUS_INJ_PEND, HK_STATUS_CAL_PEND, HK_RES_LO_CODE, HK_RES_LO_CHANNEL, HK_RES_LO_VALID] ++
  [HK_RES_HI_END_NS, KLN_CNT_CASK_REFUSED, KLN_CNT_SENSOR_FAIL, HK_CNT_INJECTED, HK_CNT_CAL_DEFER]

/-- The fields of the FLT block. -/
def fieldsFLT : List Fd :=
  [FLT_CTRL_INJ_ACT, FLT_CTRL_HOLDOFF_US, FLT_INJ_SOURCE, FLT_INJ_GO, FLT_SWTRIG_TRIG, FLT_STATUS_N_HELD, FLT_STATUS_FF_VALID, FLT_FF_SRC_SOURCE, FLT_FF_SRC_SEVERITY, FLT_FF_SRC_STATUS, FLT_FF_INFO_INFO, FLT_FF_NS_NS] ++
  [FLT_FF_FRAC_FRAC, FLT_FF_SEC_LO_SEC_LO, FLT_FF_SEC_HI_SEC_HI, FLT_HIST_SNAP_SNAP, FLT_HIST_CNT_ENTRIES, FLT_HIST_CNT_RECORDED, FLT_CNT_CLEAR_REFUSED, FLT_CNT_SUPPRESSED, FLT_HELD_HELD, FLT_CAUSE_CAUSE, FLT_H_SRC_SOURCE, FLT_H_SRC_SEVERITY] ++
  [FLT_H_SRC_INJECTED, FLT_H_SRC_FIRST, FLT_H_SRC_VALID, FLT_H_SRC_STATUS, FLT_H_INFO_INFO, FLT_H_NS_NS, FLT_H_FRAC_FRAC, FLT_H_SEC_LO_SEC, FLT_H_SEC_HI_SEC] ++
  (List.range 8).map (fun i => { FLT_SEV_SEV with lo := 4 * i })

/-- The fields of the BTU block. -/
def fieldsBTU : List Fd :=
  [BTU_STATE_STATE, BTU_STATE_FW_SLOT, BTU_STATE_UC_SLOT, BTU_STATE_CASK_VALID, BTU_STATE_CASK_COPY, BTU_STATE_REMAP, BTU_STATE_UC_STAGED, BTU_RESET_PORST, BTU_RESET_WARM, BTU_RESET_WARM_CNT, BTU_FW_VER_IMG_VER, BTU_FUSE_SVN_RUN] ++
  [BTU_FUSE_SVN_FLOOR, BTU_FUSE_KEY_RUN, BTU_FUSE_KEY_REVOKED, BTU_UC_VER_IMG_VER, BTU_CTRL_SVN_COMMIT, BTU_CTRL_SEAL, BTU_CTRL_KEY_REVOKE, BTU_CASK_GEN, BTU_CASK_STATUS_SEAL_BUSY, BTU_CASK_STATUS_SEAL_RESULT, BTU_CASK_STATUS_SEALS]

/-- The fields of the DOM block. -/
def fieldsDOM : List Fd :=
  [DOM_CTRL_FENCE, DOM_CTRL_UPDATE, DOM_CTRL_RELOAD, DOM_CTRL_RETURN, DOM_STATUS_STATE, DOM_STATUS_FENCE_CAUSE, DOM_STATUS_LAST_RESULT, DOM_STATUS_REFUSED, DOM_UC_VER_IMG_VER, DOM_CNT_FENCES, DOM_CNT_LOADS]

/-- The fields of the MTX block. -/
def fieldsMTX : List Fd :=
  [MTX_CTRL_REMAP, MTX_AGE_AGE, MTX_STATUS_RETIRING, MTX_ERR_LO_ADDR_LO, MTX_ERR_HI_ADDR_HI, MTX_ERR_HI_MASTER, MTX_ERR_HI_WRITE, MTX_ECC_ADDR_ADDR, MTX_CNT0_CORRECTED, MTX_CNT0_UNCORR, MTX_CNT1_DEFAULT, MTX_CNT1_RESETS]

end Sys2Proof.Machine.Reg
end

