-- ==== Sys2Proof/Machine/Sram.lean ====
section
/-! DEFINITION. Bytes of the internal memories by address (R591, R594, R596): a list of addresses and bytes, addresses rising. -/

namespace Sys2Proof.Machine

/-- Bytes of the internal memories; one that no burst has written is not listed. (DESIGN CHOICE, log 125.) -/
abbrev Sram := List Host.Cell

/-- The byte at an address, where a burst has written one. -/
def Sram.get : Sram → Nat → Option (BitVec 8)
  | [], _ => none
  | (b, v) :: m, a => if b = a then some v else Sram.get m a

/-- Write a byte. -/
def Sram.put : Sram → Nat → BitVec 8 → Sram
  | [], a, v => [(a, v)]
  | (b, w) :: m, a, v => if a < b then (a, v) :: (b, w) :: m else if a = b then (a, v) :: m else (b, w) :: Sram.put m a v

/-- The canonical form: addresses strictly rising. -/
def Sram.wf : Sram → Bool
  | [] => true
  | (a, _) :: m => m.all (fun c => decide (a < c.1)) && Sram.wf m

end Sys2Proof.Machine
end

