-- ==== Sys2Proof/Machine/State.lean ====
section
/-! DEFINITION. The state of the block as plain data: every register of the set-up window, and every store, queue, timer, mode
and pin the spec gives the device, with the queue of waiting commands. Defaults are the values at reset. -/

namespace Sys2Proof.Machine

/-! ### Lanes, taps and tiles (chapters 3, 4, 5 and 7) -/

/-- One sample record as the tile engine receives it (R124), with the raw codes that R126 tests and the firefly index of R110. -/
structure Rec where
  n1 : Int := 0
  n2 : Int := 0
  c1 : Nat := 0
  c2 : Nat := 0
  range : Nat := 0
  ovr1 : Bool := false
  unr1 : Bool := false
  ovr2 : Bool := false
  unr2 : Bool := false
  /-- `REASON`; 0 is a valid record (R125). -/
  reason : Nat := 2
  /-- The dither that the slot added to the node's code (R110, R123). -/
  dith : Int := 0
  /-- The frame the record belongs to, counted per tile. -/
  frame : Nat := 0
  /-- P[23:12] of each of the row's elements is the element's phase at this frame; the index of this line's element. -/
  idx : Nat := 0
  deriving DecidableEq, Repr

/-- What a slot holds for one tap from its tick 0: the range in force (R126), the firefly index and the dither used (R110). -/
structure Latch where
  range : Nat := 0
  idx : Nat := 0
  dith : Int := 0
  deriving DecidableEq, Repr

/-- One tap: range selection (R126), fault run (R130), drift capture (R137) and the epoch's sums (R138). -/
structure Tap where
  range : Nat := 0
  fine : Nat := 0
  /-- Consecutive valid records with the flag of R130. -/
  run : Nat := 0
  /-- The run has raised its event and has not ended. -/
  episode : Bool := false
  entry : Option Int := none
  driftRun : Nat := 0
  sum : Int := 0
  cnt : Nat := 0
  ovr : Nat := 0
  unr : Bool := false
  deriving DecidableEq, Repr

/-- One element lane: the state record of R179 and what the spec says the engine and the slot sequencer keep beside it. -/
structure Lane where
  /-- The observer state, Q8.15. -/
  x0 : Int := 0
  x1 : Int := 0
  x2 : Int := 0
  x3 : Int := 0
  /-- The integrators, Q8.15. -/
  z0 : Int := 0
  z1 : Int := 0
  /-- Ramped and target setpoints, Q0.16. -/
  r : Nat := 0
  rT : Nat := 0
  /-- The codes of u_a. -/
  uaP : Nat := 0
  uaT : Nat := 0
  gset : Nat := 0
  mode : LaneMode := .feedback
  reacq : Bool := false
  tgtValid : Bool := false
  freeze : Bool := false
  reacqLeft : Nat := 0
  missRun : Nat := 0
  /-- Consecutive unmeasured frames in `FEEDBACK` (R160). -/
  fbMiss : Nat := 0
  /-- One more than the last frame of re-acquire, in which the divergence tests do not run (R173). -/
  reacqTo : Nat := 0
  /-- Demodulated slope g. -/
  g : Int := 0
  /-- x̂ after the last update, and after the one before it: the copies that neighbours read (R152). -/
  xa0 : Int := 0
  xa1 : Int := 0
  xa2 : Int := 0
  xa3 : Int := 0
  xp0 : Int := 0
  xp1 : Int := 0
  xp2 : Int := 0
  xp3 : Int := 0
  /-- Accumulator Q of R148, and the frames measured in the epoch. -/
  q : Int := 0
  measN : Nat := 0
  /-- κ and κ₀ of the last measured frame. -/
  kappa : Nat := 0
  kappa0 : Nat := 0
  /-- A handover is due in the next computed frame (R157, R168, R170). -/
  handover : Bool := false
  /-- Run lengths of the two divergence tests and the episodes of the window (R173). -/
  divRun : Nat := 0
  satRun : Nat := 0
  divWin : Nat := 0
  /-- The lane is held by R173 and not by its domain. -/
  divHold : Bool := false
  /-- Frames spent in `HOLD` and the limit sampled at entry (R172). -/
  holdCnt : Nat := 0
  holdMax : Nat := 0
  heldP : Nat := 0
  heldT : Nat := 0
  /-- Drift flag of R137, whether it was ever set in the epoch, and whether R172 has raised the hold event for it. -/
  drift : Bool := false
  driftEp : Bool := false
  driftRaised : Bool := false
  /-- Mode a sweep returns to (R174), and its entry codes. -/
  origin : LaneMode := .park
  /-- The last commit that reached the lane in `BURST` was the dark plan (R168). -/
  dark : Bool := false
  /-- The lane left `PARK` and has not ended re-acquire (R163). -/
  fromPark : Bool := false
  /-- Firefly phase P, 24 bits (R104). -/
  phase : Nat := 0
  /-- Epoch counts of R182 and the range changes of R138. -/
  zclamp : Nat := 0
  outSat : Nat := 0
  miss : Nat := 0
  divN : Nat := 0
  rchg : Nat := 0
  /-- Mode of the last snapshot while in `SHADOW` (R175). -/
  snapMode : LaneMode := .park
  /-- One more than the frame of the last engine update, and the codes placed in it (R170). -/
  upd : Nat := 0
  placedP : Nat := 0
  placedT : Nat := 0
  /-- The frame in which the lane entered `FEEDBACK`, and the one in which it left it again. -/
  fbFrom : Nat := 0
  fbTo : Nat := 0
  /-- The tick at which the last burst of the commits that reached the lane ends. -/
  burstTo : Nat := 0
  /-- A clear has begun while the lane was in `BURST` (R99). -/
  cleared : Bool := false
  /-- κ and Σ of the measured frames of the present sweep point, newest first (R174). -/
  cap : List (Nat × Int) := []
  /-- Those of the point before it, whose last record may come after the marker (R123). -/
  capLast : List (Nat × Int) := []
  deriving DecidableEq, Repr

/-- State of a pending bank (`TXN_TBANK`, R279). -/
inductive BankSt where
  | free | staged | frozen | armed | bursting
  deriving DecidableEq, Repr

/-- One pending bank of a tile (R251, R254). -/
structure Pend where
  st : BankSt := .free
  handle : Nat := 0
  /-- Element index and new setpoint of the named elements of the tile. -/
  named : List (Nat × Nat) := []
  /-- The transaction holds plan 0 (R240). -/
  dark : Bool := false
  /-- Burst addresses (R94). -/
  addrs : List Nat := []
  /-- Target and steep codes by node 2e + x of the nodes the transaction changes. -/
  target : List (Nat × Nat) := []
  steep : List (Nat × Nat) := []
  steepEn : Bool := false
  dwell : Nat := 0
  commit : Option Nat := none
  /-- The arm reached the tile at this tick (R254). -/
  armAt : Option Nat := none
  frozenAt : Option Nat := none
  /-- Drive energy of its bursts as computed at the freeze, in the unit of `swingEnergy` (R294). -/
  energy : Nat := 0
  /-- The armed report registered in the time island, with its tick (R257). -/
  report : Option Nat := none
  /-- The tick at which its last burst ends, from the commit on, and that it has ended (R264). -/
  endAt : Nat := 0
  ended : Bool := false
  deriving DecidableEq, Repr

/-- The verify window of one transaction in a tile (R261). -/
structure Verify where
  /-- The pending bank of the transaction, whose settle record it fills (R263). -/
  bank : Nat := 0
  /-- The window waits for its first marker after the last burst. -/
  waiting : Bool := false
  opened : Bool := false
  handle : Nat := 0
  /-- The marker at which the window opened. -/
  openAt : Nat := 0
  closeAt : Nat := 0
  tol : Nat := 0
  /-- Lanes still to be verified, verified, and excepted. -/
  todo : List Nat := []
  done : List Nat := []
  quenched : Bool := false
  cleared : Bool := false
  fenced : Bool := false
  unowned : Bool := false
  /-- The outcome has been decided. -/
  decided : Bool := false
  late : List Nat := []
  deriving DecidableEq, Repr

/-- A settle report record (R263). -/
structure Settle where
  handle : Nat := 0
  nVerified : Nat := 0
  late : List Nat := []
  valid : Bool := false
  quenched : Bool := false
  cleared : Bool := false
  fenced : Bool := false
  unowned : Bool := false
  deriving DecidableEq, Repr

/-- What the slot sequencer of a tile is doing (R31). -/
inductive Seq where
  /-- Normal row slots. -/
  | normal
  /-- The steep burst, the dwell or the target burst of a transaction in this pending bank. -/
  | steep (bank : Nat)
  | dwell (bank : Nat)
  | target (bank : Nat)
  /-- The QUENCH bursts. -/
  | quench
  /-- The clear's park burst (R97). -/
  | clear
  /-- Idle until the next marker (R58). -/
  | idle
  deriving DecidableEq, Repr

/-- One normal slot or one burst as the sequencer presents it on a tile's lines (R27, R55, R56, R91). -/
structure Run where
  /-- Burst slots of 32 ticks; a normal slot takes 100. -/
  burst : Bool := false
  /-- The tick at which it begins. -/
  start : Nat := 0
  /-- Its addresses in the order presented. -/
  addrs : List Nat := []
  /-- The code of column c in the slot of the j-th address, at 8 j + c. -/
  codes : List Nat := []
  /-- Where the columns stood when it began. -/
  base : Tab Nat := []
  /-- STEP and RATE of the slew limiter. -/
  step : Nat := 65535
  rate : Nat := 1
  /-- It raises `FRS_Ttt` (R70). -/
  strobe : Bool := false
  /-- Ticks of it that had passed at `start`, where the release of a reset has set DT to 0 in it (R101, R192). -/
  skip : Nat := 0
  /-- The address of the slot that it cuts, whose strobe pulse ends at `start` (R57). -/
  cut : Option Nat := none
  deriving DecidableEq, Repr

/-- The span-change sequence of a tile (R88). -/
inductive SpanSt where
  | none
  /-- Step 1: waiting for the marker F0. -/
  | waiting
  /-- Steps 2 and 3: frames left until F0 + D. -/
  | dwell (left : Nat)
  /-- Step 4 done; the lanes leave `PARK` at the next marker. -/
  | live
  deriving DecidableEq, Repr

/-- The scarab step in progress (R133, R134). -/
inductive Scarab where
  /-- The spare slice is calibrating. -/
  | calibrating
  /-- Its coefficients are ready and unapplied. -/
  | ready
  /-- It converts its target line beside the serving slice. -/
  | overlap
  /-- The rotation has stopped (R134). -/
  | stopped
  deriving DecidableEq, Repr

/-- A calibration sweep (R174). -/
structure Sweep where
  src : Src := .nobody
  elems : List Nat
  node : Nat
  start : Nat
  step : Int
  dwell : Nat
  /-- The present point; 32 is the return to the entry codes. -/
  point : Nat := 0
  /-- Started at the next marker and not yet running. -/
  armed : Bool := true
  /-- Frames of the point completed. -/
  frames : Nat := 0
  deriving DecidableEq, Repr

/-- One entry of the sense telemetry table (R138). -/
structure SenseTel where
  barSum : Int := 0
  crossSum : Int := 0
  barCnt : Nat := 0
  crossCnt : Nat := 0
  barOvr : Nat := 0
  crossOvr : Nat := 0
  barRange : Nat := 0
  crossRange : Nat := 0
  barUnr : Bool := false
  crossUnr : Bool := false
  drift : Bool := false
  rangeChg : Nat := 0
  deriving DecidableEq, Repr

/-- One entry of the loop telemetry table (R182). -/
structure LoopTel where
  codePri : Nat := 0
  codeTrim : Nat := 0
  kappa0 : Nat := 0
  rRamp : Nat := 0
  slope : Int := 0
  gset : Nat := 0
  mode : LaneMode := .feedback
  reacq : Bool := false
  zclamp : Nat := 0
  outSat : Nat := 0
  miss : Nat := 0
  div : Nat := 0
  deriving DecidableEq, Repr

/-- One tile. -/
structure Tile where
  lanes : Tab Lane := []
  /-- The lanes that changed mode at the last marker as they stood in the frame before it, for updates of that frame (R150, R151). -/
  lanesLast : Tab (Option Lane) := []
  /-- By 2e + x: x = 0 the bar tap, 1 the cross tap. -/
  taps : Tab Tap := []
  /-- The last record of each slot and line, by 8 slot + line. -/
  recs : Tab Rec := []
  /-- The record before each of them. -/
  recsLast : Tab Rec := []
  /-- `REASON` of each slot as the sequencer ran it (R125 orders 3 to 6), by slot. -/
  slotSt : Tab Nat := []
  /-- Frames since the tile left reset. -/
  frame : Nat := 0
  /-- The slot in progress, 0 to 31. -/
  slot : Nat := 0
  /-- Slots begun in the present frame. -/
  begun : Nat := 0
  /-- Burst spans of the commits in progress end at this tick. -/
  burstEnd : Nat := 0
  /-- Frame markers since the epoch began (R138), since the divergence window began (R173) and since the scarab step (R132). -/
  epoch : Nat := 0
  /-- Epochs ended since the tree calibration marker (R413). -/
  epochs : Nat := 0
  window : Nat := 0
  period : Nat := 0
  /-- The two drive banks (R19, R29) by 2e + x: the current one and the receiving one. -/
  cur : Tab Nat := []
  nxt : Tab Nat := []
  /-- Rows the engine has placed for the current frame and for the next one. -/
  placedCur : List Nat := []
  placedNxt : List Nat := []
  /-- The slot or burst presented last (R55 to R61); none while `OWN_Dd` is deasserted. -/
  run : Option Run := none
  /-- `FRA_Ttt`, and the code each column stands at (by column), as `run` leaves them. -/
  fra : Nat := 0
  fcd : Tab Nat := []
  /-- The drive bank of the frame just completed (R267). -/
  prev : Tab Nat := []
  /-- By 2e + x, what the last slot of each tap holds from its tick 0 (R110, R126). -/
  latch : Tab Latch := []
  /-- The level of `FRF_Ttt` in mV (R49, R80). -/
  frfMv : Nat := 1800
  seq : Seq := .normal
  span : SpanSt := .none
  /-- Held in `PARK` by `FABRIC_CLR_N` (R97, R100), and that this hold ended at the last marker. -/
  clr : Bool := false
  clrLeft : Bool := false
  /-- `FRF_Ttt` at its limit (R80). -/
  frfLimit : Bool := false
  /-- Lines whose front end R135 could not trim. -/
  lineUnserved : Nat := 0
  scarab : Scarab := .calibrating
  /-- Consecutive refusals of the spare slice. -/
  refusals : Nat := 0
  gain : Banked (Option GainSet) := {}
  lcfg : Banked LaneCfg := {}
  curves : Banked Curve := {}
  firefly : Banked Nat := {}
  /-- The bank of the gain or lane configuration table changed at the last marker (R157). -/
  bankChanged : Bool := false
  pend0 : Pend := {}
  pend1 : Pend := {}
  /-- The commit tick last reached, or last applied in `SHADOW`, that of a QUENCH included (R254, R441). -/
  lastCommit : Option Nat := none
  /-- The commit tick of the last transaction that committed here, or was applied in `SHADOW` (R211, R265). -/
  lastTxn : Option Nat := none
  /-- Handles of the transactions that were frozen, armed or bursting here at the write that started the span change (R88, R89). -/
  spanFor : List Nat := []
  /-- The verify windows of the transactions that have committed here and not ended. -/
  vers : List Verify := []
  settle0 : Settle := {}
  settle1 : Settle := {}
  sweep : Option Sweep := none
  /-- Capture entries of the last sweep, by 32 e + point: κ and Σ / 32. -/
  capture : Tab (Nat × Nat) := []
  senseTel : Tab SenseTel := []
  loopTel : Tab LoopTel := []
  /-- Divergence episodes of the tile in the window, and whether the event was raised in it. -/
  divWin : Nat := 0
  divRaised : Bool := false
  /-- The tile engine runs; the consecutive frames in which it handed over no row (R537). -/
  engine : Bool := true
  idleFrames : Nat := 0
  /-- It has handed over a row in the present frame. -/
  handed : Bool := false
  /-- The engine of the tile was stopped by its watchdog (R537). -/
  dogged : Bool := false
  /-- The leaf is calibrated (R218), its trim in steps, and a trim move that waits for a marker (R220). -/
  leafOk : Bool := false
  leafTrim : Int := 0
  leafMove : Int := 0
  deriving DecidableEq, Repr

/-- A commit of a banked tile table that waits for its tiles to exchange (R176, R411): the table (1 gain sets, 2 lane configuration,
3 firefly, 4 curves) and the exchanges still to come in each tile. -/
structure Swap where
  src : Src
  table : Nat
  waits : List (Nat × Nat)
  deriving DecidableEq, Repr
/-! ### The fabric interface (chapters 2 and 3) -/

/-- The fields of an accepted descriptor that the device uses (R74). -/
structure Desc where
  tileMask : Nat := 0
  /-- `ROW_MASK` by tile. -/
  rowMask : List Nat := []
  maxSpanPri : Nat := 0
  maxSpanTrim : Nat := 0
  /-- C_NODE, 0.01 pF units. -/
  cNode : Nat := 1
  tempMin : Int := 0
  tempMax : Int := 0
  ntcMask : Nat := 0
  ntcNominal : List Nat := []
  ntcBeta : List Nat := []
  parkPri : Nat := 0
  parkTrim : Nat := 0
  /-- Park table by 2g + x in mV; empty without one. -/
  parkTable : List Nat := []
  hdrCrc : Nat := 0
  deriving DecidableEq, Repr

/-- A descriptor read in progress (R75, R76). -/
structure DescRead where
  bytes : List Byte := []
  retries : Nat := 0
  deriving DecidableEq, Repr

/-- What the park sequencer does in one domain (R101). -/
inductive ParkPh where
  /-- No park sequence in this domain. -/
  | off
  /-- `OWN_Dd` asserted, the burst not begun. -/
  | owned
  | burst
  /-- The burst has ended, or the domain was left to the twin; waiting for the repeat. -/
  | waiting
  deriving DecidableEq, Repr

/-- The fabric side of the device: ownership lines, clear, descriptor, park store. (DESIGN CHOICE, log 11; DESIGN CHOICE, log 12.) (DEDUCED, log 90.) -/
structure Fab where
  /-- The `OWNX_Dd` pins before the filter, bit d. -/
  ownxRaw : Nat := 0
  /-- DT tick at which `OWN_Dd` was last asserted, by domain. -/
  ownAt : Tab Nat := []
  /-- DT tick of the filtered fall of `OWNX_Dd`, plus 1; 0 when none (R448). -/
  ownxFell : Tab Nat := []
  /-- DT tick of the last filtered rise of `OWNX_Dd`, by domain (R72). -/
  ownxRose : Tab Nat := []
  /-- The first marker at least 300 ns after the assertion has passed (R70). -/
  ownReady : Nat := 0
  /-- … and the frame that began there has ended (R125 order 3). -/
  ownSensed : Nat := 0
  /-- Domains whose release waits for their running bursts to end (R447). -/
  releasing : Nat := 0
  /-- The tree-clock monitor holds every `OWN_Dd` deasserted until reset (R21). -/
  inhibit : Bool := false
  /-- The tree clock has been lost; `FRS_Ttt` is forced low (R21). -/
  treeLost : Bool := false
  /-- The filtered `FABRIC_CLR_N`; true is high. -/
  clrN : Bool := true
  desc : Option Desc := none
  rd : Option DescRead := none
  /-- Park voltages of primary and trim nodes without a park table, in mV. -/
  parkDef : Nat × Nat := (0, 0)
  /-- The park store by 2g + x in mV where it differs from them, and whether a descriptor has loaded it since the analogue die was powered (R77, R103). -/
  parkStore : Tab Nat := []
  parkLoaded : Bool := false
  /-- Domains with a populated tile in the descriptor that loaded the park store; every domain before one (R70, R103). -/
  parkDoms : Nat := 255
  /-- By domain 0 to 7. -/
  parkPh : List ParkPh := List.replicate 8 .off
  /-- VHV in mV: the nominal 64 V until a command reports another level (R4, R85, R103). -/
  vhv : Nat := 64000
  deriving DecidableEq, Repr

/-! ### Transactions (chapter 7) -/

/-- The states of R248. -/
inductive TxnSt where
  | free | staging | staged | arming | armed | bursting | verifying
  deriving DecidableEq, Repr

/-- What admission charged (R315): elements and energy in each involved domain, in nJ, and the `E_UNIT` in force. -/
structure Charge where
  /-- Tenant and class; none for a calendar transaction (R294). -/
  owner : Option (Nat × Nat) := none
  /-- Domain, W_d, E_d. -/
  parts : List (Nat × Nat × Nat) := []
  unit : Nat := 1
  deriving DecidableEq, Repr

/-- One transaction slot (R245 to R249). -/
structure Txn where
  st : TxnSt := .free
  gen : Nat := 0
  /-- Plan switch (number, mask) and edit numbers. -/
  plan : Option (Nat × Nat) := none
  edits : List Nat := []
  /-- Global element and new setpoint of every named element; empty for plan 0. -/
  named : List (Nat × Nat) := []
  /-- The transaction holds plan 0 (R240). -/
  dark : Bool := false
  /-- Involved tiles (R246). -/
  tiles : List Nat := []
  commit : Option Nat := none
  deadline : Nat := 0
  /-- Who gets the completion of the TXN_STAGE (R252) and the report (R252, R412, R376). -/
  stageSrc : Src := .nobody
  reportSrc : Src := .nobody
  /-- The CIRCUIT that the outcome answers: session and `REQ_SEQ` (R377, R410). -/
  answer : Option (Nat × Nat) := none
  nLate : Nat := 0
  firstLate : Nat := 0xFFFF
  charge : Option Charge := none
  /-- The energy of the frozen bursts has gone to the scheduler (R294, R316). -/
  trued : Bool := false
  /-- The commit tick the active reported by note 2 (R434), in a standby. -/
  note2 : Option Nat := none
  /-- The commit has taken place in this device's lane records (R271). -/
  applied : Bool := false
  deriving DecidableEq, Repr

/-- What a load makes valid (R239). -/
inductive LoadKind where
  | plan (slot : Nat)
  | edit (num : Nat)
  /-- The compensation table of R519. -/
  | comp
  /-- An image of R571, firmware or microcode. -/
  | image (fw : Bool)
  deriving DecidableEq, Repr

/-- A load that waits for a staging to end, or that has been checked and is being stored (R239). -/
structure Load where
  kind : LoadKind
  src : Src
  cmd : HostCmd
  waiting : Bool := false
  deriving DecidableEq, Repr

/-- The transaction controller and the object stores. -/
structure TxnCtl where
  slots : Tab Txn := []
  plans : Tab (Option Plan) := []
  edits : Tab (Option Edit) := []
  /-- Loads begun and not completed. -/
  loads : List Load := []
  /-- The QUENCH tick fixed and not yet reached (R267). -/
  quenchAt : Option Nat := none
  /-- QUENCH demands on their way to the time island (R269). -/
  demands : Nat := 0
  deriving DecidableEq, Repr

/-! ### The calendar (chapter 8) -/

/-- One list (R284, R287 to R298); its state code, flags and counters are registers. -/
structure CalList where
  desc : Option ListDesc := none
  /-- The live base B′, as a tick. -/
  base : Nat := 0
  /-- The cycle of the next instance; its entry is `CAL_Ln_POS.NEXT`. -/
  cycle : Nat := 0
  /-- q of R302. -/
  q : Nat := 0
  /-- The boundary of a STOP_BOUNDARY or of a swap, and who is owed its completion. -/
  stopAt : Option Nat := none
  stopSrc : Src := .nobody
  /-- Cycle boundaries passed since START or SWAP (R296). -/
  passed : Nat := 0
  /-- The last entry of a one-shot list has been issued, skipped, missed or refused. -/
  spent : Bool := false
  /-- A one-shot list has issued its last entry in this transaction. -/
  lastHandle : Option Nat := none
  deriving DecidableEq, Repr

structure Cal where
  /-- 128-bit pool entries; none where no write has reached the entry since the reset (R288). -/
  pool : Tab (Option Nat) := []
  lists : Tab CalList := []
  /-- Ticks and energies, in nJ, of the calendar commits frozen in the last 1 ms, newest first. -/
  energy : List (Nat × Nat) := []
  deriving DecidableEq, Repr

/-! ### Admission (chapter 9) -/

/-- A request in admission (R311 to R326). -/
structure Req where
  src : Src
  tenant : Nat
  cls : Nat
  /-- The second key of R323: session index, or 16,384 + ring pair. -/
  order : Nat
  plan : Option (Nat × Nat) := none
  edits : List Nat := []
  claims : List Nat := []
  /-- Commit DT in units of 2⁻¹⁶ ns and as a tick; none without one. -/
  commit : Option (Nat × Nat) := none
  answer : Option (Nat × Nat) := none
  /-- Arrival, as a DT tick. -/
  arrival : Nat := 0
  deferred : Bool := false
  yellow : Bool := false
  /-- The elements it names, as counted at arrival, and its cost. -/
  named : List Nat := []
  charge : Charge := {}
  dark : Bool := false
  /-- Bytes that twin forwarding sends (R439): origin and data. -/
  fwd : Nat × List Byte := (0, [])
  deriving DecidableEq, Repr

/-- A true-up that waits for the next admission tick: the charge that stands, and what replaces it (R316). -/
structure TrueUp where
  handle : Nat
  old : Charge
  new : Charge
  deriving DecidableEq, Repr

structure Adm where
  tenants : Banked Tenant := {}
  profiles : Banked ClassProf := {}
  /-- Who waits for a TABLE_COMMIT of each table to become live. -/
  tenantSrc : List Src := []
  profileSrc : List Src := []
  /-- Credits. Tenant nodes in 1/256,000,000 credit; class nodes (tenant × 8 + class) in 1/65,536 of that; domain nodes as tenant
  nodes; the energy node in 1/256 nJ. -/
  tCred : Tab Int := []
  cCred : Tab Int := []
  dCred : Tab Int := []
  eCred : Int := 0
  /-- Committed and excess buckets, in 1/256,000,000 credit. -/
  cBucket : Tab Nat := []
  eBucket : Tab Nat := []
  /-- Waiting requests in arrival order. -/
  reqs : List Req := []
  /-- Admission ticks since the tree calibration marker. -/
  ticks : Nat := 0
  /-- One more than the tenant served last in each class. -/
  served : Tab Nat := []
  /-- Energies computed at freezes and refunds, which the next tick applies. -/
  trueups : List TrueUp := []
  refunds : List Charge := []
  /-- The live histogram banks: 32 q + bin, with 16 added for delay. -/
  hist : Tab Nat := []
  /-- The last refill tick whose refill has taken place, and whether the sample of the last 16th tick is due. -/
  refilled : Nat := 0
  sampleDue : Bool := false
  deriving DecidableEq, Repr

/-! ### The host interface (chapter 11) -/

/-- A command that has been fetched and has not written its final completion. -/
structure Cmd where
  cmdId : Nat
  order : Bool
  irq : Bool
  /-- Its descriptor, and whether host memory takes the completions that it writes (R400, R421). -/
  desc : List Byte := []
  cplOk : Bool := true
  /-- It has started, and has written its first completion. -/
  started : Bool := false
  first : Bool := false
  deriving DecidableEq, Repr

/-- A posted receive buffer (R417): `BUF_ID`, address and length, and whether host memory takes the frame and its completion (R421). -/
structure RecvBuf where
  id : Nat
  addr : Nat
  len : Nat
  takes : Bool := true
  deriving DecidableEq, Repr

/-- A ring pair: the context of R398 and the indices of R397. -/
structure Ring where
  cmdBase : Nat := 0
  cplBase : Nat := 0
  cmdLog2 : Nat := 4
  cplLog2 : Nat := 4
  /-- Receive ring pair (R417). -/
  recv : Bool := false
  poll : Bool := false
  vector : Nat := 0xFFFF
  tenant : Nat := 0
  cls : Nat := 0
  coalCnt : Nat := 0
  coalUs : Nat := 0
  kinds : Nat := 0
  /-- 0 disabled, 1 enabled, 2 error. -/
  st : Nat := 0
  err : Nat := 0
  cmdPi : Nat := 0
  cmdCi : Nat := 0
  cplPi : Nat := 0
  cplCi : Nat := 0
  owed : Nat := 0
  /-- Descriptors fetched and not returned, and those of a time before the ring was last disabled. -/
  fetching : Nat := 0
  stale : Nat := 0
  cmds : List Cmd := []
  /-- Descriptors of the commands fetched before the ring was last disabled that have not started: what they will owe is dropped. -/
  orphans : List (List Byte) := []
  /-- Posted receive buffers. -/
  bufs : List RecvBuf := []
  /-- Entries written since the last signal, and the tick of the first of them. -/
  unsig : Nat := 0
  sigFrom : Nat := 0
  deriving DecidableEq, Repr

/-- What falls due while the device may not write to host memory (R390, R393). -/
inductive Due where
  | cpl (ring cmdId status detail kind : Nat) (final : Bool) (result : List Byte)
  | recv (ring status : Nat) (result frame : List Byte)
  /-- Data of a TELEMETRY_READ at a host address (R413). -/
  | data (ring addr : Nat) (bytes : List Byte)
  | evt (entry : List Byte)
  deriving DecidableEq, Repr

/-- The read of one doorbell line (R402, R403). -/
inductive LineRd where
  | idle
  /-- Scheduled and not issued. -/
  | pending
  /-- Issued; `again` when a later kick asks for one further read. -/
  | issued (again : Bool)
  deriving DecidableEq, Repr

/-- The host interface (chapter 11). (DESIGN CHOICE, log 12; PRESUMED, log 75.) -/
structure Hif where
  rings : Tab Ring := []
  /-- Writes of ring contexts that wait for the memory requests of rings they disabled: each ring, and its requests outstanding (R399). -/
  closing : List (Src × List (Nat × Nat)) := []
  lines : Tab LineRd := []
  /-- Lines whose read is scheduled and not issued, in order of arrival (R390). -/
  kicks : List Nat := []
  /-- The ring served last (R405), and how many descriptors of its turn have been fetched. -/
  turn : Nat := 0
  turnLeft : Nat := 0
  /-- Indices of the event ring, and the events lost since the last marker (R416, R419). -/
  evtPi : Nat := 0
  evtCi : Nat := 0
  evtLost : Nat := 0
  evtUnsig : Nat := 0
  evtSigFrom : Nat := 0
  due : List Due := []
  /-- Unmasked vectors, pending bits, and whether the function's mask is off (R420). -/
  unmasked : List Nat := []
  /-- Words 0 to 2 of the MSI-X table entries, by 4 entry + word (R391). -/
  msix : Tab Word := []
  pba : List Nat := []
  /-- Host memory fails the event entries that the device writes (R421), as the last kick of the event ring found it. -/
  evtBad : Bool := false
  /-- The tick from which the poll period runs (R404). -/
  pollAt : Nat := 0
  /-- The PCIe link is up: it trains as `POR` ends (R569). -/
  link : Bool := false
  /-- Configuration space (R388): MSI-X enable and function mask (R396), the codes of the payload size and of the read request size, the
  AER mask of uncorrectable errors, and the bases of BAR0 and BAR2. -/
  msixOn : Bool := false
  fnMask : Bool := false
  mps : Nat := 0
  mrrs : Nat := 2
  aerMask : Nat := Config.aerUncorrMasked
  bar0 : Nat := 0
  bar2 : Nat := 0
  deriving DecidableEq, Repr

/-! ### The control plane (chapter 10) -/

/-- A frame between its ingress and the end of its stages (R348): port, stamp, version, content, ingress and egress timestamps. -/
structure InFlight where
  port : Nat
  stamp : Nat
  ver : Nat
  frame : List Byte
  rx : Int
  tx : Int
  deriving DecidableEq, Repr

/-- What the stages decide of a frame (R354 to R356). -/
inductive FrameDo where
  | drop
  /-- The action of an entry, in service mode. -/
  | act (a : Act)
  /-- The copy of label mode. -/
  | label (a : Act)
  /-- The copy of a PARSE_DEEP frame to the supervisor. -/
  | supervisor
  deriving DecidableEq, Repr

/-- A frame in the reorder stage of its port (R357), with what its copy carries. -/
structure Waiting where
  frame : InFlight
  what : FrameDo
  /-- The tick at which it entered the reorder stage. -/
  since : Nat
  proto : Nat := 0
  /-- The protocol entry's `GCRP`. -/
  gcrp : Bool := false
  sres : Nat := 0
  malformed : Bool := false
  deep : Bool := false
  req : Option GcrpReq := none
  deriving DecidableEq, Repr

/-- A write or a commit that waits for a version drain (R360). -/
inductive ClsOp where
  | protos (es : List (Nat × Proto)) (src : Src)
  | acts (es : List (Nat × Act)) (src : Src)
  | commit (src : Src)
  deriving DecidableEq, Repr

/-- What the device sends out. (DESIGN CHOICE, log 8.) -/
inductive OutMsg where
  /-- A completion at a slot of a ring and its host address (R415). -/
  | completion (ring slot addr : Nat) (bytes : List Byte)
  /-- An event entry at a slot of the event ring and its host address (R418). -/
  | event (slot addr : Nat) (bytes : List Byte)
  | msix (vector : Nat)
  /-- Data of a TELEMETRY_READ at a host address (R413). -/
  | hostWrite (ring addr : Nat) (bytes : List Byte)
  /-- A frame written into a posted buffer (R417). -/
  | received (ring bufId addr : Nat) (frame : List Byte)
  /-- Reads of a doorbell line and of a descriptor slot at their host addresses (R401, R402, R405). -/
  | lineRead (group addr : Nat)
  | descRead (ring slot addr : Nat)
  /-- A frame out of a control port, as received or as formed (R345, R347). -/
  | frame (port : Nat) (bytes : List Byte)
  /-- A GCRP message out of a control port, from the port's own address and the GCRP port (R361) to where R370's record sends it. -/
  | gcrp (port srcAddr srcPort dstAddr dstPort dstMac ntags tags : Nat) (msg : List Byte)
  /-- A PTP message out of a control port: messageType and body. -/
  | ptp (port mtype seq : Nat) (body : List Nat)
  /-- A TL frame, from its destination address to its FCS (R428). -/
  | tl (bytes : List Byte)
  /-- The value that a register read returns. -/
  | value (off val : Nat)
  /-- A pulse output changes level (R223). -/
  | tout (n : Nat) (level : Bool)
  /-- The TAP shifts out a register. -/
  | tdo (bits val : Nat)
  deriving DecidableEq, Repr

/-- A frame that waits in the egress queue of a port: its class of R346, length in bytes and the tick at which it came. `event` marks a
forwarded PTP event message (R215). -/
structure OutFrame where
  port : Nat
  cls : Nat
  len : Nat
  since : Nat
  event : Bool := false
  what : OutMsg
  deriving DecidableEq, Repr

structure Cpx where
  /-- The bank in force and the other bank, which frames of the older version use. -/
  live : Rules := {}
  standby : Rules := {}
  waitq : List ClsOp := []
  protoHits : Tab Nat := []
  actHits : Tab Nat := []
  /-- Next ingress stamp and next stamp to release, by port. -/
  stamp : Tab Nat := []
  release : Tab Nat := []
  /-- Frames in the stages, and in the reorder stages. -/
  inside : List InFlight := []
  reorder : List Waiting := []
  /-- The tick of the last version commit (R360). -/
  commitAt : Nat := 0
  /-- Next parser engine of the round robin. -/
  engine : Nat := 0
  /-- Destinations whose full condition has been raised (R355): ring pairs, and 65,536 for the supervisor. -/
  full : List Nat := []
  /-- The supervisor's inbound queue of at most 256 frames, each with the status and `RESULT` of a host ring's copy (R355). -/
  superQ : List (Nat × List Byte × List Byte) := []
  /-- It has been found full, and source 931 has been raised for it (R355). -/
  superFull : Bool := false
  /-- Frames that wait in the egress queues, and the tick up to which each port transmits (R346). -/
  egress : List OutFrame := []
  busy : Tab Nat := []
  /-- The egress drop event has been raised since the last read of `CPn_CNT_DROP` (R379), by port. -/
  dropRaised : List Nat := []
  sessions : Tab Sess := []
  deriving DecidableEq, Repr

/-! ### The twin (chapter 12) -/

/-- A forwarded command (R433), with the index of the next fragment while it is being received. -/
structure TlCmd where
  num : Nat
  origin : Nat
  flags : Nat
  handle : Nat
  data : List Byte
  next : Nat := 0
  deriving DecidableEq, Repr

/-- A TL message that waits for its turn (R430): its priority, the tick at which it was formed, its type and body. -/
structure TlOut where
  prio : Nat
  since : Nat
  type : Nat
  body : List Byte
  deriving DecidableEq, Repr

/-- What a sender holds back while it streams the session table (R445): a partner request, or a closure with its kind (R433). -/
inductive HeldReq where
  | partner (r : GcrpReq)
  | closure (i kind : Nat)
  deriving DecidableEq, Repr

structure Twn where
  /-- The role decision is in progress (R425), and when it began. -/
  deciding : Option Nat := none
  /-- `PAIRED` and `TL_FEC` as sampled at the role decision (R456). -/
  paired : Bool := false
  fec : Bool := true
  /-- The tick at which TL was brought up, and whether the twin has been heard deciding since (R425). -/
  upAt : Nat := 0
  heardDeciding : Bool := false
  /-- Next `TL_SEQ` to send, last one received, the tick of the last frame, and that of the last heartbeat. -/
  txSeq : Nat := 0
  rxSeq : Option Nat := none
  rxAt : Option Nat := none
  hbAt : Option Nat := none
  /-- Frames that wait to be sent, and the tick up to which the port transmits (R430). -/
  txq : List TlOut := []
  txBusy : Nat := 0
  /-- What the link's status shows of a high error rate and, while TL is down, of FEC alignment: a free value (R461). -/
  berFree : Option Nat := none
  cmdNum : Nat := 0
  /-- One more than the number of the last forwarded command that wrote each store (R438). -/
  lastOf : Tab Nat := []
  /-- What the twin's last heartbeat said. -/
  twinSynced : Bool := false
  twinNeeds : Bool := false
  twinResigned : Bool := false
  /-- Domains whose release a RESIGN frame has announced (R448). -/
  released : Nat := 0
  /-- The loss of heartbeats, and the guard, have been raised in the present episode. -/
  lost : Bool := false
  guarded : Bool := false
  /-- Consecutive beats with both twins in `ACTIVE` or `SOLO` (R427). -/
  dual : Nat := 0
  /-- The command whose fragments are being received. -/
  frag : Option TlCmd := none
  nextCmd : Nat := 0
  /-- Stores received in the present sync, the image of the present one as far as it is received, or as it is sent, what follows its
  SYNC_END, and commands kept (R438, R445). -/
  got : List Nat := []
  image : List Byte := []
  tail : List Byte := []
  kept : List TlCmd := []
  /-- All stores are in: 0 while the first complete round of snapshots has not begun, 1 in it. -/
  round : Option Nat := none
  /-- A sync is being sent, from its first store until the twin has synchronised; the `TL_SEQ` of its last SYNC_END, plus 1; bytes of the
  present image that have been sent; the last command that its store holds; transactions that must end first. -/
  sending : Bool := false
  syncSeq : Nat := 0
  sent : Nat := 0
  lastCmd : Nat := 0
  mustEnd : List Nat := []
  /-- Commands that wait for the store they would write, and requests and closures that wait for the session table. -/
  heldCmds : List (Nat × HostCmd) := []
  heldReqs : List HeldReq := []
  /-- Snapshot cursor: the next group of 32 records, 0 to 383; the tile whose lanes were captured at the last marker, and they. -/
  snapAt : Nat := 0
  snapTile : Option Nat := none
  snapLanes : Tab Lane := []
  /-- Setpoints of transactions that a takeover ended as committed, with the commit tick that is still ahead (R452). -/
  ahead : List (Nat × List (Nat × Nat) × List Nat) := []
  /-- The first takeover found the standby synchronised (R451). -/
  tookSynced : Bool := false
  /-- A switchover in progress: released domains, who asked, and when. -/
  switch : Option (Nat × Src × Nat) := none
  deriving DecidableEq, Repr

/-! ### Device time (chapter 6) -/

/-- A source heard in Announce messages (R199, R200). -/
structure PtpSrc where
  /-- clockIdentity and portNumber of the sender. -/
  id : Nat
  port : Nat
  /-- The dataset in the order in which the comparison takes it: priority1, class, accuracy, variance, priority2, identity. -/
  data : List Nat
  steps : Nat
  ptpTimescale : Bool
  /-- Announce interval, log2 seconds, and the ticks of the last two messages. -/
  logInt : Int
  last : Nat
  prev : Option Nat := none
  deriving DecidableEq, Repr

/-- A step that is waiting for its marker or placed (R211). -/
structure Step where
  /-- Δ in 2⁻¹⁶ ns, and Δ_F in frames. -/
  delta : Int
  frames : Int
  src : Src
  /-- DT of acceptance E, as a tick. -/
  accepted : Nat
  /-- The marker in hand. -/
  marker : Option Nat := none
  fixed : Bool := false
  /-- A step of R213 that needed no TIME_STEP. -/
  auto : Bool := false
  /-- It applies the pending step (Accept mode), which is frozen meanwhile (R208). -/
  accept : Bool := false
  deriving DecidableEq, Repr

/-- A pulse output that runs (R223): the loaded values and where it stands. -/
structure Pulse where
  /-- START in ns, P and W. -/
  start : Nat
  period : Nat
  width : Nat
  /-- Index of the next rise. -/
  next : Nat
  /-- The pulse is high and falls at this tick count. -/
  fallAt : Option Nat := none
  stopping : Bool := false
  deriving DecidableEq, Repr

/-- A captured edge (R226). -/
structure Cap where
  /-- In 2⁻¹⁶ ns. -/
  dt : Nat
  fall : Bool
  deriving DecidableEq, Repr

structure Tmu where
  sources : List PtpSrc := []
  /-- The selected source, the timescale flag it announces, and its last Announce: log interval and tick. -/
  sel : Option (Nat × Nat) := none
  selTs : Bool := false
  annInt : Int := 0
  annAt : Nat := 0
  /-- A source has been lost since reset. -/
  lost : Bool := false
  /-- Log sync interval, and the tick of the last Sync of the selected source. -/
  syncInt : Int := 0
  syncAt : Nat := 0
  /-- A two-step Sync that waits for its Follow_Up: sequence, t2, correction. -/
  waitFup : Option (Nat × Int × Int) := none
  /-- t2 − t1 − c_S of the last complete Sync (R201). -/
  lastSync : Option Int := none
  /-- The delay request out: sequence and t3; the log interval that Delay_Resp gives, and the tick of the last request. -/
  delayReq : Option (Nat × Int) := none
  delaySeq : Nat := 0
  delayInt : Option Int := none
  reqAt : Option Nat := none
  /-- The peer delay request out on each port (R214), and the next sequence of each. -/
  peerReq : Tab (Option (Nat × Int)) := []
  peerSeq : Tab Nat := []
  /-- The next delay sample sets MPD. -/
  mpdFirst : Bool := true
  /-- Offsets of the evaluation (R202). -/
  eval : List Int := []
  /-- I_k in 2⁻³³ ppb, the adj values of `LOCKED`, newest first, and the last adj. -/
  integ : Int := 0
  adjs : List Int := []
  adj : Int := 0
  lockedOnce : Bool := false
  /-- Consecutive samples towards lock or loss of lock (R205), and towards withdrawal (R209). -/
  run : Nat := 0
  withdraw : Nat := 0
  step : Option Step := none
  /-- A first step has been applied or placed since reset (R213), and the last refused-jump event was raised for an automatic one. -/
  stepped : Bool := false
  autoMark : Bool := false
  /-- The remainder in 2⁻¹⁶ ns that was not yet slewed at tick `slewAt` (R212). -/
  slew : Int := 0
  slewAt : Nat := 0
  /-- Peer mean path delay of each port in 2⁻¹⁶ ns (R214). -/
  peer : Tab Int := []
  pulses : Tab (Option Pulse) := []
  /-- The level of each pulse output's pin (R223). -/
  tout : Tab Bool := []
  caps : Tab (List Cap) := []
  /-- One more than the last captured edge of each input, in 2⁻¹⁶ ns. -/
  lastCap : Tab Nat := []
  /-- Twice the delay of each leaf, as the sum of 1,024 loop measurements in 6.25 ps, and the largest (R218). -/
  dMax : Nat := 0
  leaf : Tab Nat := []
  /-- The tick of the tree calibration marker (R218). -/
  calMarker : Option Nat := none
  /-- Every trim is set, and the next marker is the tree calibration marker. -/
  calPend : Bool := false
  /-- Domains that hold a tile marked under R219. -/
  bad : Nat := 0
  deriving DecidableEq, Repr

/-! ### Events (chapter 15) -/

/-- A raise on its way to the logger (R541). -/
structure Raise where
  src : Nat
  info : Nat := 0
  status : Nat := 0
  injected : Bool := false
  /-- The event of a command that outlived a reset of the host island (R389). -/
  orphan : Bool := false
  deriving DecidableEq, Repr

/-- An entry of the history queue (R544). -/
structure HistEntry where
  src : Nat
  sev : Nat
  injected : Bool
  first : Bool
  status : Nat
  info : Nat
  dt : Nat
  deriving DecidableEq, Repr

/-- The fault logger beside its registers. -/
structure Flt where
  /-- Raises that have reached the logger and are not yet recorded, in arrival order. -/
  raises : List Raise := []
  /-- Newest first, at most 32. -/
  hist : List HistEntry := []
  /-- DT tick of the last recorded raise of each notice, plus 1. -/
  stamp : Tab Nat := []
  /-- Raises kept by the safety island while RESET_N holds the logger (R545). -/
  kept : List Raise := []
  deriving DecidableEq, Repr


/-- Pins that no register reports. (DESIGN CHOICE, log 9; DESIGN CHOICE, log 12; DESIGN CHOICE, log 104.) -/
structure Pins where
  /-- The filtered resets; true is high. -/
  porstN : Bool := false
  resetN : Bool := true
  /-- `TEST_EN` as it stands at the pin (R626). -/
  testEn : Bool := false
  /-- The `KFI_PORT` strap (R50); true at port S. -/
  kfiPort : Bool := false
  /-- The transmitters of CP0, CP1 and TL are off after a shutdown (R517). -/
  txOff : Bool := false
  deriving DecidableEq, Repr


/-! ### The safety interlock unit (chapter 13) -/

/-- The safety island beside its registers. Its own time is counted in samples of 31.25 µs and evaluations of 250 µs (R468). -/
structure Siu where
  samples : Nat := 0
  /-- The levels of the latest sample, as `level`. -/
  raw : Nat := 0
  evals : Nat := 0
  /-- Accepted levels: the ten channels in the order of `SIU_INPUTS.RAW`, `SAFE_RST` and `SAFE_EDM`; 1 is the permit side. -/
  level : Nat := 0
  /-- Consecutive samples at the other level, by channel. -/
  runs : Tab Nat := []
  /-- The first evaluation after `S_INIT` has placed the inputs (R469). -/
  placed : Bool := false
  /-- The evaluation at which each input (ES, DG, TH1, TH2, LC) entered `DISAGREE`, `RETURN` or `PERMIT`. -/
  since : List Nat := [0, 0, 0, 0, 0]
  /-- The hands seen in `SAFE` since the enable was last active (R473). -/
  handSafe : Nat := 0
  /-- Pending configuration (R491); the live values are `SIU_CFG0` and `SIU_CFG1`. -/
  cfg0 : Nat := 0xC64
  cfg1 : Nat := 0x1E03C
  /-- The stop inputs whose demand ended the last `S_ON`, with bit 5 for VSAFE_OUT (R484). -/
  stopBy : Nat := 0
  /-- Reset requests not yet decided (R482). -/
  request : Nat := 0
  /-- The output self-test of a start, or of a reset in `S_FAULT` after the degraded time has expired, runs (R482). -/
  starting : Bool := false
  clearing : Bool := false
  /-- The sample at which `SAFE_RST` was accepted at the permit side; the press has been ignored as stuck. -/
  rstAt : Option Nat := none
  rstStuck : Bool := false
  /-- The length, in samples, of a press that has ended and has not been judged. -/
  rstLen : Option Nat := none
  /-- `CFG_CRC` has been computed since the island's reset (R492). -/
  crcSet : Bool := false
  /-- Off-pulse test in progress, and consecutive failed tests of SO_A and SO_B (R476, R477). -/
  testing : Option Nat := none
  failsA : Nat := 0
  failsB : Nat := 0
  /-- Consecutive evaluations with the readback above V_RBL while off, and below V_RBH while on. -/
  offA : Nat := 0
  offB : Nat := 0
  onA : Nat := 0
  onB : Nat := 0
  /-- A check of `SAFE_EDM` is due after a switch, and the outputs have been on for 300 ms (R479). -/
  edmDue : Bool := false
  edmOn : Bool := false
  /-- The evaluation at which `S_DEGRADED` was entered, and its length in minutes (R478). -/
  degAt : Nat := 0
  degMin : Nat := 0
  /-- The tick at which the presence window ends; the tick of the last press of `PRESENCE_N`; the press has lasted into a stuck episode. -/
  presEnd : Option Nat := none
  presLow : Option Nat := none
  presStuck : Bool := false
  /-- An internal fault is present (R465). -/
  internal : Bool := false
  deriving DecidableEq, Repr

/-! ### Kiln and housekeeping (chapter 14) -/

/-- One sensor of R530: consecutive readings with and without a failure condition, and the last good reading. -/
structure Sensor where
  bad : Nat := 0
  good : Nat := 0
  last : Int := 0
  /-- `last` holds a good reading. -/
  seen : Bool := false
  /-- Consecutive readings of a thermistor out of its range, and at least 3 °C inside it (R513). -/
  outRun : Nat := 0
  inRun : Nat := 0
  out : Bool := false
  deriving DecidableEq, Repr

/-- A compensation table (R519): mask, and 32 trims of each of the six targets. -/
structure Comp where
  mask : Nat
  trims : List (List Int)
  deriving DecidableEq, Repr

/-- What a converter is doing. -/
inductive Work where
  | idle
  | channel (ch : Nat)
  /-- An injected conversion: who asked, channel, period in µs (R522). -/
  | inject (src : Src) (ch period : Nat)
  /-- Calibration, with the conversions still to come (R523). -/
  | cal (left : Nat)
  deriving DecidableEq, Repr

/-- One housekeeping converter (R505, R506, R523). -/
structure Conv where
  work : Work := .idle
  /-- The tick at which the present conversion ends. -/
  due : Nat := 0
  queue : List Work := []
  /-- A calibration is pending, and the injections that must finish before it. -/
  calPend : Bool := false
  calAfter : Nat := 0
  /-- The channels still to come in the round, and the round's period in µs. -/
  round : List Nat := []
  period : Nat := 1000
  /-- Converters 0 and 1 have taken an injection or a calibration in the round. -/
  injTaken : Bool := false
  calTaken : Bool := false
  deriving DecidableEq, Repr

structure Kln where
  sensors : Tab Sensor := []
  /-- Consecutive readings towards entry and exit of the warning and throttle states, and towards shutdown (R512, R514). -/
  warnIn : Nat := 0
  warnOut : Nat := 0
  thrIn : Nat := 0
  thrOut : Nat := 0
  shut : Nat := 0
  /-- The tick at which the shutdown latch was set, and that its release has been carried out (R517). -/
  shutAt : Option Nat := none
  released : Bool := false
  live : Option Comp := none
  standby : Option Comp := none
  /-- A load has filled the standby bank, and the banks exchange at the next reading (R520). -/
  pend : Bool := false
  /-- Applied trims of the targets in 1/160 code, an unlisted one at its base, and the base trims (R520, R576). -/
  trims : Tab Int := []
  base : Tab Int := []
  convs : Tab Conv := []
  /-- Bit n: thermistor n was fitted when its result of the round was read (R508). -/
  ntcRead : Nat := 0
  deriving DecidableEq, Repr

/-! ### Start-up, update and service (chapter 16) -/

/-- The 57,344-byte image of a cask copy, field by field, least significant byte first (R576). `trims` are its bytes 0x0040 to 0xD8FF, the
sense, drive and diode trims. -/
structure Cask where
  magic : Nat := 0x4B53434B
  fmtVer : Nat := 1
  rsv0 : Nat := 0
  gen : Nat
  bodyLen : Nat := 0xDFBC
  dieId : Nat
  rsv1 : List Byte := List.replicate 36 0
  hdrCrc : Nat := 0
  trims : List Byte := []
  /-- The reference base trims of 16 targets. -/
  base : List Int := []
  cfg0 : Nat
  cfg1 : Nat
  /-- `CFG_CRC` as sealed (R491). -/
  crc : Nat := 0
  thr : Nat
  throttle : Nat
  ctrl : Nat
  twn : Nat
  rsv2 : List Byte := List.replicate 1728 0
  bodyCrc : Nat := 0
  deriving DecidableEq, Repr

/-- What a seal does next (R577). -/
inductive SealSt where
  | erase | program | readback
  deriving DecidableEq, Repr

/-- Triggers of a domain's service state that wait for a marker (R580). -/
structure DomSt where
  /-- Cause of a fence that waits: 1 host software, 2 a source. -/
  fence : Option Nat := none
  /-- An UPDATE (true) or a RELOAD (false) requested and not begun. -/
  load : Option Bool := none
  /-- A marker has let the load begin. -/
  due : Bool := false
  /-- The load in progress: its microcode, as version and body. -/
  loading : Option (Nat × List Byte) := none
  /-- The load has ended, verified or not. -/
  loaded : Option Bool := none
  ret : Bool := false
  /-- The recalibration has ended, passed or not. -/
  recal : Option Bool := none
  /-- The microcode that the domain's tiles run, as version and body. -/
  live : Option (Nat × List Byte) := none
  deriving DecidableEq, Repr

/-- Start-up, flash, cask and update (chapter 16). (DESIGN CHOICE, log 12.) -/
structure Btu where
  /-- Flash slots: firmware A and B, microcode A and B; empty when not valid (R570, R575). -/
  fwA : List Byte := []
  fwB : List Byte := []
  ucA : List Byte := []
  ucB : List Byte := []
  /-- Cask copies 0 and 1; none while erased or partly programmed (R577). -/
  cask0 : Option Cask := none
  cask1 : Option Cask := none
  /-- The seal in progress: its copy, image and next step. -/
  sealing : Option (Nat × Cask × SealSt) := none
  /-- The trims in force, as the cask holds them; empty for those of the ROM (R578). -/
  trims : List Byte := []
  /-- The calibration whose coefficients a tile's sense trims are; none for those of `trims` (R133, R135, R577). -/
  senseCal : Tab (Option Nat) := []
  /-- Staged microcode: version and body. -/
  staged : Option (Nat × List Byte) := none
  /-- Row of R567 in progress; 0 outside `CONFIG`. -/
  row : Nat := 0
  doms : Tab DomSt := []
  /-- The tick at which RESET_N was asserted (R562). -/
  heldFrom : Nat := 0
  /-- The ticks until which the accepted assertions of PORST_N and RESET_N last at least (R560). -/
  porTo : Nat := 0
  resTo : Nat := 0
  /-- Sources that a boot failure raises once the logger runs (R573). -/
  bootRaise : Nat := 0
  deriving DecidableEq, Repr

/-! ### The test access port (R622 to R627) -/

/-- The register between TDI and TDO. -/
inductive TapReg where
  | boundary | identity | bypass | result | dieId | factory
  deriving DecidableEq, Repr

structure TapSt where
  /-- The instruction register and the selected register. -/
  ir : Nat := 0x02
  sel : TapReg := .identity
  /-- The boundary cells, 2,025 bits, bit 0 nearest `TDI`. -/
  cells : Nat := 0
  /-- The drive instruction in effect, by its code (R625). -/
  drive : Option Nat := none
  deriving DecidableEq, Repr
/-! ### The whole device -/

/-- Why a step can stop with a fault. No command of the table ends in one. -/
inductive Fault where
  /-- Never raised: every row of the table has an effect the spec gives (safe). -/
  | none
  deriving DecidableEq, Repr

/-- Why a step can be refused. -/
inductive Refusal where
  /-- Raised by an arm of `exec` whose command has no meaning yet (safe). -/
  | notModelled (mnemonic : String)
  deriving DecidableEq, Repr

/-- The fast matrix (chapter 17). -/
structure Mtx where
  /-- Bursts not yet answered, target by target in the order of their grants (R591, R595, R606). -/
  queue : List MtxReq := []
  /-- 64-bit words, as address ÷ 8, whose error cannot be corrected; the edit that holds a word of the edit store (R604). -/
  bad : List (Nat × Nat) := []
  /-- Bus-error exceptions that the supervisor has taken (R605). -/
  superErr : Nat := 0
  /-- Bytes that bursts have written outside the calendar pool (R591, R594). -/
  mem : Sram := []
  /-- The map of the remap window that accesses meet: the working SRAM, or the boot ROM (R598). -/
  map : Bool := false
  deriving DecidableEq, Repr

/-- The machine. (DESIGN CHOICE, log 10; DESIGN CHOICE, log 13.) -/
structure State where
  /-- The commands that are waiting, first in first out. -/
  pending : List Instr := []
  /-- The model's own: how many free values have been taken (Config.freeValue). -/
  free : Nat := 0
  /-- DT in ticks of 0.781 25 ns (R10), and the ticks since PORST_N was released. -/
  dt : Nat := 0
  tick : Nat := 0
  /-- Every register of the set-up window, by BAR0 offset. -/
  regs : Tab Word := []
  /-- The values in force of the registers whose writes take effect later (frame marker, refill, offset sample, kiln reading). -/
  eff : Tab Word := []
  /-- The latching shadows of R195: 2 offset + path. -/
  shadow : Tab Word := []
  pins : Pins := {}
  /-- DT tick of the last frame marker. -/
  marker : Nat := 0
  /-- The first frame marker, on DT 0, has passed (R192). -/
  started : Bool := false
  tiles : Tab Tile := []
  swaps : List Swap := []
  fab : Fab := {}
  txn : TxnCtl := {}
  flt : Flt := {}
  tmu : Tmu := {}
  cal : Cal := {}
  adm : Adm := {}
  hif : Hif := {}
  cpx : Cpx := {}
  twn : Twn := {}
  siu : Siu := {}
  kln : Kln := {}
  btu : Btu := {}
  tap : TapSt := {}
  mtx : Mtx := {}
  /-- What has left the device, newest first. -/
  out : List OutMsg := []
  deriving DecidableEq, Repr

/-- The machine right after a power-on reset. (DESIGN CHOICE, log 9.) -/
def State.reset : State := {}

end Sys2Proof.Machine
end

