-- ==== Sys2Proof/Machine/Flags.lean ====
section
/-! DEFINITION. Status codes (R16), the order of refusals (R18), and the kind and reset severity of every event source (R534 to
R536). -/

namespace Sys2Proof.Machine

/-- The code of a status (R16). -/
def Status.code : Status → Nat
  | .done => 0x00
  | .queued => 0x01
  | .lateReject => 0x10
  | .lateAligned => 0x11
  | .lateNow => 0x12
  | .conflict => 0x20
  | .notArmed => 0x21
  | .aborted => 0x22
  | .settleLate => 0x23
  | .throttled => 0x30
  | .policed => 0x31
  | .badObject => 0x40
  | .badVersion => 0x41
  | .malformed => 0x42
  | .parseDeep => 0x43
  | .safetyHold => 0x50
  | .notActive => 0x51
  | .fenced => 0x52
  | .presenceNeeded => 0x60
  | .signatureFail => 0x61
  | .writeWindow => 0x62
  | .internal => 0x70

/-- Position of a refusal in the order of R18; a status that is no refusal of that list comes last. -/
def Status.rank : Status → Nat
  | .malformed => 1
  | .parseDeep => 2
  | .badVersion => 3
  | .badObject => 4
  | .presenceNeeded => 5
  | .signatureFail => 6
  | .notActive => 7
  | .safetyHold => 8
  | .fenced => 9
  | .writeWindow => 10
  | .policed => 11
  | .conflict => 12
  | .lateReject => 13
  | .throttled => 14
  | _ => 15

/-- The first refusal in the order of R18 among the conditions that hold; none when none holds. -/
def firstRefusal : List (Bool × Status) → Option Status
  | [] => none
  | (true, st) :: r =>
    match firstRefusal r with
    | none => some st
    | some st' => if st.rank ≤ st'.rank then some st else some st'
  | (false, _) :: r => firstRefusal r

/-- The severities of R539. -/
abbrev sevIgnore : Nat := 0
abbrev sevLog : Nat := 1
abbrev sevNotify : Nat := 2
abbrev sevDegrade : Nat := 3
abbrev sevResign : Nat := 4
abbrev sevQuench : Nat := 5

/-! Source numbers of R536. -/

def srcTile (t k : Nat) : Nat := 6 * t + k
def srcDom (d k : Nat) : Nat := 576 + 4 * d + k

/-- Does R536 name the source? -/
def srcNamed (n : Nat) : Bool :=
  decide (n < 624) || (decide (632 ≤ n) && decide (n ≤ 641)) || (decide (696 ≤ n) && decide (n ≤ 701)) ||
  (decide (744 ≤ n) && decide (n ≤ 753)) || (decide (768 ≤ n) && decide (n ≤ 792)) ||
  (decide (800 ≤ n) && decide (n ≤ 839)) || (decide (864 ≤ n) && decide (n ≤ 869)) ||
  (decide (928 ≤ n) && decide (n ≤ 931)) || (decide (960 ≤ n) && decide (n ≤ 991))

/-- Is the source's cause a condition (R535, R536)? -/
def srcCondition (n : Nat) : Bool :=
  if n < 576 then decide (n % 6 ∈ [1, 2, 3, 5])
  else if n < 608 then decide ((n - 576) % 4 ≤ 2)
  else decide (n ∈ [613, 614, 615, 632, 633, 634, 637, 639, 698, 700, 744, 745, 748, 752] ++
    [771, 772, 773, 774, 775, 776, 777, 779, 780, 781, 782, 791, 792, 804, 805, 806, 928, 929, 930])

/-- The severity of a source after reset (R536); a reserved source has IGNORE. -/
def resetSeverity (n : Nat) : Nat :=
  if n < 576 then (if n % 6 = 0 then sevLog else if n % 6 = 3 ∨ n % 6 = 5 then sevResign else sevNotify)
  else if n < 608 then
    (if (n - 576) % 4 = 1 then sevResign else if (n - 576) % 4 = 3 then sevLog else sevNotify)
  else if n ∈ [613, 804, 805, 867, 928, 929] then sevResign
  else if n ∈ [609, 612, 616, 617, 618, 619, 620, 635, 640, 641, 697, 701] ++
    [786, 787, 789, 801, 864, 866, 868, 931] then sevLog
  else if srcNamed n then sevNotify
  else sevIgnore

/-- The resignation cause of R446 that a source's RESIGN gives (R536). -/
def resignCause (n : Nat) : Nat :=
  if n = 928 then 0x01
  else if 576 ≤ n ∧ n < 608 ∧ (n - 576) % 4 = 1 then 0x02
  else if n = 805 then 0x03
  else if n < 576 ∧ n % 6 = 3 then 0x04
  else if n < 576 ∧ n % 6 = 5 then 0x05
  else if n = 804 then 0x06
  else if n = 929 then 0x07
  else 0x08

end Sys2Proof.Machine
end

