-- ==== Sys2Proof/Machine/Operands.lean ====
section
/-! DEFINITION. The forms that operands take: bits of a word, device times, element numbers, fixed-point numbers, little- and
big-endian fields of objects, and the CRC-32 of R74. -/

namespace Sys2Proof.Machine

/-- Bit `n` of `x`. -/
def bit (x n : Nat) : Bool := Nat.testBit x n

/-- `x` with bit `n` at `b`. -/
def withBit (x n : Nat) (b : Bool) : Nat :=
  if b then (if bit x n then x else x + 2 ^ n) else (if bit x n then x - 2 ^ n else x)

/-- The bits of `x` below `w`, rising. -/
def bitsOf (w x : Nat) : List Nat := (List.range w).filter (bit x)

/-- 1 for true. -/
def b2n (b : Bool) : Nat := if b then 1 else 0

/-- Field of `wd` bits from bit `lo`. -/
def getBits (x lo wd : Nat) : Nat := x / 2 ^ lo % 2 ^ wd

/-- `x` with the field of `wd` bits from bit `lo` replaced by `v`. -/
def setBits (x lo wd v : Nat) : Nat :=
  x / 2 ^ (lo + wd) * 2 ^ (lo + wd) + v % 2 ^ wd * 2 ^ lo + x % 2 ^ lo

/-- Put `a` before the first entry that it does not come after. -/
def insertBy {α : Type} (le : α → α → Bool) (a : α) : List α → List α
  | [] => [a]
  | b :: l => if le a b then a :: b :: l else b :: insertBy le a l

/-- Stable sort. -/
def sortBy {α : Type} (le : α → α → Bool) (l : List α) : List α := l.foldr (insertBy le) []

/-- Limit to `lo` … `hi`. -/
def clampI (x lo hi : Int) : Int := if x < lo then lo else if hi < x then hi else x

/-- Limit to a 16-bit code and take it as a natural number. -/
def clampCode (x : Int) : Nat := (clampI x 0 65535).toNat

/-- Two's complement of `w` bits. -/
def signed (w x : Nat) : Int := if x % 2 ^ w < 2 ^ (w - 1) then (x % 2 ^ w : Nat) else (x % 2 ^ w : Nat) - (2 ^ w : Nat)

/-- The `w`-bit two's complement of an integer. -/
def unsigned (w : Nat) (x : Int) : Nat := (x % (2 ^ w : Nat)).toNat

/-- Quotient rounded to the nearest integer, halves away from zero; the divisor is positive. -/
def roundDiv (n d : Int) : Int := if 0 ≤ n then (2 * n + d) / (2 * d) else -((2 * (-n) + d) / (2 * d))

/-! Device times (R10, R11). One tick is 51,200 units of 2⁻¹⁶ ns; one second is 1,280,000,000 ticks; one frame 3,200 ticks. -/

abbrev ticksPerSec : Nat := 1280000000
abbrev ticksPerFrame : Nat := 3200
abbrev unitsPerTick : Nat := 51200

/-- Units of 2⁻¹⁶ ns since DT 0. -/
def DtField.units (d : DtField) : Nat := (d.sec * 1000000000 + d.ns) * 65536 + d.frac

/-- R12: `NANOSECONDS` at most 999,999,999 and the reserved bits 0. -/
def DtField.ok (d : DtField) : Bool := decide (d.ns ≤ 999999999) && d.resvZero

/-- The nearest tick, the later one at a half (R253). -/
def DtField.tick (d : DtField) : Nat := (d.units + 25600) / unitsPerTick

/-- The first tick at or after the DT. -/
def DtField.tickUp (d : DtField) : Nat := (d.units + (unitsPerTick - 1)) / unitsPerTick

/-- A tick as a DT (R10). -/
def dtOf (t : Nat) : DtField :=
  let u := t % ticksPerSec * unitsPerTick
  { sec := t / ticksPerSec, ns := u / 65536, frac := u % 65536, resvZero := true }

/-- Ticks in `n` nanoseconds, rounded up (R253: ⌈margin ÷ 0.781 25 ns⌉). -/
def nsUp (n : Nat) : Nat := (n * 65536 + (unitsPerTick - 1)) / unitsPerTick

/-- Whole ticks in `n` nanoseconds: a tick lies at most `n` ns after tick m exactly when it lies at most these ticks after it (R211). -/
def nsDown (n : Nat) : Nat := n * 65536 / unitsPerTick

/-- Ticks in `n` microseconds (1,280 each). -/
def usTicks (n : Nat) : Nat := 1280 * n

/-- The last frame marker at or before tick `t` (R192: markers lie on DT multiples of a frame). -/
def markerBefore (t : Nat) : Nat := t / ticksPerFrame * ticksPerFrame

/-! Numbering (R6). -/

def tileOf (g : Nat) : Nat := g / 128
def elemOf (g : Nat) : Nat := g % 128
def rowOf (e : Nat) : Nat := e / 8
def colOf (e : Nat) : Nat := e % 8
def domOf (t : Nat) : Nat := t / 12
def allTiles : List Nat := List.range 96
def allElems : List Nat := List.range 128
def allDoms : List Nat := List.range 8
/-- The tiles of the domains of a mask (R6). -/
def tilesOfDoms (m : Nat) : List Nat := allTiles.filter (fun t => bit m (domOf t))

/-! Fixed point (R144, R145). -/

/-- Saturate to Q8.15; the second result is the number of saturations. -/
def satQ24 (x : Int) : Int × Nat :=
  if x < -8388608 then (-8388608, 1) else if 8388607 < x then (8388607, 1) else (x, 0)

/-- A timestamp at the resolution of the ports and of the capture inputs: 6,400 units of 2⁻¹⁶ ns (R197, R226). (DEDUCED, log 117.) -/
def stampOf (x : Int) : Int := x / 6400 * 6400

/-- Saturate to Q12.27 (40 bits). -/
def satQ40 (x : Int) : Int × Nat :=
  if x < -549755813888 then (-549755813888, 1) else if 549755813887 < x then (549755813887, 1) else (x, 0)

/-- Round an accumulation to Q8.15 (R145): saturate the sum, add 2¹¹, shift right by 12, saturate; counts saturations. (DEDUCED, log 87.) -/
def roundAcc (sum : Int) : Int × Nat :=
  let (a, n) := satQ40 sum
  let (b, m) := satQ24 ((a + 2048) / 4096)
  (b, n + m)

/-- The code of an output u in Q8.15 (R146), and whether it was clamped. -/
def codeOfU (u : Int) : Nat × Bool :=
  let c := (u + 64) / 128
  (clampCode c, decide (c < 0) || decide (65535 < c))

/-- A code in loop units, Q8.15 (R146). -/
def uOfCode (c : Nat) : Int := 128 * (c : Int)

/-! Fields of byte strings (R9). -/

/-- Byte `o`; 0 past the end. -/
def u8 (l : List Byte) (o : Nat) : Nat := (l.getD o 0).toNat
/-- Little-endian fields. -/
def le16 (l : List Byte) (o : Nat) : Nat := u8 l o + 256 * u8 l (o + 1)
def le32 (l : List Byte) (o : Nat) : Nat := le16 l o + 65536 * le16 l (o + 2)
def le64 (l : List Byte) (o : Nat) : Nat := le32 l o + 4294967296 * le32 l (o + 4)
/-- Big-endian fields. -/
def be16 (l : List Byte) (o : Nat) : Nat := 256 * u8 l o + u8 l (o + 1)
def be32 (l : List Byte) (o : Nat) : Nat := 65536 * be16 l o + be16 l (o + 2)
def be64 (l : List Byte) (o : Nat) : Nat := 4294967296 * be32 l o + be32 l (o + 4)
/-- Signed 16-bit little-endian fields from `o`. -/
def les16 (l : List Byte) (o : Nat) : Int := signed 16 (le16 l o)
def les32 (l : List Byte) (o : Nat) : Int := signed 32 (le32 l o)
/-- `n` fields of 16 bits from `o`. -/
def les16s (l : List Byte) (o n : Nat) : List Int := (List.range n).map (fun i => les16 l (o + 2 * i))
def le16s (l : List Byte) (o n : Nat) : List Nat := (List.range n).map (fun i => le16 l (o + 2 * i))
/-- Are the `n` bytes from `o` all 0? -/
def zeros (l : List Byte) (o n : Nat) : Bool := ((l.drop o).take n).all (fun b => decide (b = 0))
/-- Little-endian bytes of a number. -/
def leBytes : Nat → Nat → List Byte
  | 0, _ => []
  | n + 1, x => BitVec.ofNat 8 x :: leBytes n (x / 256)
/-- Big-endian bytes of a number. -/
def beBytes (n x : Nat) : List Byte := (leBytes n x).reverse
/-- The 16-byte DT of R11, little-endian. -/
def dtAt (l : List Byte) (o : Nat) : DtField :=
  { sec := le64 l o, ns := le32 l (o + 8), frac := le16 l (o + 12), resvZero := decide (le16 l (o + 14) = 0) }
/-- The 16-byte DT of R11 as bytes. -/
def dtBytes (d : DtField) : List Byte := leBytes 8 d.sec ++ leBytes 4 d.ns ++ leBytes 2 d.frac ++ leBytes 2 0

/-! CRC-32 of R74: the IEEE 802.3 polynomial, reflected, initial value and final XOR 0xFFFF_FFFF. -/

/-- One bit of the reflected CRC. -/
def crcBit (c : Nat) : Nat := if c % 2 = 1 then Nat.xor (c / 2) 0xEDB88320 else c / 2

/-- One byte of the CRC. -/
def crcByte (c : Nat) (b : Byte) : Nat :=
  let c := Nat.xor c b.toNat
  crcBit (crcBit (crcBit (crcBit (crcBit (crcBit (crcBit (crcBit c)))))))

def crc32 (l : List Byte) : Nat := Nat.xor (l.foldl crcByte 0xFFFFFFFF) 0xFFFFFFFF

end Sys2Proof.Machine
end

