-- ==== Sys2Proof/Machine/Ops.lean ====
section
/-! DEFINITION. The named operations over the state: registers, counters, events, device time, tiles and their tables. -/

namespace Sys2Proof.Machine

open Reg

/-! ### The register file (R13, R601) -/

/-- The fields of the block that offset `o` lies in (R601). -/
def blockFields (o : Nat) : List Fd :=
  if o < 0x10000 then fieldsGLB
  else if o < 0x20000 then fieldsDOM
  else if o < 0x100000 then []
  else if o < 0x160000 then fieldsTILE
  else if o < 0x200000 then []
  else if o < 0x210000 then fieldsTMU
  else if o < 0x240000 then fieldsCPX
  else if o < 0x260000 then fieldsADM
  else if o < 0x280000 then fieldsHIF
  else if o < 0x290000 then fieldsTWN
  else if o < 0x2A0000 then fieldsSIU
  else if o < 0x2B0000 then fieldsFLT
  else if o < 0x2C0000 then fieldsKLN
  else if o < 0x2D0000 then fieldsBTU
  else if o < 0x2E0000 then fieldsMTX
  else []

/-- The fields of the register at offset `o`. -/
def fieldsAt (o : Nat) : List Fd := (blockFields o).filter (fun f => f.covers o)

/-- The value of a field after reset: the register tables', and where they give a rule instead of a number, the rule
(R115 `FF_TOFF`, R532 `CHANNEL`, R556 severities, R628 die identity). -/
def resetField (f : Fd) (o : Nat) : Nat :=
  if f = FF_CTRL_FF_TOFF then f.inst o % 3
  else if f = HK_RES_LO_CHANNEL then f.inst o
  else if f.off = FLT_SEV_SEV.off then resetSeverity (8 * f.inst o + f.lo / 4)
  else if f = GLB_DIE_ID_LO_DIE_LO then Config.dieId.toNat % 2 ^ 32
  else if f = GLB_DIE_ID_HI_DIE_HI then Config.dieId.toNat / 2 ^ 32
  else f.rst

/-- The word at offset `o` after reset. -/
def resetWord (o : Nat) : Word :=
  BitVec.ofNat 32 ((fieldsAt o).foldl (fun w f => w + resetField f o * 2 ^ f.lo) 0)

/-- The word at offset `o` as the device holds it. -/
def State.word (s : State) (o : Nat) : Word := s.regs.read (resetWord o) o

/-- Put a whole word at offset `o`. -/
def State.setWord (s : State) (o : Nat) (w : Word) : State := { s with regs := s.regs.write (resetWord o) o w }

/-- Field `f` of instance `i`. -/
def State.reg (s : State) (f : Fd) (i : Nat := 0) : Nat := getBits (s.word (f.offAt i)).toNat f.lo f.wd

/-- Set field `f` of instance `i`; the rest of the word stays. -/
def State.setReg (s : State) (f : Fd) (i v : Nat) : State :=
  s.setWord (f.offAt i) (BitVec.ofNat 32 (setBits (s.word (f.offAt i)).toNat f.lo f.wd v))

/-- A one-bit field. -/
def State.flag (s : State) (f : Fd) (i : Nat := 0) : Bool := decide (s.reg f i = 1)
def State.setFlag (s : State) (f : Fd) (i : Nat) (b : Bool) : State := s.setReg f i (b2n b)

/-- Count `n` in a counter that saturates at its largest value (R117, R143, R190, R277, …). -/
def State.count (s : State) (f : Fd) (i n : Nat) : State :=
  if n = 0 then s else s.setReg f i (min (2 ^ f.wd - 1) (s.reg f i + n))

/-- Count one. -/
def State.inc (s : State) (f : Fd) (i : Nat := 0) : State := s.count f i 1

/-- The value in force of a field whose writes take effect later. -/
def State.effReg (s : State) (f : Fd) (i : Nat := 0) : Nat :=
  getBits (s.eff.read (resetWord (f.offAt i)) (f.offAt i)).toNat f.lo f.wd

/-- Make the register at offset `o` take effect. -/
def State.takeEffect (s : State) (o : Nat) : State := { s with eff := s.eff.write (resetWord o) o (s.word o) }

/-- Make the registers at these offsets take effect. -/
def State.takeEffects (s : State) : List Nat → State
  | [] => s
  | o :: r => State.takeEffects (s.takeEffect o) r

/-! ### Fresh free values -/

/-- Take a free value below 2^w (a result the spec leaves open). (DESIGN CHOICE, log 13.) -/
def State.takeFree (s : State) (w : Nat) : Nat × State :=
  ((Config.freeValue s.free).toNat % 2 ^ w, { s with free := s.free + 1 })

/-! ### What leaves the device -/

/-- A message leaves the device. (DESIGN CHOICE, log 8.) -/
def State.send (s : State) (m : OutMsg) : State := { s with out := m :: s.out }

/-! ### Events (R541, R545) -/

/-- A RESET_N or PORST_N that is low holds the logger in reset. -/
def State.inReset (s : State) : Bool := !(s.pins.porstN && s.pins.resetN)

/-- Raise an event. While RESET_N holds the logger in reset the safety island keeps up to 8 of its raises; every other raise of
that time is lost (R545). -/
def State.raiseEv (s : State) (r : Raise) : State :=
  if s.inReset then
    if s.pins.porstN && decide (768 ≤ r.src) && decide (r.src < 800) && decide (s.flt.kept.length < 8)
    then { s with flt := { s.flt with kept := s.flt.kept ++ [r] } } else s
  else { s with flt := { s.flt with raises := s.flt.raises ++ [r] } }

/-- Raise source `n` with an `INFO` word. -/
def State.raise (s : State) (n : Nat) (info : Nat := 0) : State := s.raiseEv { src := n, info := info }

/-- Raise source `n` for the outcome of a request, whose status the event carries (R16, R418). (DEDUCED, log 102.) -/
def State.raiseOut (s : State) (n : Nat) (st : Status) (info : Nat := 0) : State := s.raiseEv { src := n, info := info, status := st.code }

/-- The cause of a condition is present, or has ended (`FLT_CAUSE`, R555). -/
def State.setCause (s : State) (n : Nat) (b : Bool) : State :=
  s.setReg FLT_CAUSE_CAUSE (n / 32) (withBit (s.reg FLT_CAUSE_CAUSE (n / 32)) (n % 32) b)

def State.cause (s : State) (n : Nat) : Bool := bit (s.reg FLT_CAUSE_CAUSE (n / 32)) (n % 32)

/-- The source is held (R541). -/
def State.held (s : State) (n : Nat) : Bool := bit (s.reg FLT_HELD_HELD (n / 32)) (n % 32)

def State.setHeld (s : State) (n : Nat) (b : Bool) : State :=
  s.setReg FLT_HELD_HELD (n / 32) (withBit (s.reg FLT_HELD_HELD (n / 32)) (n % 32) b)

/-- Raise a condition: its cause begins. -/
def State.raiseCond (s : State) (n : Nat) (info : Nat := 0) : State := (s.setCause n true).raise n info

/-- `INFO` of a tile source (R538): the tile, and the lowest column or line concerned, 0xFF for none. (DEDUCED, log 100.) -/
def infoTile (t : Nat) (col : Option Nat) : Nat := t + 256 * col.getD 0xFF

/-- The bad register write event with the offset of the register (R15, R538). -/
def State.badWrite (s : State) (o : Nat) : State := s.raise 864 o

/-! ### Time -/

/-- Time has passed up to DT tick `t`; time never runs backwards. (DEDUCED, log 6.) -/
def State.advanceTo (s : State) (t : Nat) : State :=
  if s.dt < t then { s with dt := t, tick := s.tick + (t - s.dt) } else s

/-- Time has passed by `n` ticks. (DEDUCED, log 6; DESIGN CHOICE, log 26.) -/
def State.advance (s : State) (n : Nat) : State := { s with dt := s.dt + n, tick := s.tick + n }

/-- The next frame marker at or after the present DT: DT 0 is the first, and one follows every 3,200 ticks (R192). (DEDUCED, log 5.) -/
def State.nextMarker (s : State) : Nat :=
  max ((s.dt + 3199) / 3200 * 3200) (if s.started then s.marker + ticksPerFrame else 0)

/-- The present DT. -/
def State.now (s : State) : DtField := dtOf s.dt

/-- Put a DT into a record of four registers: nanoseconds, fraction, seconds low and high. -/
def State.setDtRegs (s : State) (ns fr lo hi : Fd) (d : DtField) : State :=
  (((s.setReg ns 0 d.ns).setReg fr 0 d.frac).setReg lo 0 (d.sec % 2 ^ 32)).setReg hi 0 (d.sec / 2 ^ 32)

/-! ### Tiles, lanes and taps -/

def State.tile (s : State) (t : Nat) : Tile := s.tiles.read {} t
def State.setTile (s : State) (t : Nat) (v : Tile) : State := { s with tiles := s.tiles.write {} t v }
def State.modTile (s : State) (t : Nat) (f : Tile → Tile) : State := s.setTile t (f (s.tile t))

def Tile.lane (t : Tile) (e : Nat) : Lane := t.lanes.read {} e
def Tile.setLane (t : Tile) (e : Nat) (l : Lane) : Tile := { t with lanes := t.lanes.write {} e l }
def Tile.modLane (t : Tile) (e : Nat) (f : Lane → Lane) : Tile := t.setLane e (f (t.lane e))
def Tile.modLanes (t : Tile) (f : Nat → Lane → Lane) : Tile := { t with lanes := t.lanes.update {} f allElems }

/-- Tap x of element e. -/
def Tile.tap (t : Tile) (e x : Nat) : Tap := t.taps.read {} (2 * e + x)
def Tile.setTap (t : Tile) (e x : Nat) (v : Tap) : Tile := { t with taps := t.taps.write {} (2 * e + x) v }

/-- The record of a slot and line. -/
def Tile.record (t : Tile) (slot line : Nat) : Rec := t.recs.read {} (8 * slot + line)

/-- Drive-bank code of node x of element e in a bank. -/
def bankCode (b : Tab Nat) (e x : Nat) : Nat := b.read 0 (2 * e + x)
def setBankCode (b : Tab Nat) (e x c : Nat) : Tab Nat := b.write 0 (2 * e + x) c

/-- The codes of nodes go into both drive banks, so that later frames replay them (R29, R166). -/
def Tile.takeCodes (tl : Tile) (codes : List (Nat × Nat)) : Tile :=
  { tl with cur := Tab.writes 0 codes tl.cur, nxt := Tab.writes 0 codes tl.nxt }

/-- The drive banks hold the codes of u_a of lane e (R175). -/
def Tile.takeUa (tl : Tile) (e : Nat) : Tile := tl.takeCodes [(2 * e, (tl.lane e).uaP), (2 * e + 1, (tl.lane e).uaT)]

/-- The tile's pending bank and settle record k. -/
def Tile.pend (t : Tile) (k : Nat) : Pend := if k = 0 then t.pend0 else t.pend1
def Tile.setPend (t : Tile) (k : Nat) (p : Pend) : Tile := if k = 0 then { t with pend0 := p } else { t with pend1 := p }
def Tile.setSettle (t : Tile) (k : Nat) (v : Settle) : Tile := if k = 0 then { t with settle0 := v } else { t with settle1 := v }

/-- The capture of tap n of R137 is cleared. -/
def Tile.clearTap (tl : Tile) (n : Nat) : Tile :=
  let p : Tap := tl.taps.read {} n
  { tl with taps := tl.taps.write {} n { p with entry := none, driftRun := 0 } }

/-! ### The lines of a tile (R49, R55 to R61, R91) -/

/-- Where a column stands at tick LAST of its slot: it has moved towards the new code by at most STEP codes at each of ticks 0,
RATE, 2·RATE, … up to LAST. -/
def slewReach (old new step rate last : Nat) : Nat :=
  let room := step * (last / rate + 1)
  if old ≤ new then min new (old + room) else max new (old - room)

/-- Ticks of one slot; the tick of its last slew step; the ticks between which its strobe is high (R59, R61, R91, R253). -/
def Run.len (r : Run) : Nat := if r.burst then 32 else 100
def Run.last (r : Run) : Nat := if r.burst then 12 else 24
def Run.rise (r : Run) : Nat := if r.burst then 24 else 40
def Run.fall (r : Run) : Nat := if r.burst then 30 else 50

/-- The tick at which its last slot ends. -/
def Run.stop (r : Run) : Nat := r.start + (r.len * r.addrs.length - r.skip)

/-- Column c when j slots have passed: each moves it towards its code (R91). -/
def Run.colEnd (r : Run) (c : Nat) : Nat → Nat
  | 0 => r.base.read 0 c
  | j + 1 => slewReach (r.colEnd c j) (r.codes.getD (8 * j + c) 0) r.step r.rate r.last

/-- The slot in progress at tick n, and the tick in it. -/
def Run.slotAt (r : Run) (n : Nat) : Nat := (n - r.start + r.skip) / r.len
def Run.tickAt (r : Run) (n : Nat) : Nat := (n - r.start + r.skip) % r.len

/-- Column c at tick n of the run. -/
def Run.colAt (r : Run) (c n : Nat) : Nat :=
  slewReach (r.colEnd c (r.slotAt n)) (r.codes.getD (8 * r.slotAt n + c) 0) r.step r.rate (min (r.tickAt n) r.last)

/-- At tick n the strobe pulse of the slot that it cuts is still high (R57). -/
def Run.waits (r : Run) (n : Nat) : Bool := r.cut.isSome && decide (n < r.start)

/-- The strobe is high at tick n. -/
def Run.frs (r : Run) (n : Nat) : Bool :=
  r.waits n ||
  (r.strobe && decide (r.start ≤ n) && decide (n < r.stop) && decide (r.rise < r.tickAt n) && decide (r.tickAt n < r.fall))

/-- The run is in progress at tick n. -/
def Run.on (r : Run) (n : Nat) : Bool := decide (r.start ≤ n) && decide (n < r.stop)

/-- `FRA_Ttt`, column c and `FRS_Ttt` of the tile at tick n. -/
def Tile.fraAt (tl : Tile) (n : Nat) : Nat :=
  match tl.run with
  | some r => if r.on n then r.addrs.getD (r.slotAt n) 0 else if r.waits n then r.cut.getD 0 else tl.fra
  | none => tl.fra
def Tile.fcdAt (tl : Tile) (c n : Nat) : Nat :=
  match tl.run with
  | some r => if r.on n then r.colAt c n else if r.waits n then r.base.read 0 c else tl.fcd.read 0 c
  | none => tl.fcd.read 0 c
def Tile.frsAt (tl : Tile) (n : Nat) : Bool :=
  match tl.run with
  | some r => r.frs n
  | none => false

/-- Column c before the step that falls on tick n: what a slot or burst that begins there moves from (R57, R91). -/
def Tile.fcdBefore (tl : Tile) (c n : Nat) : Nat :=
  match tl.run with
  | some r => if n ≤ r.start then r.base.read 0 c else tl.fcdAt c (n - 1)
  | none => tl.fcd.read 0 c

/-- The guard line `FGD_Ttt` stands at the virtual ground of the sense lines, in mV (R49). -/
abbrev fgdMv : Nat := 600

/-- The eight columns as f gives them. -/
def colTab (f : Nat → Nat) : Tab Nat := (List.range 8).foldl (fun m c => m.write 0 c (f c)) []

/-- The tile presents a run from tick `r.start` on; a strobe pulse that is high at tick n ends first (R57). -/
def Tile.startRun (tl : Tile) (r : Run) (n : Nat := r.start) : Tile :=
  { tl with run := some { r with cut := if n < r.start ∧ tl.frsAt n = true then some (tl.fraAt n) else none },
            fra := r.addrs.getLastD 0, fcd := colTab (fun c => r.colEnd c r.addrs.length) }

/-- The lines stop as they stand at tick n, with the strobe low (R21, R58). -/
def Tile.freezeLines (tl : Tile) (n : Nat) : Tile :=
  { tl with run := none, fra := tl.fraAt n, fcd := colTab (fun c => tl.fcdAt c n) }

/-- The lines of a domain that is not owned: strobe low, address 0, columns at 0 V (R71). -/
def Tile.idleLines (tl : Tile) : Tile := { tl with run := none, fra := 0, fcd := [] }

/-- The first tick at or after n on which the strobe of the tile is low (R57, R97, R267). -/
def Tile.strobeFree (tl : Tile) (n : Nat) : Nat :=
  match tl.run with
  | some r => if r.waits n then r.start else if r.frs n then n + (r.fall - r.tickAt n) else n
  | none => n

/-- A burst that still runs when the release of a reset sets DT to 0 at what was tick n goes on in the new DT (R101, R192). -/
def Tile.rebase (tl : Tile) (n : Nat) : Tile :=
  { tl with run := match tl.run with
      | some r => if r.on n then some { r with start := 0, skip := n - r.start + r.skip } else none
      | none => none }

/-- The windows in which `OWN_Dd` may not fall because of a run: from 2.0 ns before each rise until 2.0 ns after the fall (R70). -/
def Run.guards (r : Run) : List (Nat × Nat) :=
  (if r.cut.isSome then [(0, r.start + 3)] else []) ++
  if r.strobe then (List.range r.addrs.length).map (fun j =>
    (r.start + r.len * j + r.rise - 2 - r.skip, r.start + r.len * j + r.fall + 3 - r.skip)) else []

/-- The first tick at or after n that lies in none of the windows, which ascend. -/
def clearOf (n : Nat) (ws : List (Nat × Nat)) : Nat := ws.foldl (fun n w => if w.1 ≤ n ∧ n < w.2 then w.2 else n) n

/-- Fold a state over a list of numbers. -/
def State.forEach (s : State) (f : State → Nat → State) (l : List Nat) : State := l.foldl f s

/-! ### Banked tables (R176) -/

/-- Write entries to the standby bank, or hold them while an exchange is pending. -/
def Banked.put {α : Type} [DecidableEq α] (d : α) (b : Banked α) (es : List (Nat × α)) : Banked α :=
  if b.pend || !b.held.isEmpty then { b with held := b.held ++ [.write es] }
  else { b with standby := Tab.writes d es b.standby }

/-- Commit: the banks exchange at the next frame marker; a commit that arrives while an exchange is pending is held. -/
def Banked.commit {α : Type} (b : Banked α) : Banked α :=
  if b.pend || !b.held.isEmpty then { b with held := b.held ++ [.commit] } else { b with pend := true }

/-- Apply what was held, in arrival order, up to and including the first commit. -/
def Banked.applyHeld {α : Type} [DecidableEq α] (d : α) : List (HeldOp α) → Banked α → Banked α
  | [], b => { b with held := [] }
  | .write es :: r, b => Banked.applyHeld d r { b with standby := Tab.writes d es b.standby }
  | .commit :: r, b => { b with pend := true, held := r }

/-- The exchange at a frame marker. -/
def Banked.exchange {α : Type} [DecidableEq α] (d : α) (b : Banked α) : Banked α :=
  if b.pend then
    Banked.applyHeld d b.held { b with live := b.standby, standby := b.live, bank := 1 - b.bank, pend := false, held := [] }
  else b

/-! ### Ownership and the descriptor -/

/-- This device asserts `OWN_Dd`. -/
def State.owns (s : State) (d : Nat) : Bool := bit (s.reg KFI_STATUS_OWN) d
def State.ownsTile (s : State) (t : Nat) : Bool := s.owns (domOf t)

/-- The filtered `OWNX_Dd`. -/
def State.ownx (s : State) (d : Nat) : Bool := bit (s.reg KFI_STATUS_OWNX) d

/-- Tile t is populated in the accepted descriptor (R74). -/
def State.populated (s : State) (t : Nat) : Bool :=
  match s.fab.desc with
  | none => false
  | some d => bit d.tileMask t

/-- Row r of tile t is populated. -/
def State.rowPop (s : State) (t r : Nat) : Bool :=
  match s.fab.desc with
  | none => false
  | some d => bit (d.rowMask.getD t 0) r

/-- The domain holds at least one populated tile (R70). -/
def State.domPop (s : State) (d : Nat) : Bool := (List.range 12).any (fun k => s.populated (12 * d + k))

/-- Assert `OWN_Dd` (R70): only for a domain with a populated tile, and not while R21 inhibits it. The first strobe waits for the
first marker at least 300 ns (384 ticks) later. -/
def State.assertOwn (s : State) (d : Nat) : State :=
  if s.fab.inhibit || !s.domPop d || s.owns d then s
  else
    let s := s.setReg KFI_STATUS_OWN 0 (withBit (s.reg KFI_STATUS_OWN) d true)
    { s with fab := { s.fab with ownAt := s.fab.ownAt.write 0 d s.dt,
                                 ownReady := withBit s.fab.ownReady d false,
                                 ownSensed := withBit s.fab.ownSensed d false } }

/-- Withdraw the armed reports of tile t's transactions that wait for their deadline: a condition of R255 has failed. -/
def State.withdraw (s : State) (t : Nat) : State :=
  let g (p : Pend) : Pend :=
    if p.st = .armed ∧ (s.txn.slots.read {} (p.handle % 64)).st = TxnSt.arming then { p with st := .frozen, report := none } else p
  s.modTile t (fun tl => { tl with pend0 := g tl.pend0, pend1 := g tl.pend1 })

/-- The first tick from now on at which domain d may be released (R70). -/
def State.releaseTick (s : State) (d : Nat) : Nat :=
  let ws := (List.range 12).flatMap (fun k => match (s.tile (12 * d + k)).run with
    | some r => r.guards.filter (fun w => decide (s.dt < w.2))
    | none => [])
  clearOf s.dt (sortBy (fun a b => decide (a.1 ≤ b.1)) ws)

/-- `OWN_Dd` falls in tile t (R71): its lines stand idle; the slot in progress was not owned throughout (R125 order 3); verifications
meet a loss of ownership (R263); a report is withdrawn (R255). -/
def State.disown (s : State) (t : Nat) : State :=
  let s := s.modTile t (fun tl =>
    let on := s.started && decide (s.dt < s.marker + 100 * tl.slot + 100)
    { tl.idleLines with vers := tl.vers.map (fun v => { v with unowned := true })
                        slotSt := if on then tl.slotSt.write 2 tl.slot 3 else tl.slotSt })
  s.withdraw t

/-- Deassert `OWN_Dd` by the device's own action, while no strobe of the domain is near (R70, R71). (DEDUCED, log 106.) -/
def State.releaseOwn (s : State) (d : Nat) : State :=
  if !s.owns d then s
  else
    let s := s.advanceTo (s.releaseTick d)
    let s := s.setReg KFI_STATUS_OWN 0 (withBit (s.reg KFI_STATUS_OWN) d false)
    let s := { s with fab := { s.fab with ownReady := withBit s.fab.ownReady d false,
                                          ownSensed := withBit s.fab.ownSensed d false } }
    let s := s.setCause (srcDom d 0) false
    s.forEach (fun s k => s.disown (12 * d + k)) (List.range 12)

/-- Release every domain of a mask. -/
def State.releaseDoms (s : State) (m : Nat) : State := s.forEach State.releaseOwn (bitsOf 8 m)

/-- A burst runs in the tile. -/
def Tile.bursts (tl : Tile) : Bool :=
  match tl.seq with
  | .normal => false
  | .idle => false
  | _ => true

/-- The domains whose release waits are released once none of their tiles has a burst running (R447). -/
def State.releaseDue (s : State) : State :=
  s.forEach (fun s d =>
    if bit s.fab.releasing d && !((List.range 12).any (fun k => (s.tile (12 * d + k)).bursts))
    then ({ s with fab := { s.fab with releasing := withBit s.fab.releasing d false } }).releaseOwn d else s) (List.range 8)

/-! ### Spans and park codes (R83, R87) -/

/-- Span code as millivolts. -/
def spanMv (c : Nat) : Nat := if c = 0 then 20000 else if c = 1 then 40000 else 60000

/-- P = round(V × 65,535 ÷ S), halves up. -/
def parkCode (mv span : Nat) : Nat := (2 * mv * 65535 + span) / (2 * span)

/-- Live span of node kind x of tile t. -/
def State.liveSpan (s : State) (t x : Nat) : Nat := spanMv (s.reg (if x = 0 then DRV_SPAN_LIVE_PRI else DRV_SPAN_LIVE_TRIM) t)

/-- Park voltage of node x of global element g (R77). -/
def State.parkMv (s : State) (g x : Nat) : Nat :=
  s.fab.parkStore.read (if x = 0 then s.fab.parkDef.1 else s.fab.parkDef.2) (2 * g + x)

/-- Park code of node x of element e of tile t in the live span. -/
def State.parkOf (s : State) (t e x : Nat) : Nat := parkCode (s.parkMv (128 * t + e) x) (s.liveSpan t x)

/-! ### Start-up state, roles and domain service -/

/-- Start-up states of R565: 0 `POR`, 1 `BOOT`, 2 `RECOVERY`, 3 `CONFIG`, 4 `RUN`. -/
def State.startup (s : State) : Nat := s.reg BTU_STATE_STATE

/-- Host software reaches the registers: not in reset, `POR` or `BOOT` (R567, R569). -/
def State.windowOpen (s : State) : Bool := !s.inReset && decide (2 ≤ s.startup)

def State.running (s : State) : Bool := !s.inReset && decide (s.startup = 4)

/-- Service state of domain d (R579): 0 `IN_SERVICE`, 1 `FENCED`, 2 `LOADING`, 3 `RETURNING`, 4 `UNAVAILABLE`. -/
def State.domState (s : State) (d : Nat) : Nat := s.reg DOM_STATUS_STATE d

/-- The triggers of domain d that wait for a marker (R580). -/
def State.domSt (s : State) (d : Nat) : DomSt := s.btu.doms.read {} d
def State.setDomSt (s : State) (d : Nat) (v : DomSt) : State := { s with btu := { s.btu with doms := s.btu.doms.write {} d v } }

/-- A hold or fence of the domain is in force (R168, R581). (DEDUCED, log 39.) -/
def State.domHeld (s : State) (d : Nat) : Bool := decide (1 ≤ s.domState d ∧ s.domState d ≤ 3)

/-- Domain d can be owned: it holds a populated tile, R219 has not marked it, and it is not `UNAVAILABLE` (R219, R424, R579). -/
def State.canOwn (s : State) (d : Nat) : Bool := s.domPop d && !bit s.tmu.bad d && decide (s.domState d ≠ 4)

/-- A domain that R219 marks, or in which an accepted descriptor populates no tile, is `UNAVAILABLE` from then on (R579). -/
def State.showUnavailable (s : State) : State :=
  s.forEach (fun s d => if bit s.tmu.bad d || (s.fab.desc.isSome && !s.domPop d) then s.setReg DOM_STATUS_STATE d 4 else s) allDoms

/-- The tile engine of tile t computes: not stopped by its watchdog or for a load (R537, R582). -/
def State.engineRuns (s : State) (t : Nat) : Bool := (s.tile t).engine && decide (s.domState (domOf t) ≠ 2)

/-- The roles of `TWN_STATUS.ROLE` and the resigned state (R424, R457). -/
def State.role (s : State) : Nat := s.reg TWN_STATUS_ROLE

/-- Role codes of R424. -/
abbrev roleActive : Nat := 0
abbrev roleStandby : Nat := 1
abbrev roleSolo : Nat := 2
abbrev roleResigned : Nat := 3

/-- `TWIN_SEEN`: a heartbeat has arrived within `HB_MISS` × 10 µs (R457). -/
def State.twinSeen (s : State) : Bool :=
  match s.twn.hbAt with
  | some t => decide (s.tick ≤ t + usTicks (10 * s.reg TWN_CTRL_HB_MISS))
  | none => false

/-- The severity in force for source n (R556). -/
def State.severity (s : State) (n : Nat) : Nat := getBits (s.word (FLT_SEV_SEV.offAt (n / 8))).toNat (4 * (n % 8)) 4

/-- A raise that will take a RESIGN or a QUENCH has not reached the logger's cycle yet: it comes before a change of role of another
cause (R427). -/
def State.resignWaits (s : State) : Bool :=
  s.flt.raises.any (fun r => decide (sevResign ≤ s.severity r.src) && (if r.injected then s.flag FLT_CTRL_INJ_ACT else !(srcCondition r.src && s.held r.src)))

/-- The IDs of master k, by its code of R592, are being retired: it issues nothing (R606). -/
def State.retiring (s : State) (k : Nat) : Bool := bit (s.reg MTX_STATUS_RETIRING) k

/-- The map of the remap window follows `MTX_CTRL.REMAP` once no access to the window is outstanding (R598). -/
def State.followMap (s : State) : State :=
  if s.flag MTX_CTRL_REMAP && s.mtx.queue.all (fun r => decide (0x200000 ≤ r.addr)) then { s with mtx := { s.mtx with map := true } } else s

/-- `REMAP` is set; `BTU_STATE.REMAP` mirrors it (R598). -/
def State.setRemap (s : State) : State := ((s.setFlag MTX_CTRL_REMAP 0 true).setFlag BTU_STATE_REMAP 0 true).followMap

/-- Master codes of R592. -/
abbrev mtxCalendar : Nat := 0
abbrev mtxTwin : Nat := 2
abbrev mtxSupervisor : Nat := 3

/-- In `RUN` with role `ACTIVE` or `SOLO`. -/
def State.leads (s : State) : Bool := s.running && decide (s.role = roleActive ∨ s.role = roleSolo)

/-- The device forwards to its twin: in role `ACTIVE` until it releases its domains, and as a `SOLO` sender while it synchronises a
standby (R424, R439, R445, R447). (DEDUCED, log 46.) -/
def State.forwards (s : State) : Bool :=
  s.running && s.twn.switch.isNone && (decide (s.role = roleActive) || (decide (s.role = roleSolo) && s.twn.sending))

end Sys2Proof.Machine
end

