-- ==== Sys2Proof/Machine/Matrix.lean ====
section
/-! DEFINITION. The fast matrix: its regions, the bursts that it takes, the order of its grants, its default target and the memory errors
(R591 to R599, R604, R605). -/

namespace Sys2Proof.Machine

open Reg

/-! ### Regions and bursts (R591, R593, R597 to R599) -/

/-- The regions of R597 as base, size and row of R593; the remap window is the boot ROM or the working SRAM (R598). -/
def mtxRegions (remap : Bool) : List (Nat × Nat × Nat) :=
  [if remap then (0, 0x200000, 1) else (0, 0x40000, 0), (0x02000000, 0x40000, 0), (0x04000000, 0x200000, 1),
   (0x0100000000, 0xC00000, 2), (0x0110000000, 0x400000, 3), (0x0120000000, 0x200000, 4), (0x0130000000, 0xC00000, 5),
   (0x0140000000, 0x100000, 6), (0x0150000000, 0x400000, 7), (0x0160000000, 0xC0000, 8), (0x0170000000, 0x40000, 9),
   (0x0200000000, 0x1000000, 10)]

/-- The region of R597 that holds an address; none in a hole. -/
def mtxRegion (remap : Bool) (a : Nat) : Option (Nat × Nat × Nat) :=
  (mtxRegions remap).find? (fun r => decide (r.1 ≤ a) && decide (a < r.1 + r.2.1))

/-- Masters that may read and write each region, bit k for code k (R593). -/
def mtxReads : List Nat := [0x08, 0x2C, 0x2D, 0x2D, 0x2D, 0x2C, 0x3C, 0x28, 0x0C, 0x2D, 0x08]
def mtxWrites : List Nat := [0x00, 0x5E, 0x4C, 0x4C, 0x4C, 0x4C, 0x5C, 0x48, 0x0C, 0x0F, 0x08]

/-- R591: 1 to 8 beats from a 64 B boundary, across neither a 4 KiB boundary nor the end of the region. -/
def MtxReq.formed (r : MtxReq) (base size : Nat) : Bool :=
  let n := r.beats.length
  decide (1 ≤ n) && decide (n ≤ 8) && decide (r.addr % 64 = 0) && decide (r.addr % 4096 + 64 * n ≤ 4096) && decide (r.addr + 64 * n ≤ base + size)

/-- The target of a burst: a region, or 11 for the default target (R593, R599). -/
def MtxReq.target (remap : Bool) (r : MtxReq) : Nat :=
  match mtxRegion remap r.addr with
  | some (base, size, k) =>
    if r.formed base size && bit ((if r.write then mtxWrites else mtxReads).getD k 0) r.master then k else 11
  | none => 11

/-! ### Grants (R595) -/

/-- Of two waiting bursts the one with the smaller key is granted: the calendar sequencer, then the aged, then the rest, by rank;
`past` cycles have passed since the waits were counted. -/
def MtxReq.key (age past : Nat) (r : MtxReq) : Nat :=
  (if r.master = 0 then 0 else if age ≤ r.waited + past then 8 else 16) + r.master

/-- The burst that a target grants next; of equal ones the first issued (R594). -/
def nextGrant (age past : Nat) (l : List MtxReq) : Option MtxReq :=
  l.foldl (fun b r => match b with
    | none => some r
    | some x => if r.key age past < x.key age past then some r else b) none

/-- The order in which a target grants n waiting bursts, with the cycle in which each ends; a granted burst takes a cycle a beat (R591,
R595). -/
def grants (age : Nat) : Nat → Nat → List MtxReq → List (Nat × MtxReq)
  | 0, _, _ => []
  | n + 1, past, l =>
    match nextGrant age past l with
    | none => []
    | some r => (past + r.beats.length, r) :: grants age n (past + r.beats.length) (l.erase r)

/-- The bursts at one target in the order in which it ends them: a granted burst finishes first (R595). -/
def targetTimes (age : Nat) (l : List MtxReq) : List (Nat × MtxReq) :=
  let g := l.filter (fun r => r.delivered.isSome)
  let w := l.filter (fun r => r.delivered.isNone)
  let past := (g.map (fun r => r.beats.length - r.delivered.getD 0)).foldl (· + ·) 0
  g.map (fun r => (past, r)) ++ grants age w.length past w

def targetOrder (age : Nat) (l : List MtxReq) : List MtxReq := (targetTimes age l).map Prod.snd

/-- Put a burst among others by the cycle in which it ends. -/
def insertTime (x : Nat × MtxReq) : List (Nat × MtxReq) → List (Nat × MtxReq)
  | [] => [x]
  | y :: l => if y.1 ≤ x.1 then y :: insertTime x l else x :: y :: l

/-- The bursts at all targets in the order in which they end. -/
def matrixOrder (age : Nat) (remap : Bool) (l : List MtxReq) : List MtxReq :=
  (((List.range 12).flatMap (fun k => targetTimes age (l.filter (fun r => decide (r.target remap = k))))).foldl (fun m x => insertTime x m) []).map
    Prod.snd

/-- Two bursts of one master with the same ID. -/
def MtxReq.sameId (a b : MtxReq) : Bool := decide (a.master = b.master) && decide (a.id = b.id)

/-- Of the bursts that have ended (`ended`, in that order) the next that may be answered: none of its master and ID was issued before it and
is not yet answered (R594); `open'` are those not yet answered, in the order of issue. -/
def nextAnswer (open' ended : List MtxReq) : Option MtxReq := ended.find? (fun r => decide (open'.find? r.sameId = some r))

/-- The order of n answers. -/
def answerOrder : Nat → List MtxReq → List MtxReq → List MtxReq
  | 0, _, _ => []
  | n + 1, open', ended =>
    match nextAnswer open' ended with
    | none => []
    | some r => r :: answerOrder n (open'.erase r) (ended.erase r)

/-- R606: what is left of a burst of a reset master carries no byte enables. -/
def MtxReq.disable (r : MtxReq) : MtxReq :=
  let d := r.delivered.getD 0
  { r with beats := r.beats.take d ++ (r.beats.drop d).map (fun b => { b with en := 0 }) }

/-! ### Errors (R599, R604) -/

/-- The default target's record of an access of master m (R599, R610). -/
def State.defaultTarget (s : State) (m : Nat) (write : Bool) (hi lo : Nat) : State :=
  let s := (s.setReg MTX_ERR_LO_ADDR_LO 0 lo).setReg MTX_ERR_HI_ADDR_HI 0 hi
  let s := (s.setReg MTX_ERR_HI_MASTER 0 m).setFlag MTX_ERR_HI_WRITE 0 write
  (s.inc MTX_CNT1_DEFAULT).raise 865

/-- An SRAM error at an internal address, corrected or not (R604). (DESIGN CHOICE, log 64.) -/
def State.eccError (s : State) (addr : Nat) (corrected : Bool) : State :=
  if corrected then (s.inc MTX_CNT0_CORRECTED).raise 866
  else ((s.inc MTX_CNT0_UNCORR).setReg MTX_ECC_ADDR_ADDR 0 (addr / 64)).raise 867

def State.modMtx (s : State) (f : Mtx → Mtx) : State := { s with mtx := f s.mtx }

/-- R605: the supervisor takes a bus-error exception. (DESIGN CHOICE, log 124.) -/
def State.superError (s : State) : State := s.modMtx (fun m => { m with superErr := m.superErr + 1 })

/-- Internal addresses of a plan slot and of a pool entry (R237, R280). -/
def planAddr (n : Nat) : Nat := 0x0100000000 + n * 0xC000
def poolAddr (i : Nat) : Nat := 0x0110000000 + 16 * i

def inEdits (w : Nat) : Bool := decide (0x24000000 ≤ w) && decide (w < 0x24040000)

/-- An uncorrectable word in the n bytes from a on. -/
def State.badIn (s : State) (a n : Nat) : Option (Nat × Nat) :=
  s.mtx.bad.find? (fun w => decide (a / 8 ≤ w.1) && decide (w.1 < (a + n + 7) / 8))

/-- An uncorrectable word in the blocks of edit e. -/
def State.badEdit (s : State) (e : Nat) : Option (Nat × Nat) := s.mtx.bad.find? (fun w => inEdits w.1 && decide (w.2 = e))

/-- A word turns out uncorrectable; which edit a block of the edit store belongs to is a free value. (DESIGN CHOICE, log 124.) -/
def State.spoil (s : State) (addr : Nat) : State :=
  let w := addr / 8
  if s.mtx.bad.any (fun p => decide (p.1 = w)) then s
  else if inEdits w then ((s.takeFree 12).2).modMtx (fun m => { m with bad := m.bad ++ [(w, (s.takeFree 12).1)] })
  else s.modMtx (fun m => { m with bad := m.bad ++ [(w, 0)] })

/-- The n bytes from a on are written: their words are whole again (R604). -/
def State.heal (s : State) (a n : Nat) : State :=
  s.modMtx (fun m => { m with bad := m.bad.filter (fun w => !(decide (a / 8 ≤ w.1) && decide (w.1 < (a + n + 7) / 8))) })

/-- Edit e is stored in other blocks, or released (R244). -/
def State.healEdit (s : State) (e : Nat) : State :=
  s.modMtx (fun m => { m with bad := m.bad.filter (fun w => !(inEdits w.1 && decide (w.2 = e))) })

end Sys2Proof.Machine
end

