-- ==== Sys2Proof/Machine/HostIo.lean ====
section
/-! DEFINITION. What the device writes to host memory: completions, receive completions, events and interrupts (R389, R390, R397,
R405, R415 to R420). -/

namespace Sys2Proof.Machine

open Reg

def State.ring (s : State) (r : Nat) : Ring := s.hif.rings.read {} r
def State.setRing (s : State) (r : Nat) (v : Ring) : State :=
  { s with hif := { s.hif with rings := s.hif.rings.write {} r v } }
def State.modRing (s : State) (r : Nat) (f : Ring → Ring) : State := s.setRing r (f (s.ring r))

/-- The device may issue memory requests: the link is up, Bus Master Enable is 1 (R390), and the host DMA engine retires no IDs (R606). (DEDUCED, log 63.) -/
def State.hostMem (s : State) : Bool := s.hif.link && s.flag HIF_STATUS_BME && decide (s.reg MTX_STATUS_RETIRING / 32 = 0)

/-- The device may fetch, and write to host memory, now: `HIF_CTRL.EN` is 1 too (R393). (DEDUCED, log 95.) -/
def State.hostOut (s : State) : Bool := s.hostMem && s.flag HIF_CTRL_EN

/-- Reads of lines and descriptors that have not returned: non-posted requests, of which at most 512 are outstanding (R388). -/
def State.outstanding (s : State) : Nat :=
  (s.hif.rings.map (fun p => p.2.fetching + p.2.stale)).sum + (s.hif.lines.filter (fun p => decide (p.2 ≠ .idle ∧ p.2 ≠ .pending))).length

/-- One more line or descriptor may be read. -/
def State.mayRequest (s : State) : Bool := s.hostOut && decide (s.outstanding < Config.maxNonPosted)

/-- The buffer of a command that has been fetched may be read: `HIF_CTRL.EN` does not hold it (R393). -/
def State.mayRead (s : State) : Bool := s.hostMem && decide (s.outstanding < Config.maxNonPosted)

/-- The 12-byte DT of R410. -/
def dt12 (d : DtField) : List Byte := leBytes 6 d.sec ++ leBytes 4 d.ns ++ leBytes 2 d.frac

/-- Pad with zeros to `n` bytes. -/
def padTo (n : Nat) (b : List Byte) : List Byte := (b ++ List.replicate n 0).take n

/-! ### Interrupts (R420) -/

/-- The vector of what is held. -/
def State.vectorOf (s : State) : Due → Nat
  | .cpl r _ _ _ _ _ _ => (s.ring r).vector
  | .recv r _ _ _ => (s.ring r).vector
  | .evt _ => s.reg HIF_EVT_CFG_VECTOR
  | .data _ _ _ => 0xFFFF

/-- Signal a vector: the message is sent, or its pending bit is set while it may not be sent; no message goes before an entry that it
signals is written (R420). (DESIGN CHOICE, log 83.) -/
def State.signal (s : State) (v : Nat) : State :=
  if v = 0xFFFF then s
  else if s.flag HIF_STATUS_BME && s.flag HIF_STATUS_MSIX_EN && decide (v ∈ s.hif.unmasked) && !s.hif.due.any (fun d => decide (s.vectorOf d = v))
  then ({ s with hif := { s.hif with pba := s.hif.pba.erase v } }).send (.msix v)
  else { s with hif := { s.hif with pba := if v ∈ s.hif.pba then s.hif.pba else v :: s.hif.pba } }

/-- The pending bit of vector v is set: an entry for it is held (R390). -/
def State.pendVector (s : State) (v : Nat) : State :=
  if v = 0xFFFF then s else { s with hif := { s.hif with pba := if v ∈ s.hif.pba then s.hif.pba else v :: s.hif.pba } }

/-- What falls due for vector v while the device may not write is held, in order (R390, R393). -/
def State.holdDue (s : State) (v : Nat) (d : Due) : State := ({ s with hif := { s.hif with due := s.hif.due ++ [d] } }).pendVector v

/-- One more entry in ring r: the signal is due at `COAL_CNT` entries or when the command asks for it. -/
def State.moderate (s : State) (r : Nat) (now : Bool) : State :=
  let g := s.ring r
  if now || decide (g.coalCnt ≤ g.unsig + 1) then (s.setRing r { g with unsig := 0 }).signal g.vector
  else s.setRing r { g with unsig := g.unsig + 1, sigFrom := if g.unsig = 0 then s.tick else g.sigFrom }

/-- The same for the event ring. -/
def State.moderateEvt (s : State) : State :=
  let h := s.hif
  if s.reg HIF_EVT_COAL_COAL_CNT ≤ h.evtUnsig + 1 then
    ({ s with hif := { h with evtUnsig := 0 } }).signal (s.reg HIF_EVT_CFG_VECTOR)
  else { s with hif := { h with evtUnsig := h.evtUnsig + 1, evtSigFrom := if h.evtUnsig = 0 then s.tick else h.evtSigFrom } }

/-! ### Completions (R405, R415, R416) -/

/-- `PHASE` of the entry at producer index p in a ring of 2^n. -/
def phaseOf (n p : Nat) : Nat := if p / 2 ^ n % 2 = 0 then 1 else 0

/-- Put an entry into the completion ring of r. -/
def State.putCpl (s : State) (r cmdId status detail kind : Nat) (final : Bool) (result : List Byte) : State :=
  let g := s.ring r
  let bytes := leBytes 2 cmdId ++ leBytes 2 g.cmdCi ++ leBytes 1 status ++ leBytes 1 detail ++ leBytes 1 kind ++
    leBytes 1 (phaseOf g.cplLog2 g.cplPi + 2 * b2n final) ++ padTo 24 result
  let slot := g.cplPi % 2 ^ g.cplLog2
  (s.setRing r { g with cplPi := (g.cplPi + 1) % 65536 }).send (.completion r slot (g.cplBase + 32 * slot) bytes)

/-! ### Rings in error (R400, R421) -/

/-- Rings in error, ring pair 0 included. -/
def State.errRings (s : State) : Nat := (s.hif.rings.filter (fun p => decide (p.2.st = 2))).length

/-- The cause of source 698 follows the rings (R536). -/
def State.ringCause (s : State) : State :=
  (s.setReg HIF_STATUS_N_ERR_RINGS 0 (min 65535 s.errRings)).setCause 698 (decide (s.errRings ≠ 0))

/-- Ring r enters error `e` (R400). -/
def State.ringError (s : State) (r e : Nat) : State :=
  let s := s.modRing r (fun g => { g with st := 2, err := e, stale := g.stale + g.fetching, fetching := 0, bufs := [] })
  let s := if r = 0 then s.setFlag HIF_ADM_CFG_ERR 0 true else s
  (s.inc HIF_CNT1_RING_ERR).ringCause.raise 698

/-- A host memory access fails (R396, R421). -/
def State.dmaError (s : State) : State := (s.inc HIF_CNT2_DMA_ERR).raise 699

/-- A write into memory of ring r fails: a completion, a received frame or its completion (R400). (DEDUCED, log 147.) -/
def State.writeFailed (s : State) (r : Nat) : State := s.dmaError.ringError r 4

/-- Write a completion of command `cmdId` of ring r; one that fails in host memory puts the ring in error (R400). -/
def State.writeCpl (s : State) (r cmdId status detail kind : Nat) (final : Bool) (result : List Byte) : State :=
  let g := s.ring r
  let c := g.cmds.find? (fun c => decide (c.cmdId = cmdId))
  let firstDone := match c with
    | some c => c.first
    | none => false
  let irq := match c with
    | some c => c.irq && final
    | none => false
  let less := 1 + b2n (final && !firstDone)
  if c.any (fun c => !c.cplOk) then (s.writeFailed r).inc HIF_CNT1_ORPHANS
  else
  let s := s.putCpl r cmdId status detail kind final result
  let s := s.modRing r (fun g => { g with
    owed := g.owed - less
    cmds := match c with
      | some c => if final then g.cmds.erase c else g.cmds.map (fun d => if d = c then { d with first := true } else d)
      | none => g.cmds })
  s.moderate r irq

/-- The ring number of what no ring is owed any more (R389, R399). -/
abbrev noRing : Nat := 65536

/-- A completion falls due: dropped with its ring disabled or in error (R389, R399, R400), held while the device may not write
(R390, R393), written otherwise. -/
def State.postCpl (s : State) (r cmdId status detail kind : Nat) (final : Bool) (result : List Byte) : State :=
  if r = noRing ∨ (s.ring r).st ≠ 1 then s.inc HIF_CNT1_ORPHANS
  else if s.hostOut then s.writeCpl r cmdId status detail kind final result
  else s.holdDue (s.ring r).vector (.cpl r cmdId status detail kind final result)

/-- Data of a TELEMETRY_READ falls due at a host address (R390, R413). -/
def State.postData (s : State) (r addr : Nat) (bytes : List Byte) : State :=
  if r = noRing ∨ (s.ring r).st ≠ 1 then s
  else if s.hostOut then s.send (.hostWrite r addr bytes)
  else { s with hif := { s.hif with due := s.hif.due ++ [.data r addr bytes] } }

/-! ### Receive rings (R355, R417) -/

/-- Write a frame into the oldest posted buffer and its receive completion; a write that fails puts the ring in error. -/
def State.writeRecv (s : State) (r status : Nat) (result frame : List Byte) : State :=
  match (s.ring r).bufs with
  | [] => s
  | b :: rest =>
    if !b.takes then s.writeFailed r
    else
      let s := (s.modRing r (fun g => { g with bufs := rest, owed := g.owed - 2 })).send (.received r b.id b.addr frame)
      (s.putCpl r b.id status 0 0x41 true result).moderate r false

/-- The destination can take a frame: an enabled receive ring with a posted buffer that no held frame has taken. -/
def State.recvRoom (s : State) (r : Nat) : Bool :=
  let g := s.ring r
  let held := s.hif.due.filter (fun d => match d with
    | .recv q _ _ _ => decide (q = r)
    | _ => false)
  decide (g.st = 1) && g.recv && decide (held.length < g.bufs.length)

/-- Ring r has room again: the condition of source 637 ends with the last full destination (R355, R536). -/
def State.copyRoom (s : State) (r : Nat) : State :=
  if r ∈ s.cpx.full then
    let l := s.cpx.full.erase r
    ({ s with cpx := { s.cpx with full := l } }).setCause 637 (!l.isEmpty)
  else s

/-- Copy a frame to ring r that has room. -/
def State.postRecv (s : State) (r status : Nat) (result frame : List Byte) : State :=
  if s.hostOut then s.writeRecv r status result frame
  else s.holdDue (s.ring r).vector (.recv r status result frame)

/-! ### The event ring (R418, R419) -/

def State.evtRoom (s : State) : Bool :=
  s.flag HIF_EVT_CFG_EN && decide ((s.hif.evtPi + 65536 - s.hif.evtCi) % 65536 < 2 ^ s.reg HIF_EVT_CFG_LOG2)

/-- The base of the event ring. -/
def State.evtBase (s : State) : Nat := s.reg HIF_EVT_LO_EVT_BASE + 2 ^ 32 * s.reg HIF_EVT_HI_EVT_BASE

/-- Put an entry of 32 bytes, its `PHASE` set, into the event ring. One that fails in host memory counts and is gone, its slot used
(R421). (DEDUCED, log 147.) -/
def State.putEvt (s : State) (entry : List Byte) : State :=
  let n := s.reg HIF_EVT_CFG_LOG2
  let p := s.hif.evtPi
  let b := entry.set 3 (BitVec.ofNat 8 (u8 entry 3 / 2 * 2 + phaseOf n p))
  let s := { s with hif := { s.hif with evtPi := (p + 1) % 65536 } }
  if s.hif.evtBad then s.dmaError
  else (s.send (.event (p % 2 ^ n) (s.evtBase + 32 * (p % 2 ^ n)) b)).moderateEvt

/-- The marker of R419. -/
def overflowEntry (lost : Nat) : List Byte := padTo 32 (leBytes 3 0 ++ leBytes 1 2 ++ leBytes 4 lost)

/-- Write an event entry; one that finds the ring full or disabled is lost and counted, and the ring's first room after a loss takes
the marker first. -/
def State.writeEvt (s : State) (entry : List Byte) : State :=
  let lose (s : State) : State :=
    ({ s with hif := { s.hif with evtLost := s.hif.evtLost + 1 } }).inc HIF_CNT2_EVT_LOST
  if !s.evtRoom then lose s
  else
    let s := if s.hif.evtLost = 0 then s
      else (({ s with hif := { s.hif with evtLost := 0 } }).putEvt (overflowEntry s.hif.evtLost))
    if s.evtRoom then s.putEvt entry else lose s

/-- Deliver an event to host software. -/
def State.postEvt (s : State) (entry : List Byte) : State :=
  if s.hostOut then s.writeEvt entry
  else if s.flag HIF_EVT_CFG_EN then s.holdDue (s.reg HIF_EVT_CFG_VECTOR) (.evt entry)
  else s.writeEvt entry

/-! ### What was held (R390, R393) -/

def State.doDue (s : State) : Due → State
  | .cpl r i st d k f b => if (s.ring r).st ≠ 1 then s.inc HIF_CNT1_ORPHANS else s.writeCpl r i st d k f b
  | .recv r st b f => if (s.ring r).st ≠ 1 then s.inc HIF_CNT1_ORPHANS else s.writeRecv r st b f
  | .data r a b => if (s.ring r).st ≠ 1 then s else s.send (.hostWrite r a b)
  | .evt e => s.writeEvt e

/-- Host memory can be written again: everything held goes out in order, then the pending vectors. -/
def State.flushDue (s : State) : State :=
  if s.hostOut then
    let l := s.hif.due
    let s := l.foldl State.doDue { s with hif := { s.hif with due := [] } }
    let p := s.hif.pba.reverse
    p.foldl State.signal { s with hif := { s.hif with pba := [] } }
  else s

/-! ### Rings that stop (R399) -/

/-- A source whose ring is one of those of p is owed nothing any more. -/
def Src.orphaned (p : Nat → Bool) : Src → Src
  | .host r i k => .host (if p r then noRing else r) i k
  | x => x

def HostCmd.orphaned (p : Nat → Bool) (c : HostCmd) : HostCmd := { c with orphan := c.orphan || p c.ring }

def Work.orphaned (p : Nat → Bool) : Work → Work
  | .inject a ch period => .inject (a.orphaned p) ch period
  | w => w

def ClsOp.orphaned (p : Nat → Bool) : ClsOp → ClsOp
  | .protos es a => .protos es (a.orphaned p)
  | .acts es a => .acts es (a.orphaned p)
  | .commit a => .commit (a.orphaned p)

def Load.orphaned (p : Nat → Bool) (l : Load) : Load := { l with src := l.src.orphaned p, cmd := l.cmd.orphaned p }

def Txn.orphaned (p : Nat → Bool) (t : Txn) : Txn := { t with stageSrc := t.stageSrc.orphaned p, reportSrc := t.reportSrc.orphaned p }

def Tile.orphaned (p : Nat → Bool) (tl : Tile) : Tile := { tl with sweep := tl.sweep.map (fun w => { w with src := w.src.orphaned p }) }

def Conv.orphaned (p : Nat → Bool) (c : Conv) : Conv := { c with work := c.work.orphaned p, queue := c.queue.map (Work.orphaned p) }

/-- A function over the entries of a table. -/
def mapTab {α : Type} (f : α → α) (t : Tab α) : Tab α := t.map (fun (p : Nat × α) => (p.1, f p.2))

/-- Commands that run on for the rings of p owe them nothing any more: what falls due is dropped and counted (R389, R399). -/
def State.orphanCmds (s : State) (p : Nat → Bool) : State :=
  { s with
    tiles := mapTab (Tile.orphaned p) s.tiles
    swaps := s.swaps.map (fun w => { w with src := w.src.orphaned p })
    txn := { s.txn with slots := mapTab (Txn.orphaned p) s.txn.slots, loads := s.txn.loads.map (Load.orphaned p) }
    cal := { s.cal with lists := mapTab (fun l => { l with stopSrc := l.stopSrc.orphaned p }) s.cal.lists }
    adm := { s.adm with reqs := s.adm.reqs.map (fun r => { r with src := r.src.orphaned p })
                        tenantSrc := s.adm.tenantSrc.map (Src.orphaned p), profileSrc := s.adm.profileSrc.map (Src.orphaned p) }
    hif := { s.hif with closing := s.hif.closing.map (fun c => (c.1.orphaned p, c.2)) }
    cpx := { s.cpx with waitq := s.cpx.waitq.map (ClsOp.orphaned p) }
    twn := { s.twn with heldCmds := s.twn.heldCmds.map (fun c => (c.1, c.2.orphaned p)), switch := s.twn.switch.map (fun w => (w.1, w.2.1.orphaned p, w.2.2)) }
    tmu := { s.tmu with step := s.tmu.step.map (fun st => { st with src := st.src.orphaned p }) }
    kln := { s.kln with convs := mapTab (Conv.orphaned p) s.kln.convs } }

/-- Commands of the ring that have been fetched and have not started. -/
def Ring.waiting (g : Ring) : List (List Byte) := (g.cmds.filter (fun c => !c.started)).map Cmd.desc

/-- What is held of ring r. -/
def Due.ofRing (r : Nat) : Due → Bool
  | .cpl q _ _ _ _ _ _ => decide (q = r)
  | .recv q _ _ _ => decide (q = r)
  | .data q _ _ => decide (q = r)
  | .evt _ => false

/-- Dropping it counts in `ORPHANS`: a completion or an event (R389). -/
def Due.counts : Due → Bool
  | .data _ _ _ => false
  | _ => true

/-- Commands of ring r that still owe a completion keep running; what they owe is dropped when it falls due. -/
def State.disableRing (s : State) (r : Nat) : State :=
  let held := s.hif.due.filter (fun d => d.ofRing r && d.counts)
  let s := { s with hif := { s.hif with due := s.hif.due.filter (fun d => !d.ofRing r) } }
  let s := s.modRing r (fun g => { g with st := 0, err := 0, stale := g.stale + g.fetching, fetching := 0, bufs := [], cmds := [], orphans := g.orphans ++ g.waiting,
                                           unsig := 0 })
  (s.orphanCmds (fun q => decide (q = r))).count HIF_CNT1_ORPHANS 0 held.length

/-! ### Commands of a ring (R407, R408) -/

def HostCmd.kind (c : HostCmd) : Nat := u8 c.desc 0
def HostCmd.cmdId (c : HostCmd) : Nat := le16 c.desc 2
def HostCmd.order (c : HostCmd) : Bool := decide (u8 c.desc 1 % 2 = 1)
def HostCmd.irq (c : HostCmd) : Bool := bit (u8 c.desc 1) 1
def HostCmd.src (c : HostCmd) : Src := .host (if c.orphan then noRing else c.ring) c.cmdId c.kind

/-- Store of R444 that a command writes; 0 for none. -/
def HostCmd.store (c : HostCmd) : Nat :=
  let table (t : Nat) : Nat :=
    if t = 0x01 ∨ t = 0x02 ∨ t = 0x03 then 3 else if t = 0x10 ∨ t = 0x11 then 4 else if t = 0x20 ∨ t = 0x21 then 5
    else if t = 0x30 ∨ t = 0x31 then 6 else 0
  match c.kind with
  | 0x01 => if u8 c.desc 20 = 1 then 1 else if u8 c.desc 20 = 2 then 2 else if u8 c.desc 20 = 3 then 3 else 0
  | 0x05 => 3
  | 0x07 => 3
  | 0x08 => table (u8 c.desc 20)
  | 0x09 => table (u8 c.desc 8)
  | 0x0A => 7
  | _ => 0

/-- The descriptor of the command that starts next: the first of those fetched that have not started (R407). -/
def Ring.head (g : Ring) : Option (List Byte) :=
  match g.orphans with
  | d :: _ => some d
  | [] => (g.cmds.find? (fun c => !c.started)).map Cmd.desc

/-- The kind reads a buffer of host memory (R410): OBJECT_LOAD but for a release, CAL_LOAD and TABLE_WRITE. -/
def HostCmd.reads (c : HostCmd) : Bool := (decide (c.kind = 1) || decide (c.kind = 5) || decide (c.kind = 8)) && decide (le32 c.desc 16 ≠ 0)

/-- R407: a command starts as the next of its ring; with `ORDER` = 1 not while an earlier command has not written its first completion, and
not before the buffer that it needs may be read (R388, R390). (DEDUCED, log 97.) -/
def State.mayStart (s : State) (c : HostCmd) : Bool :=
  let g := s.ring c.ring
  decide (g.head = some c.desc) && (!c.order || c.orphan || (g.cmds.takeWhile Cmd.started).all Cmd.first) && (!c.reads || s.mayRead)

end Sys2Proof.Machine
end

