-- ==== Sys2Proof/Machine/Parser.lean ====
section
/-! DEFINITION. The parser of the control ports: the walk over a frame's headers, MALFORMED and PARSE_DEEP, checksums, and the parse
key (R344, R348 to R350). -/

namespace Sys2Proof.Machine

/-- What the walk over the headers has found. Offsets are into the frame without its FCS. -/
structure Parsed where
  /-- Headers examined. -/
  n : Nat := 0
  deep : Bool := false
  ntags : Nat := 0
  /-- Outer, then inner tag control field. -/
  tags : Nat := 0
  vid : Nat := 0
  etype : Nat := 0
  /-- Offset of the L2 payload. -/
  l3off : Nat := 0
  l3 : Nat := 0
  nxt : Nat := 0
  frag : Bool := false
  /-- A fragment other than the first: no UDP header follows. -/
  later : Bool := false
  exthdr : Bool := false
  malformed : Bool := false
  /-- Source and destination IP addresses; IPv4 as a 32-bit number. -/
  src : Nat := 0
  dst : Nat := 0
  /-- IP payload that is left after the headers so far. -/
  left : Nat := 0
  /-- Offsets of the end of the L3 headers, of the UDP header and of the GCRP header. -/
  l3end : Nat := 0
  udp : Option Nat := none
  gcrp : Option Nat := none
  sport : Nat := 0
  dport : Nat := 0
  deriving DecidableEq, Repr

/-- Examine a header of `len` bytes at `o` (R348): a ninth header, or one that ends beyond byte 192, makes the frame PARSE_DEEP. -/
def Parsed.examine (p : Parsed) (o len : Nat) : Parsed := if 8 ≤ p.n ∨ 192 < o + len then { p with deep := true } else { p with n := p.n + 1 }

def Parsed.bad (p : Parsed) (b : Bool) : Parsed := { p with malformed := p.malformed || b }

/-- VLAN tags from the type field at `o`, and the EtherType (R344). -/
def parseTags (f : List Byte) : Nat → Nat → Parsed → Parsed
  | 0, _, p => p
  | k + 1, o, p =>
    let t := be16 f o
    if t = 0x8100 ∨ (t = 0x88A8 ∧ p.ntags = 0) then
      if p.ntags = 2 then { p with ntags := 3, deep := true }
      else
        let p := p.examine (o + 2) 4
        if p.deep then p
        else
          let tci := be16 f (o + 2)
          parseTags f k (o + 4) { p with ntags := p.ntags + 1, tags := if p.ntags = 0 then tci * 65536 else p.tags + tci, vid := tci % 4096 }
    else { p with etype := t, l3off := o + 2 }

/-- GCRP header after the UDP header at `o` (R349). -/
def parseGcrp (f : List Byte) (gport o : Nat) (p : Parsed) : Parsed :=
  if p.dport ≠ gport then p
  else
    let p := p.examine (o + 8) 24
    if p.deep then p
    else ({ p with gcrp := some (o + 8) }).bad (decide (be16 f (o + 4) < 32) || decide (be16 f (o + 20) + 8 ≠ be16 f (o + 4)))

/-- UDP header at `o`, when the walk goes on to one (R349). -/
def parseUdp (f : List Byte) (gport : Nat) (p : Parsed) : Parsed :=
  let o := p.l3end
  if p.nxt ≠ 17 || p.later || p.deep then p
  else
    let p := p.examine o 8
    if p.deep then p
    else
      let len := be16 f (o + 4)
      parseGcrp f gport o (({ p with udp := some o, sport := be16 f o, dport := be16 f (o + 2) }).bad (decide (len < 8) || decide (len ≠ p.left)))

/-- The L2 payload contradicts a length of `n` bytes: too long, or short beyond Ethernet's padding (R349). -/
def lenBad (f : List Byte) (o n : Nat) : Bool := decide (f.length - o < n) || (decide (n < f.length - o) && decide (46 < f.length - o))

/-- IPv4 header at `o`. The walk stops after one whose IHL is below 5. (DESIGN CHOICE, log 40.) -/
def parseV4 (f : List Byte) (gport o : Nat) (p : Parsed) : Parsed :=
  let hl := 4 * (u8 f o % 16)
  let p := p.examine o (max 20 hl)
  if p.deep then p
  else
    let tot := be16 f (o + 2)
    let fr := be16 f (o + 6)
    let p := ({ p with l3 := 1, nxt := u8 f (o + 9), frag := decide (fr % 16384 ≠ 0), later := decide (fr % 8192 ≠ 0), exthdr := decide (20 < hl),
                       src := be32 f (o + 12), dst := be32 f (o + 16), left := tot - hl, l3end := o + max 20 hl }).bad
      (decide (hl < 20) || decide (tot < hl) || lenBad f o tot)
    if hl < 20 then p else parseUdp f gport p

/-- IPv6 extension headers (R348). -/
def parseExt (f : List Byte) : Nat → Parsed → Parsed
  | 0, p => p
  | k + 1, p =>
    let o := p.l3end
    if p.later || !decide (p.nxt ∈ [0, 43, 44, 60]) then p
    else
      let len := if p.nxt = 44 then 8 else 8 * (u8 f (o + 1) + 1)
      let p' := p.examine o len
      if p'.deep then p'
      else parseExt f k { p' with
        exthdr := true, frag := p.frag || decide (p.nxt = 44), later := decide (p.nxt = 44) && decide (8 ≤ be16 f (o + 2))
        nxt := u8 f o, left := p.left - len, l3end := o + len }

/-- IPv6 header at `o`. (DESIGN CHOICE, log 40.) -/
def parseV6 (f : List Byte) (gport o : Nat) (p : Parsed) : Parsed :=
  let p := p.examine o 40
  if p.deep then p
  else
    let len := be16 f (o + 4)
    let p := ({ p with l3 := 2, nxt := u8 f (o + 6), src := be64 f (o + 8) * 2 ^ 64 + be64 f (o + 16),
                       dst := be64 f (o + 24) * 2 ^ 64 + be64 f (o + 32), left := len, l3end := o + 40 }).bad
      (lenBad f o (40 + len) || decide (len = 0))
    let p := parseExt f 9 p
    if p.deep then p else parseUdp f gport p

/-- Walk the headers of a frame without its FCS. An IP EtherType whose version field is another makes the network layer "other". -/
def parseFrame (f : List Byte) (gport : Nat) : Parsed :=
  let p := parseTags f 4 12 (({} : Parsed).examine 0 14)
  if p.deep then p
  else
    let v := u8 f p.l3off / 16
    if p.etype = 0x0800 then (if v = 4 then parseV4 f gport p.l3off p else { p with l3 := 3 })
    else if p.etype = 0x86DD then (if v = 6 then parseV6 f gport p.l3off p else { p with l3 := 3 })
    else p

/-! ### Checksums (R349, R216) -/

/-- Sum of the 16-bit words of a byte string, an odd last byte padded with zero. -/
def sum16 : List Byte → Nat
  | a :: b :: l => 256 * a.toNat + b.toNat + sum16 l
  | [a] => 256 * a.toNat
  | [] => 0

/-- Fold the carries of a ones' complement sum. -/
def foldSum (x : Nat) : Nat :=
  let y := x / 65536 + x % 65536
  y / 65536 + y % 65536

/-- Sum over the UDP pseudo header and datagram. -/
def Parsed.udpSum (p : Parsed) (f : List Byte) (o : Nat) : Nat :=
  let len := be16 f (o + 4)
  let addr := if p.l3 = 1 then beBytes 4 p.src ++ beBytes 4 p.dst else beBytes 16 p.src ++ beBytes 16 p.dst
  foldSum (sum16 addr + 17 + len + sum16 ((f.drop o).take len))

/-- The IPv4 header checksum or the UDP checksum fails; an IPv4 UDP checksum of 0 is accepted. A fragment's UDP checksum is not checked. (DESIGN CHOICE, log 40.) -/
def Parsed.csumBad (p : Parsed) (f : List Byte) : Bool :=
  (decide (p.l3 = 1) && decide (foldSum (sum16 ((f.drop p.l3off).take (p.l3end - p.l3off))) ≠ 0xFFFF)) ||
  (match p.udp with
   | some o =>
     if p.frag || (decide (p.l3 = 1) && decide (be16 f (o + 6) = 0)) then false
     else decide (be16 f (o + 6) = 0) || decide (p.udpSum f o ≠ 0xFFFF)
   | none => false)

/-- The checksum `c` after a change of the covered words from sum `m` to sum `m'` (RFC 1624); 0 is sent as 0xFFFF. -/
def csumUpdate (c m m' : Nat) : Nat :=
  let x := 65535 - foldSum (foldSum ((65535 - c) + (65535 - foldSum m) + foldSum m'))
  if x = 0 then 65535 else x

/-! ### The parse key (R350) -/

/-- What the port knows of itself: its MAC, IPv4 and IPv6 addresses. -/
structure PortId where
  mac : Nat
  v4 : Nat
  v6 : Nat
  deriving DecidableEq, Repr

def be48 (f : List Byte) (o : Nat) : Nat := be16 f o * 2 ^ 32 + be32 f (o + 2)

/-- Is the destination IP address the port's own? -/
def Parsed.own (p : Parsed) (q : PortId) : Bool :=
  (decide (p.l3 = 1) && decide (q.v4 ≠ 0) && decide (p.dst = q.v4)) || (decide (p.l3 = 2) && decide (q.v6 ≠ 0) && decide (p.dst = q.v6))

/-- Is it multicast, or IPv4 broadcast? -/
def Parsed.group (p : Parsed) : Bool :=
  (decide (p.l3 = 1) && (decide (p.dst / 2 ^ 28 = 14) || decide (p.dst = 0xFFFFFFFF))) || (decide (p.l3 = 2) && decide (p.dst / 2 ^ 120 = 255))

/-- First 4 bytes after UDP, after the L3 header, or after the EtherType. -/
def Parsed.payload (p : Parsed) (f : List Byte) : Nat :=
  match p.udp with
  | some o => be32 f (o + 8)
  | none => if p.deep || decide (p.l3 = 3) then 0 else if p.l3 = 0 then be32 f p.l3off else be32 f p.l3end

/-- The 128-bit parse key of a frame on port n. -/
def Parsed.key (p : Parsed) (f : List Byte) (n : Nat) (q : PortId) : Nat :=
  n + 2 * p.ntags + 2 ^ 3 * p.vid + 2 ^ 15 * p.etype + 2 ^ 31 * p.l3 + 2 ^ 33 * p.nxt + 2 ^ 41 * p.sport + 2 ^ 57 * p.dport +
  2 ^ 73 * b2n (decide (be48 f 0 = q.mac)) + 2 ^ 74 * (u8 f 0 % 2) + 2 ^ 75 * b2n (p.own q) + 2 ^ 76 * b2n p.group + 2 ^ 77 * b2n p.frag +
  2 ^ 78 * b2n p.exthdr + 2 ^ 79 * b2n p.malformed + 2 ^ 80 * b2n p.deep + 2 ^ 81 * p.payload f

/-- Source address in the form of R370. -/
def Parsed.srcAddr (p : Parsed) : Nat := if p.l3 = 1 then 0xFFFF * 2 ^ 32 + p.src else p.src

/-- Offset of the PTP header that the parser reached (R199); none for other frames. -/
def Parsed.ptp (p : Parsed) : Option Nat :=
  if p.l3 = 0 ∧ p.etype = 0x88F7 then some p.l3off
  else match p.udp with
    | some o => if p.dport = 319 ∨ p.dport = 320 then some (o + 8) else none
    | none => none

end Sys2Proof.Machine
end

