-- ==== Sys2Proof/Machine/Reply.lean ====
section
/-! DEFINITION. What the device sends to its twin and to partners, and the reply to whoever asked (chapters 10 and 12). -/

namespace Sys2Proof.Machine

open Reg

/-! ### The twin link (R429, R430, R433, R434, R439) -/

/-- A frame with its FCS. -/
def withFcs (f : List Byte) : List Byte := f ++ leBytes 4 (crc32 f)

/-- A frame without its FCS. -/
def noFcs (b : List Byte) : List Byte := b.take (b.length - 4)

/-- Ticks that a frame of `len` bytes takes at 25 Gb/s with its preamble and gap. (PRESUMED, log 128.) -/
def frameTicks (len : Nat) : Nat := ((max 64 len + 20) * 4096 + 9999) / 10000

/-- A frame of TL (R428): addresses that carry the straps of receiver and sender, EtherType, message and FCS. -/
def State.tlBytes (s : State) (m : List Byte) : List Byte :=
  let own := s.reg KFI_STATUS_PORT_STRAP
  let p := if m.length < 46 then padTo 46 m else m
  withFcs (beBytes 6 (0x025A4B000000 + (1 - own)) ++ beBytes 6 (0x025A4B000000 + own) ++ beBytes 2 0x88B5 ++ p)

/-- Priority of a message type (R430). -/
def tlPrio (type : Nat) : Nat := if type ≤ 2 then 1 else if type ≤ 5 then 2 else if type = 6 then 3 else 4

/-- The frame that TL sends when it is next free, and when: of those that wait by then the first of the highest priority (R430). -/
def State.nextTl (s : State) : Option (TlOut × Nat) :=
  match s.twn.txq with
  | [] => none
  | o :: r =>
    let start := max s.twn.txBusy (r.foldl (fun m o => min m o.since) o.since)
    let best (a b : TlOut) : TlOut := if start < a.since ∨ (b.since ≤ start ∧ b.prio < a.prio) then b else a
    some (r.foldl best o, start)

/-- A frame starts at tick `start`, and takes its `TL_SEQ` (R429). -/
def State.leaveTl (s : State) (o : TlOut) (start : Nat) : State :=
  let n := s.twn.txSeq
  let hdr := leBytes 1 1 ++ leBytes 1 o.type ++ beBytes 2 (16 + o.body.length) ++ beBytes 8 n ++ leBytes 4 0
  let f := s.tlBytes (hdr ++ o.body)
  ({ s with twn := { s.twn with txq := s.twn.txq.erase o, txSeq := n + 1, txBusy := start + frameTicks f.length
                                syncSeq := if o.type = 8 then n + 1 else s.twn.syncSeq } }).send (.tl f)

/-- What TL has sent up to now, at most k frames of it. (DESIGN CHOICE, log 122.) -/
def State.tlRun : Nat → State → State
  | 0, s => s
  | k + 1, s =>
    if !s.flag TWN_STATUS_TL_UP || s.pins.txOff then s
    else match s.nextTl with
      | some (o, start) => if start ≤ s.tick then State.tlRun k (s.leaveTl o start) else s
      | none => s

def State.tlGo (s : State) : State := State.tlRun s.twn.txq.length s

/-- Send a TL message of a type: it leaves at once when TL is free. -/
def State.sendTl (s : State) (type : Nat) (body : List Byte) : State :=
  if !s.flag TWN_STATUS_TL_UP || s.pins.txOff then s
  else
    let s := s.tlGo
    let o : TlOut := { prio := tlPrio type, since := s.tick, type := type, body := body }
    ({ s with twn := { s.twn with txq := s.twn.txq ++ [o] } }).tlGo

/-- A DT as TL messages carry it: 48 bits of seconds, then nanoseconds (R432). -/
def dt10 (d : DtField) : List Byte := beBytes 6 d.sec ++ beBytes 4 d.ns

/-- The data in fragments of at most 1,984 bytes; at least one fragment. -/
def fragments : Nat → List Byte → List (List Byte)
  | 0, _ => []
  | n + 1, b => if b.length ≤ 1984 then [b] else b.take 1984 :: fragments n (b.drop 1984)

/-- Forward a command (R433, R439). (DESIGN CHOICE, log 50.) -/
def State.forwardCmd (s : State) (origin flags handle : Nat) (data : List Byte) : State :=
  if !s.forwards then s
  else
    let fs := fragments (data.length / 1984 + 1) data
    let n := s.twn.cmdNum
    let store := if origin = 1 then ({ ring := 0, desc := data.take 64 } : HostCmd).store else 7
    let s := { s with twn := { s.twn with cmdNum := n + 1, lastOf := s.twn.lastOf.write 0 store (n + 1) } }
    (fs.zipIdx).foldl (fun s (f, i) =>
      s.sendTl 4 (leBytes 1 origin ++ leBytes 1 flags ++ beBytes 2 handle ++ beBytes 4 n ++ beBytes 2 i ++ beBytes 2 (fs.length - 1) ++
        beBytes 4 data.length ++ f)) s

/-- Forward a host command: its descriptor and the bytes of its buffer. -/
def State.forwardHost (s : State) (handle : Nat) (c : HostCmd) : State := s.forwardCmd 1 0 handle (c.desc ++ c.data)

/-- Send a TXN_NOTE (R434). -/
def State.note (s : State) (handle kind status : Nat) (commit : Option Nat) (nLate firstLate list entry cycle : Nat) : State :=
  if !s.forwards then s
  else s.sendTl 3 (beBytes 2 handle ++ leBytes 1 kind ++ leBytes 1 status ++
    (match commit with
     | some c => dt10 (dtOf c)
     | none => leBytes 10 0) ++
    beBytes 2 nLate ++ beBytes 2 firstLate ++ leBytes 1 list ++ leBytes 1 0 ++ beBytes 4 entry ++ beBytes 4 cycle ++ leBytes 4 0)

/-- The state of the standby and the active's differ, or is lost: the standby must be synchronised again, and the store that it was
receiving ends (R431, R440, R458). -/
def State.needSync (s : State) : State :=
  let s := ((s.setFlag TWN_STATUS_SYNCED 0 false).setFlag TWN_SYNC_NEED_SYNC 0 true).setReg TWN_SYNC_STORE 0 0
  let s := { s with twn := { s.twn with got := [], image := [], kept := [], round := none } }
  s.raise 750

/-- R440: the outcome of a forwarded command differs. -/
def State.diverge (s : State) : State := ((s.inc TWN_CNT2_DIVERGE).raise 751).needSync

/-! ### Messages to partners (R346, R362, R366 to R368) -/

def State.sess (s : State) (i : Nat) : Sess := s.cpx.sessions.read {} i
def State.setSess (s : State) (i : Nat) (v : Sess) : State :=
  { s with cpx := { s.cpx with sessions := s.cpx.sessions.write {} i v } }

/-- The record is valid and not in quarantine. -/
def Sess.isOpen (x : Sess) : Bool := x.valid && !x.quar

/-- An egress drop of port n (R346, R379). -/
def State.txDrop (s : State) (n : Nat) : State :=
  let s := s.inc CP_CNT_DROP_TX_DROP n
  if n ∈ s.cpx.dropRaised then s
  else ({ s with cpx := { s.cpx with dropRaised := n :: s.cpx.dropRaised } }).raise (640 + n)

/-! ### Egress (R346) -/

def State.portUp (s : State) (n : Nat) : Bool := s.flag CP_STATUS_UP n

/-- The addresses of port n. -/
def State.portId (s : State) (n : Nat) : PortId :=
  { mac := s.reg CP_MAC_HI_MAC_HI n * 2 ^ 32 + s.reg CP_MAC_LO_MAC_LO n, v4 := s.reg CP_IPV4_IPV4 n
    v6 := s.reg CP_IPV6_0_IPV6 n * 2 ^ 96 + s.reg CP_IPV6_1_IPV6 n * 2 ^ 64 + s.reg CP_IPV6_2_IPV6 n * 2 ^ 32 + s.reg CP_IPV6_3_IPV6 n }

/-- The frame that port n sends when it is next free, and when: of those that wait by then the first of the lowest class. -/
def State.nextOut (s : State) (n : Nat) : Option (OutFrame × Nat) :=
  match s.cpx.egress.filter (fun o => decide (o.port = n)) with
  | [] => none
  | o :: r =>
    let start := max (s.cpx.busy.read 0 n) (r.foldl (fun m o => min m o.since) o.since)
    let best (a b : OutFrame) : OutFrame := if start < a.since ∨ (b.since ≤ start ∧ b.cls < a.cls) then b else a
    some (r.foldl best o, start)

/-- A frame leaves port n at tick `start`. -/
def State.leavePort (s : State) (n : Nat) (o : OutFrame) (start : Nat) : State :=
  let s := { s with cpx := { s.cpx with egress := s.cpx.egress.erase o, busy := s.cpx.busy.write 0 n (start + frameTicks o.len) } }
  (s.inc CP_CNT_TX_TX_FRAMES n).send o.what

/-- What port n has sent up to now, at most k frames of it. (DESIGN CHOICE, log 122.) -/
def State.egressRun (n : Nat) : Nat → State → State
  | 0, s => s
  | k + 1, s =>
    if !s.portUp n || s.pins.txOff then s
    else match s.nextOut n with
      | some (o, start) => if start ≤ s.tick then State.egressRun n k (s.leavePort n o start) else s
      | none => s

def State.egress (s : State) (n : Nat) : State := State.egressRun n s.cpx.egress.length s

/-- Put a frame into its class on port n; it leaves at once from a port that is up and free. Nothing leaves a transmitter that is off
(R517). -/
def State.transmit (s : State) (o : OutFrame) : State :=
  if s.pins.txOff then s.txDrop o.port
  else
    let s := s.egress o.port
    ({ s with cpx := { s.cpx with egress := s.cpx.egress ++ [{ o with since := s.tick }] } }).egress o.port

/-- The queue of class 3 of port n has room for a frame of `len` bytes: it holds 64 KiB. -/
def State.egressRoom (s : State) (n len : Nat) : Bool :=
  decide (((s.cpx.egress.filter (fun o => decide (o.port = n ∧ o.cls = 3))).map OutFrame.len).sum + len ≤ 65536)

/-- Length of a GCRP message as a frame on the record's port. -/
def Sess.frameLen (x : Sess) (msg : List Byte) : Nat := 26 + 4 * x.ntags + (if x.ipv6 then 40 else 20) + msg.length

/-- Put a message on the port that the record names, from the port's own address and the GCRP port (R361); on a port that is down it is
dropped (R346). -/
def State.emitGcrp (s : State) (x : Sess) (msg : List Byte) : State :=
  if s.portUp x.port
  then
    let own := if x.ipv6 then (s.portId x.port).v6 else (s.portId x.port).v4
    s.transmit { port := x.port, cls := 2, len := x.frameLen msg, since := s.tick,
                 what := .gcrp x.port own (s.reg CPX_GCRP_GCRP_PORT) x.srcAddr x.srcPort x.srcMac x.ntags x.tags msg }
  else s.txDrop x.port

/-- A PTP message of the device on port n; a port that is down transmits nothing (R343). -/
def State.sendPtp (s : State) (n type seq : Nat) (body : List Nat) : State :=
  if s.portUp n
  then s.transmit { port := n, cls := 1, since := s.tick, what := .ptp n type seq body
                    len := 18 + (if s.reg TMU_CTRL_TRANSPORT = 0 then 0 else if s.reg TMU_CTRL_TRANSPORT = 1 then 48 else 28) + (if type = 1 then 44 else 54) }
  else s

/-- The departure of an event frame that carries or reports its own time: a cycle chosen at least 400 ns ahead (R197). -/
def State.egressAt (s : State) (x : Int) : Int := max x ((s.dt * unitsPerTick + 400 * 65536 : Nat) : Int)

/-- A device message: header of R362 and body. -/
def gcrpMsg (type flags tenant session seq : Nat) (body : List Byte) : List Byte :=
  leBytes 1 1 ++ leBytes 1 type ++ beBytes 2 flags ++ beBytes 2 tenant ++ beBytes 2 session ++ beBytes 4 seq ++
    beBytes 2 (24 + body.length) ++ leBytes 10 0 ++ body

/-- Send a message on session i and forward it (R368, R439); for a session that has ended it is dropped (R373). -/
def State.sendSess (s : State) (i type flags : Nat) (body : List Byte) : State :=
  let x := s.sess i
  -- A standby sends only what its active forwards (R375, R442).
  if s.role = roleStandby then s
  else if !x.isOpen then s.inc GCRP_CNT1_SESS_GONE
  else
    let msg := gcrpMsg type flags x.tenant i x.txSeq body
    let s := (s.setSess i { x with txSeq := (x.txSeq + 1) % 2 ^ 32 }).emitGcrp x msg
    if s.forwards then s.sendTl 5 (beBytes 2 i ++ leBytes 2 0 ++ msg) else s

/-- The prefix of R366. -/
def respPrefix (reqSeq : Nat) (status : Status) (detail handle : Nat) : List Byte :=
  beBytes 4 reqSeq ++ leBytes 1 status.code ++ leBytes 1 detail ++ beBytes 2 handle

/-- Respond on session i to request `seq` of a type. (DESIGN CHOICE, log 38.) -/
def State.respond (s : State) (i seq type : Nat) (status : Status) (detail handle : Nat) (extra : List Byte) : State :=
  s.sendSess i (0x80 + type) (if status = .queued then 0 else 2) (respPrefix seq status detail handle ++ extra)

/-- The rest of a response 0x81 or 0x82 (R366). -/
def txnExtra (commit : Option Nat) (nLate firstLate : Nat) : List Byte :=
  (match commit with
   | some c => dt10 (dtOf c)
   | none => leBytes 10 0) ++ beBytes 2 nLate ++ beBytes 2 firstLate ++ leBytes 2 0

/-! ### Replies -/

/-- Does the status say that the request was not carried out? -/
def Status.refuses : Status → Bool
  | .done => false
  | .queued => false
  | .lateAligned => false
  | .lateNow => false
  | .settleLate => false
  | _ => true

/-- Reply to a source that asked for something that is not a transaction. -/
def State.reply (s : State) (src : Src) (status : Status) (detail : Nat) (final : Bool) (result : List Byte) : State :=
  match src with
  | .host r i k => s.postCpl r i status.code detail k final result
  | .twin _ => if status.refuses then s.diverge else s
  | .partner i q t => s.respond i q t status detail 0xFFFF (if t = 1 ∨ t = 2 then txnExtra none 0 0xFFFF else [])
  | _ => s

/-- A refusal with one completion. -/
def State.refuse (s : State) (src : Src) (status : Status) (detail : Nat) : State := s.reply src status detail true []

end Sys2Proof.Machine
end

