-- ==== Sys2Proof/Machine/CalOps.lean ====
section
/-! DEFINITION. The calendar's pool, lists, reservations and outcomes, which transactions and actions share (chapter 8). -/

namespace Sys2Proof.Machine

open Reg

/-- A pool entry (R281). -/
structure CalEnt where
  rel : Nat
  ref : Nat
  kind : Nat
  ess : Bool
  late : Nat
  doms : Nat
  tag : Nat
  resvZero : Bool
  deriving DecidableEq, Repr

/-- The fields of a 16-byte entry given as a little-endian number. -/
def CalEnt.parse (v : Nat) : CalEnt :=
  { rel := getBits v 0 32, ref := getBits v 32 12, kind := getBits v 48 2, ess := bit v 50, late := getBits v 51 2,
    doms := getBits v 56 8, tag := getBits v 64 32,
    resvZero := decide (getBits v 44 4 = 0) && decide (getBits v 53 3 = 0) && decide (getBits v 96 32 = 0) }

/-- R281: the encodings an entry may hold. -/
def CalEnt.ok (e : CalEnt) : Bool :=
  e.resvZero && (decide (e.kind = 1) || decide (e.kind = 2)) && decide (e.late < 3) && decide (e.doms ≠ 0) &&
    (decide (e.kind = 2) || decide (e.ref < 256))

/-- Entry i of the pool; after a reset its content is open until a write reaches it (R288). -/
def State.poolEnt (s : State) (i : Nat) : CalEnt :=
  CalEnt.parse (match s.cal.pool.read none i with
    | some v => v
    | none => (Config.poolReset i).toNat)

def State.calList (s : State) (n : Nat) : CalList := s.cal.lists.read {} n
def State.setCalList (s : State) (n : Nat) (l : CalList) : State :=
  { s with cal := { s.cal with lists := s.cal.lists.write {} n l } }
def State.modCalList (s : State) (n : Nat) (f : CalList → CalList) : State := s.setCalList n (f (s.calList n))

/-- State codes of R288. -/
abbrev calEmpty : Nat := 0
abbrev calIdle : Nat := 1
abbrev calWaiting : Nat := 2
abbrev calRunning : Nat := 3

def State.listSt (s : State) (n : Nat) : Nat := s.reg CAL_L_STATE_STATE n
def State.listLive (s : State) (n : Nat) : Bool := decide (s.listSt n = calWaiting ∨ s.listSt n = calRunning)

/-- Change a list's state; `CAL_STATUS` follows (R307). -/
def State.setListSt (s : State) (n v : Nat) : State :=
  let s := s.setReg CAL_L_STATE_STATE n v
  let s := s.setReg CAL_STATUS_RUNNING 0 (withBit (s.reg CAL_STATUS_RUNNING) n (decide (v = calRunning)))
  s.setReg CAL_STATUS_WAITING 0 (withBit (s.reg CAL_STATUS_WAITING) n (decide (v = calWaiting)))

def allLists : List Nat := List.range 16

/-- Entry i of list n. -/
def State.listEnt (s : State) (n i : Nat) : CalEnt :=
  match (s.calList n).desc with
  | some d => s.poolEnt (d.first + i)
  | none => CalEnt.parse 0

def State.listCount (s : State) (n : Nat) : Nat :=
  match (s.calList n).desc with
  | some d => d.count
  | none => 0

def State.listCycle (s : State) (n : Nat) : Nat :=
  match (s.calList n).desc with
  | some d => d.cycle
  | none => 0

/-- The entries of list n with their indices. -/
def State.listEnts (s : State) (n : Nat) : List (Nat × CalEnt) := (List.range (s.listCount n)).map (fun i => (i, s.listEnt n i))

/-- The domains of a list (R299). -/
def State.listDoms (s : State) (n : Nat) : Nat := (s.listEnts n).foldl (fun m p => Nat.lor m p.2.doms) 0

/-- Two ticks are less than 6,400 ticks apart (R265, R266). -/
def near (a b : Nat) : Bool := decide (a < b + 6400) && decide (b < a + 6400)

/-- The commit ticks that list n reserves for its entry i close to tick c: those of its instances in the cycles beside c, issued or not,
that lie ahead and before the boundary at which the list stops (R296 to R298, R300). -/
def State.instancesNear (s : State) (n i c : Nat) : List Nat :=
  let l := s.calList n
  let t := s.listCycle n
  let first := l.base + (s.listEnt n i).rel
  let ks := if t = 0 then [0] else [(c - first) / t, (c - first) / t + 1]
  (ks.map (fun k => first + k * t)).filter (fun c' => decide (s.dt ≤ c') &&
    (match l.stopAt with
     | some x => decide (c' < x)
     | none => true))

/-- A reserved commit tick lies within 6,400 ticks of tick c in a tile of `tiles` (R266, R300). -/
def State.reservedNear (s : State) (c : Nat) (tiles : List Nat) : Bool :=
  allLists.any (fun n => s.listLive n && (s.listEnts n).any (fun (i, e) =>
    tiles.any (fun t => bit e.doms (domOf t) && s.populated t) && (s.instancesNear n i c).any (near c)))

/-- The commit tick of the first instance of list n's entry i that lies at or after tick a; the only one of a one-shot list. -/
def State.instanceFrom (s : State) (n i a : Nat) : Nat :=
  let t := s.listCycle n
  let first := (s.calList n).base + (s.listEnt n i).rel
  if t = 0 then first else first + (a - first + (t - 1)) / t * t

/-- Some reserved commit tick lies in lo … hi: ahead, and before the boundary at which its list stops (R211, R296, R300). -/
def State.reservedIn (s : State) (lo hi : Nat) : Bool :=
  allLists.any (fun n => s.listLive n && (s.listEnts n).any (fun (i, _) =>
    let a := max lo s.dt
    let c := s.instanceFrom n i a
    decide (a ≤ c) && decide (c ≤ hi) && (match (s.calList n).stopAt with
      | some x => decide (c < x)
      | none => true)))

/-- `INFO` of a calendar source (R538). -/
def infoCal (n i : Nat) : Nat := n + 256 * i

/-- The list becomes `IDLE` without flags; its replacement names it no longer, unless that waits for a swap of its own (R288, R297). -/
def State.idleList (s : State) (n : Nat) : State :=
  let other := s.reg CAL_L_STATE_SWAP_WITH n
  let s := if s.flag CAL_L_STATE_SWAP_PEND n && !s.flag CAL_L_STATE_SWAP_PEND other then s.setReg CAL_L_STATE_SWAP_WITH other 0 else s
  let s := s.setListSt n calIdle
  let s := ((s.setFlag CAL_L_STATE_SWAP_PEND n false).setFlag CAL_L_STATE_STOP_PEND n false).setReg CAL_L_STATE_SWAP_WITH n 0
  s.modCalList n (fun l => { l with stopAt := none, stopSrc := .nobody, lastHandle := none })

/-- The list stops issuing: it becomes `IDLE` and the list-end event is raised (R289). -/
def State.endList (s : State) (n : Nat) : State := (s.idleList n).raise 621 (infoCal n (s.reg CAL_L_POS_NEXT n))

/-- A one-shot list that has issued or stopped its last entry, and whose last transaction has ended, ends; a STOP_BOUNDARY of it
completes (R289, R290). -/
def State.endOneShot (s : State) (n : Nat) : State :=
  if s.listLive n ∧ s.listCycle n = 0 ∧ (s.calList n).spent ∧ (s.calList n).lastHandle = none then
    let src := (s.calList n).stopSrc
    let pend := s.flag CAL_L_STATE_STOP_PEND n
    let s := s.endList n
    if pend then s.reply src .done 0 true [] else s
  else s

/-- The transaction with handle h, that of the last entry of a one-shot list, has ended (R289). -/
def State.lastEnded (s : State) (h : Nat) : State :=
  s.forEach (fun s n => if (s.calList n).lastHandle = some h
    then (s.modCalList n (fun l => { l with lastHandle := none })).endOneShot n else s) allLists

/-- An essential instance was missed or failed (R293). -/
def State.essFail (s : State) (n i : Nat) (ess : Bool) (st : Status) : State :=
  if ess then (s.inc CAL_L_CNT2_ESS_FAIL n).raiseOut 622 st (infoCal n i) else s

/-- The final status of an issued instance (R293). -/
def State.calOutcome (s : State) (n i : Nat) (ess : Bool) (handle : Nat) (status : Status) : State :=
  let s := if status = .done ∨ status = .settleLate then s
    else ((s.inc CAL_L_CNT1_FAILED n).setReg CAL_L_STATE_LAST_STATUS n status.code).essFail n i ess status
  let s := s.modCalList n (fun l => if l.lastHandle = some handle then { l with lastHandle := none } else l)
  s.endOneShot n

end Sys2Proof.Machine
end

