-- ==== Sys2Proof/Machine/Tone.lean ====
section
/-! DEFINITION. The firefly tone (R104 to R108): the quarter-wave table, the tone frequencies and the dither. -/

namespace Sys2Proof.Machine

open Reg

/-- T[0] to T[63] of R105. -/
def toneT0 : List Nat :=
  [50, 151, 251, 352, 452, 553, 653, 754, 854, 955, 1056, 1156, 1257, 1357, 1458, 1558, 1659, 1759, 1860, 1960, 2061, 2161, 2261, 2362, 2462, 2563, 2663, 2764, 2864, 2965, 3065, 3165, 3266, 3366, 3467, 3567, 3667, 3768, 3868, 3968, 4069, 4169, 4269, 4370, 4470, 4570, 4671, 4771, 4871, 4971, 5072, 5172, 5272, 5372, 5472, 5573, 5673, 5773, 5873, 5973, 6073, 6173, 6273, 6374]
/-- T[64] to T[127] of R105. -/
def toneT1 : List Nat :=
  [6474, 6574, 6674, 6774, 6874, 6974, 7074, 7173, 7273, 7373, 7473, 7573, 7673, 7773, 7873, 7972, 8072, 8172, 8272, 8371, 8471, 8571, 8670, 8770, 8870, 8969, 9069, 9168, 9268, 9367, 9467, 9566, 9666, 9765, 9865, 9964, 10063, 10163, 10262, 10361, 10460, 10560, 10659, 10758, 10857, 10956, 11055, 11154, 11254, 11353, 11452, 11550, 11649, 11748, 11847, 11946, 12045, 12144, 12243, 12341, 12440, 12539, 12637, 12736]
/-- T[128] to T[191] of R105. -/
def toneT2 : List Nat :=
  [12835, 12933, 13032, 13130, 13229, 13327, 13425, 13524, 13622, 13721, 13819, 13917, 14015, 14113, 14212, 14310, 14408, 14506, 14604, 14702, 14800, 14898, 14996, 15093, 15191, 15289, 15387, 15485, 15582, 15680, 15777, 15875, 15972, 16070, 16167, 16265, 16362, 16459, 16557, 16654, 16751, 16848, 16946, 17043, 17140, 17237, 17334, 17431, 17527, 17624, 17721, 17818, 17915, 18011, 18108, 18205, 18301, 18398, 18494, 18590, 18687, 18783, 18879, 18976]
/-- T[192] to T[255] of R105. -/
def toneT3 : List Nat :=
  [19072, 19168, 19264, 19360, 19456, 19552, 19648, 19744, 19840, 19936, 20031, 20127, 20223, 20318, 20414, 20509, 20605, 20700, 20796, 20891, 20986, 21081, 21177, 21272, 21367, 21462, 21557, 21652, 21746, 21841, 21936, 22031, 22125, 22220, 22315, 22409, 22503, 22598, 22692, 22786, 22881, 22975, 23069, 23163, 23257, 23351, 23445, 23539, 23633, 23726, 23820, 23914, 24007, 24101, 24194, 24288, 24381, 24474, 24567, 24661, 24754, 24847, 24940, 25033]
/-- T[256] to T[319] of R105. -/
def toneT4 : List Nat :=
  [25126, 25218, 25311, 25404, 25497, 25589, 25682, 25774, 25866, 25959, 26051, 26143, 26235, 26328, 26420, 26512, 26603, 26695, 26787, 26879, 26970, 27062, 27154, 27245, 27336, 27428, 27519, 27610, 27701, 27792, 27883, 27974, 28065, 28156, 28247, 28337, 28428, 28519, 28609, 28700, 28790, 28880, 28970, 29061, 29151, 29241, 29331, 29420, 29510, 29600, 29690, 29779, 29869, 29958, 30047, 30137, 30226, 30315, 30404, 30493, 30582, 30671, 30760, 30849]
/-- T[320] to T[383] of R105. -/
def toneT5 : List Nat :=
  [30937, 31026, 31114, 31203, 31291, 31380, 31468, 31556, 31644, 31732, 31820, 31908, 31995, 32083, 32171, 32258, 32346, 32433, 32521, 32608, 32695, 32782, 32869, 32956, 33043, 33130, 33216, 33303, 33389, 33476, 33562, 33649, 33735, 33821, 33907, 33993, 34079, 34165, 34251, 34336, 34422, 34507, 34593, 34678, 34763, 34848, 34934, 35019, 35104, 35188, 35273, 35358, 35442, 35527, 35611, 35696, 35780, 35864, 35948, 36032, 36116, 36200, 36284, 36367]
/-- T[384] to T[447] of R105. -/
def toneT6 : List Nat :=
  [36451, 36535, 36618, 36701, 36785, 36868, 36951, 37034, 37117, 37199, 37282, 37365, 37447, 37530, 37612, 37694, 37777, 37859, 37941, 38023, 38105, 38186, 38268, 38350, 38431, 38512, 38594, 38675, 38756, 38837, 38918, 38999, 39080, 39160, 39241, 39321, 39402, 39482, 39562, 39642, 39722, 39802, 39882, 39962, 40041, 40121, 40200, 40280, 40359, 40438, 40517, 40596, 40675, 40754, 40832, 40911, 40989, 41068, 41146, 41224, 41302, 41380, 41458, 41536]
/-- T[448] to T[511] of R105. -/
def toneT7 : List Nat :=
  [41614, 41691, 41769, 41846, 41924, 42001, 42078, 42155, 42232, 42309, 42385, 42462, 42539, 42615, 42691, 42768, 42844, 42920, 42996, 43071, 43147, 43223, 43298, 43374, 43449, 43524, 43599, 43674, 43749, 43824, 43899, 43973, 44048, 44122, 44197, 44271, 44345, 44419, 44493, 44566, 44640, 44714, 44787, 44860, 44934, 45007, 45080, 45153, 45225, 45298, 45371, 45443, 45516, 45588, 45660, 45732, 45804, 45876, 45948, 46019, 46091, 46162, 46233, 46305]
/-- T[512] to T[575] of R105. -/
def toneT8 : List Nat :=
  [46376, 46447, 46518, 46588, 46659, 46730, 46800, 46870, 46941, 47011, 47081, 47150, 47220, 47290, 47359, 47429, 47498, 47567, 47636, 47705, 47774, 47843, 47912, 47980, 48049, 48117, 48185, 48253, 48321, 48389, 48457, 48524, 48592, 48659, 48727, 48794, 48861, 48928, 48995, 49061, 49128, 49194, 49261, 49327, 49393, 49459, 49525, 49591, 49656, 49722, 49787, 49853, 49918, 49983, 50048, 50113, 50178, 50242, 50307, 50371, 50435, 50499, 50563, 50627]
/-- T[576] to T[639] of R105. -/
def toneT9 : List Nat :=
  [50691, 50755, 50818, 50882, 50945, 51008, 51071, 51134, 51197, 51260, 51322, 51385, 51447, 51509, 51571, 51633, 51695, 51757, 51819, 51880, 51941, 52003, 52064, 52125, 52186, 52246, 52307, 52367, 52428, 52488, 52548, 52608, 52668, 52728, 52788, 52847, 52906, 52966, 53025, 53084, 53143, 53202, 53260, 53319, 53377, 53435, 53493, 53551, 53609, 53667, 53725, 53782, 53840, 53897, 53954, 54011, 54068, 54125, 54181, 54238, 54294, 54350, 54406, 54462]
/-- T[640] to T[703] of R105. -/
def toneT10 : List Nat :=
  [54518, 54574, 54630, 54685, 54740, 54796, 54851, 54906, 54960, 55015, 55070, 55124, 55178, 55233, 55287, 55341, 55394, 55448, 55502, 55555, 55608, 55661, 55714, 55767, 55820, 55873, 55925, 55977, 56030, 56082, 56134, 56185, 56237, 56289, 56340, 56391, 56442, 56493, 56544, 56595, 56646, 56696, 56747, 56797, 56847, 56897, 56947, 56996, 57046, 57095, 57145, 57194, 57243, 57292, 57340, 57389, 57437, 57486, 57534, 57582, 57630, 57678, 57725, 57773]
/-- T[704] to T[767] of R105. -/
def toneT11 : List Nat :=
  [57820, 57868, 57915, 57962, 58009, 58055, 58102, 58148, 58195, 58241, 58287, 58333, 58378, 58424, 58470, 58515, 58560, 58605, 58650, 58695, 58739, 58784, 58828, 58873, 58917, 58961, 59004, 59048, 59092, 59135, 59178, 59221, 59264, 59307, 59350, 59393, 59435, 59477, 59519, 59561, 59603, 59645, 59687, 59728, 59769, 59810, 59851, 59892, 59933, 59974, 60014, 60054, 60095, 60135, 60175, 60214, 60254, 60293, 60333, 60372, 60411, 60450, 60489, 60527]
/-- T[768] to T[831] of R105. -/
def toneT12 : List Nat :=
  [60566, 60604, 60642, 60680, 60718, 60756, 60793, 60831, 60868, 60905, 60943, 60979, 61016, 61053, 61089, 61126, 61162, 61198, 61234, 61269, 61305, 61340, 61376, 61411, 61446, 61481, 61516, 61550, 61585, 61619, 61653, 61687, 61721, 61755, 61788, 61822, 61855, 61888, 61921, 61954, 61987, 62019, 62052, 62084, 62116, 62148, 62180, 62212, 62243, 62274, 62306, 62337, 62368, 62399, 62429, 62460, 62490, 62520, 62550, 62580, 62610, 62640, 62669, 62698]
/-- T[832] to T[895] of R105. -/
def toneT13 : List Nat :=
  [62728, 62757, 62786, 62814, 62843, 62871, 62900, 62928, 62956, 62984, 63011, 63039, 63066, 63094, 63121, 63148, 63174, 63201, 63228, 63254, 63280, 63306, 63332, 63358, 63384, 63409, 63434, 63460, 63485, 63509, 63534, 63559, 63583, 63607, 63632, 63656, 63679, 63703, 63727, 63750, 63773, 63796, 63819, 63842, 63865, 63887, 63909, 63932, 63954, 63976, 63997, 64019, 64040, 64062, 64083, 64104, 64124, 64145, 64166, 64186, 64206, 64226, 64246, 64266]
/-- T[896] to T[959] of R105. -/
def toneT14 : List Nat :=
  [64286, 64305, 64324, 64343, 64362, 64381, 64400, 64419, 64437, 64455, 64473, 64491, 64509, 64527, 64544, 64562, 64579, 64596, 64613, 64629, 64646, 64662, 64679, 64695, 64711, 64727, 64742, 64758, 64773, 64788, 64803, 64818, 64833, 64848, 64862, 64876, 64891, 64905, 64918, 64932, 64946, 64959, 64972, 64985, 64998, 65011, 65024, 65036, 65048, 65060, 65072, 65084, 65096, 65108, 65119, 65130, 65141, 65152, 65163, 65174, 65184, 65194, 65204, 65214]
/-- T[960] to T[1023] of R105. -/
def toneT15 : List Nat :=
  [65224, 65234, 65244, 65253, 65262, 65271, 65280, 65289, 65298, 65306, 65314, 65323, 65331, 65338, 65346, 65354, 65361, 65368, 65375, 65382, 65389, 65396, 65402, 65409, 65415, 65421, 65427, 65432, 65438, 65443, 65448, 65454, 65459, 65463, 65468, 65472, 65477, 65481, 65485, 65489, 65492, 65496, 65499, 65503, 65506, 65509, 65511, 65514, 65516, 65519, 65521, 65523, 65525, 65526, 65528, 65529, 65531, 65532, 65533, 65533, 65534, 65535, 65535, 65535]

/-- T[i] = round(65,535 × sin(π(2i + 1) ÷ 4,096)) (R105). -/
def toneT (i : Nat) : Nat :=
  let row := match i / 64 with
    | 0 => toneT0 | 1 => toneT1 | 2 => toneT2 | 3 => toneT3 | 4 => toneT4 | 5 => toneT5 | 6 => toneT6 | 7 => toneT7
    | 8 => toneT8 | 9 => toneT9 | 10 => toneT10 | 11 => toneT11 | 12 => toneT12 | 13 => toneT13 | 14 => toneT14
    | _ => toneT15
  row.getD (i % 64) 0

/-- The sample S of R105 at the 12-bit index P[23:12]. -/
def toneS (idx : Nat) : Int :=
  let q := idx / 1024 % 4
  let i := idx % 1024
  if q = 0 then toneT i else if q = 1 then toneT (1023 - i) else if q = 2 then -(toneT i : Int) else -(toneT (1023 - i) : Int)

/-- d = round(A × S ÷ 65,536), halves away from zero (R106). -/
def ditherOf (amp idx : Nat) : Int := roundDiv ((amp : Int) * toneS idx) 65536

/-- The tone of element e of tile t: its FTW and whether it is dithered (R108, R109). -/
def State.toneOf (s : State) (t e : Nat) : Nat × Bool :=
  if s.effReg FF_CTRL_FF_SRC t = 0 then
    ((8 + 3 * (3 * (rowOf e % 3) + colOf e % 3) + s.effReg FF_CTRL_FF_TOFF t) * 65536, true)
  else
    let w := (s.tile t).firefly.live.read 0 e
    (getBits w 0 24, bit w 24)

/-- The amplitude of node kind x of element e of tile t; 0 when its table entry is not enabled (R106, R109). -/
def State.toneAmp (s : State) (t e x : Nat) : Nat :=
  if (s.toneOf t e).2 then s.effReg (if x = 0 then FF_CTRL_FF_AMP_PRI else FF_CTRL_FF_AMP_TRIM) t else 0

/-- The element has a dither: some node's amplitude is not 0 (R148). -/
def State.dithered (s : State) (t e : Nat) : Bool := decide (s.toneAmp t e 0 ≠ 0) || decide (s.toneAmp t e 1 ≠ 0)

end Sys2Proof.Machine
end

