-- ==== Sys2Proof/Machine/DriveOps.lean ====
section
/-! DEFINITION. What a tile writes and how: park, hold, sweep and bank codes, the slew limiter, the row slot, bursts, pending banks
(chapters 3, 5 and 7). -/

namespace Sys2Proof.Machine

open Reg

/-! ### The slew limiter (R91, R92) -/

/-- Is (STEP, RATE) valid for `LAST` (R92)? -/
def slewValid (step rate last : Nat) : Bool := decide (0 < rate) && decide (65535 ≤ step * (last / rate + 1))

/-! ### Codes -/

/-- The code sweep `w` writes at its present point (R174). -/
def Sweep.code (w : Sweep) : Nat := clampCode ((w.start : Int) + (w.point : Int) * w.step)

/-- The lanes of a tile are held in `PARK` by a span change or by a clear (R88, R97). -/
def State.parkHold (s : State) (t : Nat) : Bool :=
  (match (s.tile t).span with
   | .dwell _ => true
   | .live => true
   | _ => false) || (s.tile t).clr

/-- The code without dither that the sequencer writes for node x of element e in a normal slot (R31, R166). A sweep's code reaches it
through the engine's handover, which R30 replaces when it is missing. -/
def State.slotCode (s : State) (t e x : Nat) : Nat :=
  let tl := s.tile t
  let l := tl.lane e
  if s.parkHold t then s.parkOf t e x
  else match l.mode with
    | .park => s.parkOf t e x
    | .hold => if x = 0 then l.heldP else l.heldT
    | .cal =>
      if !tl.placedCur.contains (rowOf e) then bankCode tl.cur e x
      else match tl.sweep with
      | some w =>
        if w.node = x ∧ w.point < 32 ∧ e ∈ w.elems then w.code else if x = 0 then l.heldP else l.heldT
      | none => if x = 0 then l.heldP else l.heldT
    | _ => bankCode tl.cur e x

/-- Does the sequencer add dither in this lane's normal slots (R107)? -/
def State.dithers (s : State) (t e : Nat) : Bool :=
  if s.parkHold t then false
  else match ((s.tile t).lane e).mode with
    | .burst => false
    | .park => false
    | _ => true

/-- The sequencer's writes reach the domain: owned, and the wait of R70 over. -/
def State.drives (s : State) (t : Nat) : Bool :=
  s.ownsTile t && bit s.fab.ownReady (domOf t) && s.populated t && !s.fab.treeLost

/-- A burst of the park sequencer runs in tile t's domain (R101). -/
def State.parkRuns (s : State) (t : Nat) : Bool := decide (s.fab.parkPh.getD (domOf t) .off = .burst)

/-- The code a column can reach with VHV as it is (R85): V is limited to VHV − 3 V, and is 0 V with VHV at or below 3 V. -/
def State.vhvReach (s : State) (t x c : Nat) : Nat :=
  let top := (s.fab.vhv - 3000) * 65535 / s.liveSpan t x
  min c top

/-! ### Row slots (R27, R30, R31, R49, R55, R90, R107) -/

/-- The lane takes its codes from the tile engine (rank 5 of R31). -/
def engineMode : LaneMode → Bool
  | .feedback => true
  | .burst => true
  | .cal => true
  | .shadow => true
  | _ => false

/-- R30 at the start of slot 2r: the codes of row r are missing; the row's engine lanes are written from the previous frame, and the
miss is counted and raised. -/
def State.missedHandover (s : State) (t r : Nat) : State :=
  let tl := s.tile t
  let es := (List.range 8).map (fun c => 8 * r + c)
  if tl.placedCur.contains r || !(es.any (fun e => engineMode (tl.lane e).mode)) then s
  else
    let replay (b : Tab Nat) (e : Nat) : Tab Nat :=
      if engineMode (tl.lane e).mode
      then setBankCode (setBankCode b e 0 (bankCode tl.nxt e 0)) e 1 (bankCode tl.nxt e 1) else b
    let s := s.setTile t { tl with cur := es.foldl replay tl.cur }
    (s.inc DRV_MISS_MISS t).raise (srcTile t 0) (infoTile t none)

/-- The dither of node x of element e in its slot (R106, R107). -/
def State.ditherAt (s : State) (t e x : Nat) : Int :=
  if s.dithers t e then ditherOf (s.toneAmp t e x) (((s.tile t).lane e).phase / 4096) else 0

/-- Code plus dither of column c in a row slot (R90). -/
def State.slotWant (s : State) (t slot c : Nat) : Int :=
  let x := slot % 2
  let e := 8 * (slot / 2) + c
  (s.slotCode t e x : Int) + s.ditherAt t e x

/-- One column of a row slot: the bank and u_a take the code, and a clamp is counted. -/
def State.writeColumn (s : State) (t slot c : Nat) : State :=
  let x := slot % 2
  let e := 8 * (slot / 2) + c
  let code := s.slotCode t e x
  let want := s.slotWant t slot c
  let tl := s.tile t
  let l := tl.lane e
  let tl := { tl with cur := setBankCode tl.cur e x code }
  let s := s.setTile t (tl.setLane e (if x = 0 then { l with uaP := code } else { l with uaT := code }))
  if want < 0 ∨ 65535 < want then s.inc DRV_MISS_FF_CLIP t else s

/-- What the slot holds of its eight taps from its tick 0 (R110, R126). -/
def State.latchSlot (s : State) (t slot : Nat) : State :=
  let x := slot % 2
  let mk (m : Tab Latch) (c : Nat) : Tab Latch :=
    let e := 8 * (slot / 2) + c
    m.write {} (2 * e + x) { range := ((s.tile t).tap e x).range, idx := ((s.tile t).lane e).phase / 4096, dith := s.ditherAt t e x }
  s.modTile t (fun tl => { tl with latch := (List.range 8).foldl mk tl.latch })

/-- Columns that cannot be within ±64 LSB of their codes because of VHV (R80, R85). -/
def State.shortColumns (s : State) (t slot : Nat) : List Nat :=
  (List.range 8).filter (fun c =>
    let code := (s.tile t).fcd.read 0 c
    decide (s.vhvReach t (slot % 2) code + 64 < code))

/-- R80: these columns of tile t failed their readback comparison; the drive-fault source is raised with the lowest of them (R538). -/
def State.readbackFail (s : State) (t : Nat) (cols : List Nat) : State :=
  match (List.range 8).filter (fun c => cols.contains c) with
  | [] => s
  | c :: r =>
    let mask := (c :: r).foldl (fun m c => withBit m c true) (s.reg DRV_STATUS_DRV_FAULT t)
    (s.setReg DRV_STATUS_DRV_FAULT t mask).raiseCond (srcTile t 1) (infoTile t (some c))

/-- R125 orders 3, 5 and 6 for the slot that begins: not owned, not run, or sampled. -/
def State.slotReason (s : State) (t : Nat) : Nat :=
  if !(s.ownsTile t && bit s.fab.ownSensed (domOf t)) then 3
  else if (s.tile t).seq = .normal then 0 else 2

/-- The lines of tile t in a normal slot that begins now: the address and the columns follow while the domain is owned, and the strobe
where the sequencer's writes reach the fabric (R27, R55, R70, R71). A park burst that outlasts its reset completes first (R101). -/
def State.slotLines (s : State) (t slot : Nat) : State :=
  if !s.ownsTile t then s.modTile t Tile.idleLines
  else if s.parkRuns t then s
  else
    let tl := s.tile t
    s.setTile t (tl.startRun { start := s.dt, addrs := [slot], codes := (List.range 8).map (fun c => clampCode (s.slotWant t slot c)),
                               base := colTab (fun c => tl.fcdBefore c s.dt), step := s.effReg DRV_SLEW_N_STEP t, rate := s.effReg DRV_SLEW_N_RATE t,
                               strobe := s.drives t })

/-- Row slot `slot` begins in tile t; the slots of a frame ascend (R55). `bad` names the columns whose readback fails for a reason
outside the device. The comparison of R80 is made in normal slots only. (DEDUCED, log 129.) -/
def State.tileSlot (s : State) (slot : Nat) (bad : List (Nat × Nat)) (t : Nat) : State :=
  if slot < (s.tile t).begun then s
  else
    let reason := s.slotReason t
    let s := s.modTile t (fun tl => { tl with slot := slot, begun := slot + 1, slotSt := tl.slotSt.write 2 slot reason })
    let s := s.latchSlot t slot
    if (s.tile t).seq ≠ .normal then s
    else
      let s := if slot % 2 = 0 then s.missedHandover t (slot / 2) else s
      let s := s.slotLines t slot
      let s := s.forEach (fun s c => s.writeColumn t slot c) (List.range 8)
      if s.drives t then
        s.readbackFail t (s.shortColumns t slot ++ (bad.filter (fun p => decide (p.1 = t))).map Prod.snd)
      else s

/-! ### Bursts (R56, R94 to R96) -/

/-- round(G × Δ), halves away from zero, with G in Q2.6 (R95). -/
def steepOf (gain max' target present : Nat) : Nat :=
  let st := (target : Int) + roundDiv ((gain : Int) * ((target : Int) - present)) 64
  clampCode (clampI st ((target : Int) - max') ((target : Int) + max'))

/-- The steep code of node kind x of tile t with the present `DRV_STEEP` (R95). -/
def State.steepCode (s : State) (t x target present : Nat) : Nat :=
  steepOf (s.reg (if x = 0 then DRV_STEEP_STEEP_GAIN_PRI else DRV_STEEP_STEEP_GAIN_TRIM) t)
    (s.reg DRV_STEEP_STEEP_MAX t) target present

/-- Feedforward curve value in codes at setpoint r (R164). -/
def curveAt (p : List Nat) (r : Nat) : Nat :=
  let i := r / 4096
  let lo : Int := p.getD i 0
  let hi : Int := p.getD (i + 1) 0
  clampCode (lo + roundDiv ((hi - lo) * ((r % 4096 : Nat) : Int)) 4096)

/-- Target code of node x of element e at setpoint r from the live curve bank (R165). -/
def Tile.targetCode (tl : Tile) (e x r : Nat) : Nat :=
  let c := tl.curves.live.read {} e
  curveAt (if x = 0 then c.pri else c.trim) r

/-- All 32 burst addresses. -/
def fullBurst : List Nat := List.range 32

/-- Both addresses of every row that holds a named element, rising (R94). -/
def editAddrs (named : List (Nat × Nat)) : List Nat :=
  (List.range 16).flatMap (fun r => if named.any (fun p => decide (rowOf p.1 = r)) then [2 * r, 2 * r + 1] else [])

/-- Burst span in ticks (R255): n × 32, or 2n × 32 + dwell × 32. -/
def Pend.span (p : Pend) : Nat := if p.steepEn then 64 * p.addrs.length + 32 * p.dwell else 32 * p.addrs.length

/-- A burst of addresses `addrs` begins at tick `start` on the lines of tile t, with the slew limiter of burst slots (R56, R91). -/
def State.runBurst (s : State) (t start : Nat) (addrs : List Nat) (code : Nat → Nat) (strobe : Bool) : State :=
  let tl := s.tile t
  s.setTile t (tl.startRun { burst := true, start := start, addrs := addrs,
                             codes := addrs.flatMap (fun a => (List.range 8).map (fun c => code (2 * (8 * (a / 2) + c) + a % 2))),
                             base := colTab (fun c => tl.fcdBefore c start), step := s.effReg DRV_SLEW_B_STEP t, rate := s.effReg DRV_SLEW_B_RATE t,
                             strobe := strobe } s.dt)

/-- A burst of the slot sequencer: its lines follow while the domain is owned and the tree clock runs. -/
def State.burstColumns (s : State) (t start : Nat) (addrs : List Nat) (code : Nat → Nat) : State :=
  if !s.ownsTile t || s.fab.treeLost || s.parkRuns t || addrs.isEmpty then s else s.runBurst t start addrs code (s.drives t)

/-- The code of node n = 2e + x in a burst: the transaction's code, or the present code of the drive bank (R94, R259). -/
def burstCode (tl : Tile) (codes : List (Nat × Nat)) (n : Nat) : Nat :=
  match codes.find? (fun p => decide (p.1 = n)) with
  | some p => p.2
  | none => tl.cur.read 0 n

/-- Lanes counted in each mode, for `LOOP_MODES` (R189). -/
def State.refreshModes (s : State) (t : Nat) : State :=
  let ms := allElems.map (fun e => ((s.tile t).lane e).mode)
  let n (p : LaneMode → Bool) : Nat := (ms.filter p).length
  (((s.setReg LOOP_MODES_N_FEEDBACK t (n (fun m => m = .feedback))).setReg LOOP_MODES_N_HOLD t (n (fun m => m = .hold))).setReg
    LOOP_MODES_N_PARK t (n (fun m => m = .park))).setReg LOOP_MODES_N_OTHER t
      (n (fun m => m = .burst ∨ m = .cal ∨ m = .shadow))

/-- `DRV_STATUS.BURST` (R116): a commit, quench or clear burst is running; the dwell between two bursts counts. (DEDUCED, log 130.) -/
def State.refreshBurst (s : State) (t : Nat) : State :=
  s.setFlag DRV_STATUS_BURST t (match (s.tile t).seq with
    | .normal => false
    | .idle => false
    | _ => true)

/-- Some line of tile t has a converter and is not open: a truncated slot shows in its record. -/
def State.sensed (s : State) (t : Nat) : Bool :=
  (List.range 8).any (fun c => !bit (s.reg SNS_STATUS_LINE_OPEN t) c && !bit (s.reg SNS_STATUS_UNSERVED t) c)

/-- The slot in progress ends at tick n: its records carry `REASON` 1, or 2 at its first tick (R125, R259). A slot that has ended by then,
and one that was not sampled anyway, keeps its reason; one that a clear or a QUENCH ends at its tick 99 has not ended before it (R125). A slot
that leaves a truncated record is counted once (R143). (DEDUCED, log 107; DEDUCED, log 131.) -/
def State.truncateSlot (s : State) (t n : Nat) (commit : Bool := false) : State :=
  let tl := s.tile t
  let p := n - (s.marker + 100 * tl.slot)
  if tl.slotSt.read 2 tl.slot ≠ 0 ∨ (if commit then 99 else 98) < p then s
  else
    let s := s.setTile t { tl with slotSt := tl.slotSt.write 2 tl.slot (if p = 0 then 2 else 1) }
    if decide (p = 0) || !s.sensed t then s else s.inc SNS_TRUNC_TRUNC t

/-- `TXN_STATUS.QUENCH_BUSY` (R268, R275): the QUENCH bursts run in some tile. -/
def State.refreshQuench (s : State) : State := s.setFlag TXN_STATUS_QUENCH_BUSY 0 (allTiles.any (fun t => decide ((s.tile t).seq = .quench)))

/-- Enter re-acquire from the reset state of R170, where u is the primary code of its u_a. -/
def Lane.reacqFresh (l : Lane) (frames u : Nat) : Lane :=
  { l with x0 := 0, x1 := 0, x2 := uOfCode u, x3 := 0, z0 := 0, z1 := 0, reacq := true, reacqLeft := frames,
           freeze := false, handover := false, divRun := 0, satRun := 0, fromPark := false }

/-- Enter re-acquire from the kept lane state (R170). -/
def Lane.reacqKept (l : Lane) (frames : Nat) : Lane :=
  { l with reacq := true, reacqLeft := frames, freeze := false, handover := false, divRun := 0, satRun := 0, fromPark := false }

/-- A lane in `CAL` goes back to its mode of origin, `FEEDBACK` through re-acquire (R168, R170, R174). -/
def Lane.leaveSweep (l : Lane) (frames frame : Nat) : Lane :=
  if l.origin = .feedback then { l.reacqKept frames with mode := .feedback, fbFrom := frame } else { l with mode := .park }

/-- Abort a running sweep (R167, R168): its capture is incomplete; its lanes go back to their mode of origin. -/
def State.abortSweep (s : State) (t : Nat) : State :=
  match (s.tile t).sweep with
  | none => s
  | some w =>
    let back (_ : Nat) (l : Lane) : Lane :=
      if l.mode = .cal then l.leaveSweep (s.effReg LOOP_CTRL_REACQ_FRAMES t) (s.tile t).frame else l
    let s := s.modTile t (fun tl => { (tl.modLanes back) with sweep := none })
    ((s.setFlag LOOP_CAL_BUSY t false).setFlag LOOP_CAL_ABORTED t true).reply w.src .aborted 0 true []

end Sys2Proof.Machine
end

