-- ==== Sys2Proof/Machine/TxnOps.lean ====
section
/-! DEFINITION. Transactions: what they hold, the checks of STAGE and ARM, pending banks, energy, and how a transaction ends
(chapter 7, R294, R316). -/

namespace Sys2Proof.Machine

open Reg

/-! ### Slots and handles (R247) -/

def State.slot (s : State) (i : Nat) : Txn := s.txn.slots.read {} i
def State.setSlot (s : State) (i : Nat) (t : Txn) : State :=
  { s with txn := { s.txn with slots := s.txn.slots.write {} i t } }
def State.modSlot (s : State) (i : Nat) (f : Txn → Txn) : State := s.setSlot i (f (s.slot i))

def handleOf (i gen : Nat) : Nat := gen * 64 + i
def State.handle (s : State) (i : Nat) : Nat := handleOf i (s.slot i).gen

/-- The slot that a handle names, when a transaction holds it. -/
def State.findHandle (s : State) (h : Nat) : Option Nat :=
  let i := h % 64
  if h < 65536 ∧ i < 63 ∧ (s.slot i).st ≠ .free ∧ (s.slot i).gen = h / 64 then some i else none

def allSlots : List Nat := List.range 63

/-- The lowest free slot. -/
def State.freeSlot (s : State) : Option Nat := allSlots.find? (fun i => decide ((s.slot i).st = .free))

/-- `TXN_STATUS.N_USED`. -/
def State.nUsed (s : State) : Nat := (allSlots.filter (fun i => decide ((s.slot i).st ≠ .free))).length

/-! ### What a transaction holds (R240, R245, R246) -/

def State.plan (s : State) (n : Nat) : Option Plan := s.txn.plans.read none n
def State.edit (s : State) (n : Nat) : Option Edit := s.txn.edits.read none n

/-- Elements of every populated row in the domains of a mask (R240). -/
def State.darkElems (s : State) (m : Nat) : List Nat :=
  (tilesOfDoms m).flatMap (fun t => (allElems.filter (fun e => s.populated t && s.rowPop t (rowOf e))).map (fun e => 128 * t + e))

/-- The named elements of a plan switch. -/
def State.planNamed (s : State) (n m : Nat) : List (Nat × Nat) :=
  if n = 0 then []
  else match s.plan n with
    | some p => p.elems.filter (fun q => bit m (domOf (tileOf q.1)))
    | none => []

def State.editNamed (s : State) (n : Nat) : List (Nat × Nat) :=
  match s.edit n with
  | some e => e.elems
  | none => []

/-- Named elements with their new setpoints; none for plan 0, which carries none. -/
def State.namedOf (s : State) (plan : Option (Nat × Nat)) (edits : List Nat) : List (Nat × Nat) :=
  (match plan with
   | some (n, m) => s.planNamed n m
   | none => []) ++ edits.flatMap s.editNamed

/-- The action list is plan 0 alone (R240). -/
def isDark (plan : Option (Nat × Nat)) (edits : List Nat) : Bool :=
  match plan with
  | some (0, _) => edits.isEmpty
  | _ => false

/-- The elements that actions name, each once, those of the dark plan included (R240, R246). -/
def State.namedElems (s : State) (plan : Option (Nat × Nat)) (edits : List Nat) : List Nat :=
  (match plan with
   | some (0, m) => s.darkElems m ++ edits.flatMap (fun n => (s.editNamed n).map Prod.fst)
   | _ => (s.namedOf plan edits).map Prod.fst).eraseDups

/-- Involved tiles (R246). -/
def State.tilesOf (s : State) (plan : Option (Nat × Nat)) (edits : List Nat) : List Nat :=
  let pm := match plan with
    | some (_, m) => m
    | none => 0
  let es := (edits.flatMap s.editNamed).map (fun q => tileOf q.1)
  allTiles.filter (fun t => (bit pm (domOf t) && s.populated t) || es.contains t)

/-- Every object that the actions name is valid (R315). -/
def State.objectsValid (s : State) (plan : Option (Nat × Nat)) (edits : List Nat) : Bool :=
  (match plan with
   | some (n, _) => decide (n = 0) || (s.plan n).isSome
   | none => true) && edits.all (fun n => (s.edit n).isSome)

/-- Reasons of R276 for which the actions break R245. -/
def State.actionReasons (s : State) (plan : Option (Nat × Nat)) (edits : List Nat) : List Nat :=
  let m := match plan with
    | some (_, m) => m
    | none => 0
  let maskBad := match plan with
    | some (n, m) => decide (m = 0) || (decide (n ≠ 0) && (match s.plan n with
      | some p => decide (Nat.lor m p.mask ≠ p.mask)
      | none => false))
    | none => false
  let elems := (edits.flatMap s.editNamed).map Prod.fst
  let meets := edits.any (fun n => match s.edit n with
    | some e => decide (Nat.land e.mask m ≠ 0)
    | none => false)
  let darkMix := match plan with
    | some (0, _) => !edits.isEmpty
    | _ => false
  (if s.objectsValid plan edits then [] else [2]) ++ (if maskBad then [3] else []) ++
  (if !decide edits.Nodup || meets || !decide elems.Nodup || darkMix || decide (plan.isNone ∧ edits = []) ||
      decide (8 < b2n plan.isSome + edits.length) then [5] else [])

/-! ### Steps and margins (R211, R253) -/

/-- The arm margin in ns. -/
def State.margin (s : State) : Nat := s.reg TXN_CTRL_ARM_MARGIN

/-- The commit DT c (a tick) meets the step interval of a step already fixed (R211). -/
def State.meetsFixedStep (s : State) (c : Nat) : Bool :=
  match s.tmu.step with
  | none => false
  | some st => st.fixed && (match st.marker with
    | some m => decide (m ≤ c + 12800) && decide ((c : Int) ≤ m + max (st.frames * 3200) 0 + nsDown s.margin)
    | none => false)

/-! ### The checks of STAGE and ARM (R251 to R253, R265, R266) -/

/-- Another transaction, or a commit that has taken place, lies less than 6,400 ticks from tick c in a shared tile (R265). (DEDUCED, log 88.) -/
def State.spacingBad (s : State) (self : Option Nat) (c : Nat) (tiles : List Nat) : Bool :=
  allSlots.any (fun i => decide (some i ≠ self) && (let t := s.slot i
    decide (t.st ≠ .free) && (match t.commit with
      | some c' => near c c' && tiles.any (fun k => t.tiles.contains k)
      | none => false))) ||
  tiles.any (fun k => match (s.tile k).lastTxn with
    | some c' => near c c'
    | none => false)

/-- Reasons of R276 for which commit tick c is refused with BAD_OBJECT; a calendar transaction skips the reservation test (R266). -/
def State.armReasons (s : State) (self : Option Nat) (c : Nat) (tiles : List Nat) (cal : Bool) : List Nat :=
  (if 41 ≤ c % 100 ∧ c % 100 ≤ 49 then [7] else []) ++
  (if s.spacingBad self c tiles || (!cal && s.reservedNear c tiles) then [8] else [])

/-- LATE_REJECT of R253: commit DT u in 2⁻¹⁶ ns, tick c, arrival tick. -/
def State.late (s : State) (u c arrival : Nat) : Bool :=
  decide (u < arrival * unitsPerTick + s.margin * 65536) || s.meetsFixedStep c

/-- A domain that R251 refuses with FENCED. (DEDUCED, log 39.) -/
def State.domFenced (s : State) (d : Nat) : Bool := decide (s.domState d ≠ 0) || bit s.tmu.bad d

def State.freeBank (s : State) (t : Nat) : Option Nat :=
  if (s.tile t).pend0.st = .free then some 0 else if (s.tile t).pend1.st = .free then some 1 else none

/-- Record a refusal in `TXN_ERR` (R276). -/
def State.txnErr (s : State) (handle : Option Nat) (reason tile : Nat) : State :=
  let s := match handle with
    | some h => (s.setReg TXN_ERR_HANDLE 0 h).setFlag TXN_ERR_NO_HANDLE 0 false
    | none => s.setFlag TXN_ERR_NO_HANDLE 0 true
  ((s.setReg TXN_ERR_REASON 0 reason).setReg TXN_ERR_TILE 0 tile).inc TXN_CNT2_REFUSED

/-- The checks of STAGE on actions, and with a commit DT also those of ARM, in the order of R18: the status and the reason. -/
def State.stageChecks (s : State) (plan : Option (Nat × Nat)) (edits : List Nat) (commit : Option (Nat × Nat)) (arrival : Nat)
    (cal : Bool) : Option (Status × Nat) :=
  let tiles := s.tilesOf plan edits
  let rs := s.actionReasons plan edits ++
    (if s.freeSlot.isNone || tiles.any (fun t => (s.freeBank t).isNone) then [6] else []) ++
    (match commit with
     | some (_, c) => s.armReasons none c tiles cal
     | none => [])
  let late := match commit with
    | some (u, c) => s.late u c arrival
    | none => false
  (firstRefusal [(!rs.isEmpty, .badObject), (!s.leads, .notActive),
    (s.flag TXN_STATUS_SAFETY_HOLD && !isDark plan edits, .safetyHold),
    (tiles.any (fun t => s.domFenced (domOf t)), .fenced), (late, .lateReject)]).map (fun st => (st, rs.headD 0))

/-! ### Pending banks -/

/-- Run f over the pending banks that hold handle h in the involved tiles. -/
def State.forBanks (s : State) (tiles : List Nat) (h : Nat) (f : Nat → Pend → Pend) : State :=
  s.forEach (fun s t => s.modTile t (fun tl =>
    let g (p : Pend) : Pend := if p.st ≠ .free ∧ p.handle = h then f t p else p
    { tl with pend0 := g tl.pend0, pend1 := g tl.pend1 })) tiles

/-- The pending bank of tile tl that holds handle h. -/
def Tile.bankOf (tl : Tile) (h : Nat) : Option Nat :=
  if tl.pend0.st ≠ .free ∧ tl.pend0.handle = h then some 0
  else if tl.pend1.st ≠ .free ∧ tl.pend1.handle = h then some 1 else none

/-- Release the banks of handle h. Where it ends without a commit, a later transaction in the tile may freeze only at a marker strictly after now (R254). -/
def State.releaseBanks (s : State) (tiles : List Nat) (h : Nat) : State :=
  s.forEach (fun s t => s.modTile t (fun tl =>
    match tl.bankOf h with
    | none => tl
    | some k =>
      let o := tl.pend (1 - k)
      let earlier : Bool := match (tl.pend k).commit, o.commit with
        | some a, some b => decide (a < b)
        | _, _ => false
      let committed := decide ((tl.pend k).st = .bursting)
      let tl := tl.setPend k {}
      if o.st = .staged ∧ earlier ∧ !committed then tl.setPend (1 - k) { o with armAt := o.armAt.map (fun a => max a s.dt) } else tl)) tiles

/-- Copy setpoints into a free bank of each involved tile, with the addresses of its bursts: all of them in the domains `full` of a plan
switch or of plan 0 (R94, R251). (DEDUCED, log 72.) -/
def State.copyBanks (s : State) (tiles : List Nat) (h : Nat) (named : List (Nat × Nat)) (dark : Bool) (full : Nat) : State :=
  s.forEach (fun s t =>
    match s.freeBank t with
    | none => s
    | some k =>
      let mine := (named.filter (fun q => decide (tileOf q.1 = t))).map (fun q => (elemOf q.1, q.2))
      s.modTile t (fun tl => tl.setPend k { st := .staged, handle := h, named := mine, dark := dark,
                                             addrs := if dark || bit full (domOf t) then fullBurst else editAddrs mine })) tiles

/-! ### Energy (R294, R316) -/

/-- ½ C ΔV² of a swing of `d` codes in a span, in units of 5·10⁻¹² ÷ 65,535² nJ. -/
def swingEnergy (cNode span : Nat) (d : Int) : Nat := cNode * (d.natAbs * span) ^ 2

/-- The unit of `swingEnergy` in nJ is 1 ÷ this. -/
abbrev energyDen : Nat := 200000000000 * 65535 ^ 2

/-- nJ, to the nearest. -/
def toNJ (e : Nat) : Nat := (2 * e + energyDen) / (2 * energyDen)

/-- Energy of the frozen bursts of a pending bank of tile t, over every node of every named element. (DESIGN CHOICE, log 73.) -/
def State.bankEnergy (s : State) (t : Nat) (p : Pend) : Nat :=
  let tl := s.tile t
  let c := match s.fab.desc with
    | some d => d.cNode
    | none => 0
  let node (n : Nat × Nat) : Nat :=
    let span := s.liveSpan t (n.1 % 2)
    let now := tl.cur.read 0 n.1
    match p.steep.find? (fun q => decide (q.1 = n.1)) with
    | some q => if p.steepEn then swingEnergy c span ((q.2 : Int) - now) + swingEnergy c span ((n.2 : Int) - q.2)
                else swingEnergy c span ((n.2 : Int) - now)
    | none => swingEnergy c span ((n.2 : Int) - now)
  (p.target.map node).sum

/-! ### Reports and the end of a transaction (R248, R249, R252, R262, R412) -/

/-- The completion of the TXN_STAGE when the transaction leaves `STAGING` (R252). -/
def State.stageDone (s : State) (i : Nat) : State :=
  let t := s.slot i
  let s := s.modSlot i (fun t => { t with stageSrc := .nobody })
  match t.stageSrc with
  | .host r id k => s.postCpl r id Status.done.code 0 k t.commit.isNone (leBytes 2 (s.handle i))
  | _ => s

/-- The report with the final status (R412, R376), and the answer to a CIRCUIT (R377). -/
def State.report (s : State) (i : Nat) (status : Status) : State :=
  let t := s.slot i
  let h := s.handle i
  let committed := decide (status = .done ∨ status = .settleLate)
  let s := match t.reportSrc with
    | .host r id _ => s.postCpl r id status.code 0 0x40 true (leBytes 2 h ++ leBytes 2 t.nLate ++ leBytes 2 t.firstLate ++
        leBytes 2 0 ++ (match t.commit with
          | some c => if committed then dt12 (dtOf c) else leBytes 12 0
          | none => leBytes 12 0))
    | .partner a q ty => s.respond a q ty status 0 h (txnExtra t.commit t.nLate t.firstLate)
    | .calendar n e _ ess => s.calOutcome n e ess h status
    | _ => s
  match t.answer with
  | some (a, q) => s.respond a q 3 status 0 h []
  | none => s

/-- Refund the standing charge of a transaction that ends without a commit (R316). -/
def State.refund (s : State) (i : Nat) : State :=
  let h := s.handle i
  let pend := s.adm.trueups.find? (fun u => decide (u.handle = h))
  let stand := match pend with
    | some u => some u.old
    | none => (s.slot i).charge
  let rest := s.adm.trueups.filter (fun u => decide (u.handle ≠ h))
  let s := { s with adm := { s.adm with trueups := rest } }
  match stand with
  | some c => if c.parts.isEmpty then s else { s with adm := { s.adm with refunds := s.adm.refunds ++ [c] } }
  | none => s

/-- The transaction in slot i ends with a final status and returns to `FREE`. (DEDUCED, log 91.) -/
def State.endTxn (s : State) (i : Nat) (status : Status) : State :=
  let t := s.slot i
  let h := s.handle i
  let s := if t.st = .staging then s.stageDone i else s
  let s := s.releaseBanks t.tiles h
  let s := match status with
    | .aborted => s.inc TXN_CNT1_ABORTED
    | .notArmed => s.inc TXN_CNT0_NOT_ARMED
    | .settleLate => s.inc TXN_CNT1_SETTLE_LATE
    | _ => s
  let s := s.setReg TXN_STATUS_LAST_HANDLE 0 h
  let s := s.note h 3 status.code t.commit t.nLate t.firstLate 0 0 0
  let s := if status = .done ∨ status = .settleLate then s else s.refund i
  let s := (s.report i status).lastEnded h
  let s := { s with twn := { s.twn with mustEnd := s.twn.mustEnd.erase h } }
  s.setSlot i { gen := (t.gen + 1) % 1024 }

/-! ### STAGE (R251, R252) -/

/-- What STAGE works on. -/
structure StageReq where
  src : Src
  plan : Option (Nat × Nat) := none
  edits : List Nat := []
  /-- Commit DT in 2⁻¹⁶ ns and as a tick. -/
  commit : Option (Nat × Nat) := none
  answer : Option (Nat × Nat) := none
  arrival : Nat := 0
  charge : Option Charge := none
  deriving DecidableEq, Repr

/-- A refused STAGE (R252, R376, R377). -/
def State.stageRefused (s : State) (r : StageReq) (st : Status) (detail : Nat) : State :=
  let s := match r.src with
    | .host ring id k => s.postCpl ring id st.code detail k true (leBytes 2 0xFFFF)
    | src => s.refuse src st detail
  match r.answer with
  | some (a, q) => s.respond a q 3 st detail 0xFFFF []
  | none => s

/-- Put a transaction into slot i (R247, R251). -/
def State.allocTxn (s : State) (i : Nat) (r : StageReq) : State :=
  let tiles := s.tilesOf r.plan r.edits
  let dark := isDark r.plan r.edits
  let named := s.namedOf r.plan r.edits
  let h := s.handle i
  let s := s.setSlot i { (s.slot i) with
    st := .staging, plan := r.plan, edits := r.edits, named := named, dark := dark, tiles := tiles, commit := r.commit.map Prod.snd,
    deadline := match r.commit with
      | some (_, c) => c - nsUp s.margin
      | none => 0
    stageSrc := r.src
    reportSrc := if r.commit.isSome then r.src else .nobody
    answer := r.answer, charge := r.charge }
  s.copyBanks tiles h named dark (match r.plan with
    | some (_, m) => m
    | none => 0)

/-- STAGE with every check; answers the handle when the transaction is accepted. -/
def State.stageTxn (s : State) (r : StageReq) : State × Option Nat :=
  let cal := match r.src with
    | .calendar _ _ _ _ => true
    | _ => false
  match s.stageChecks r.plan r.edits r.commit r.arrival cal with
  | some (st, reason) =>
    let s := if st = .badObject then s.txnErr none reason 0x7F else s
    (s.stageRefused r st 0, none)
  | none =>
    match s.freeSlot with
    | none => (s, none)
    | some i =>
      let h := s.handle i
      let s := s.allocTxn i r
      let s := match r.src with
        | .partner a q ty => s.respond a q ty .queued 0 h (txnExtra (r.commit.map Prod.snd) 0 0xFFFF)
        | _ => s
      (s, some h)

/-! ### ARM (R253, R254) -/

/-- Send the arm of the transaction in slot i with commit tick c to its tiles. A transaction already frozen in a shared tile with a later
commit tick withdraws its report and freezes again (R254). -/
def State.armTiles (s : State) (i c : Nat) : State :=
  let t := s.slot i
  let h := s.handle i
  s.forEach (fun s k => s.modTile k (fun tl =>
    match tl.bankOf h with
    | none => tl
    | some b =>
      let o := tl.pend (1 - b)
      let tl := tl.setPend b { (tl.pend b) with commit := some c, armAt := some s.dt }
      match o.commit with
      | some c' => if c < c' ∧ (o.st = .frozen ∨ o.st = .armed)
          then tl.setPend (1 - b) { o with st := .staged, frozenAt := none, report := none } else tl
      | none => tl)) t.tiles

/-- R249: the copy of slot i is complete. -/
def State.stageCopied (s : State) (i : Nat) : State :=
  let t := s.slot i
  if t.st ≠ .staging then s
  else
    let s := s.stageDone i
    match t.commit with
    | none => s.modSlot i (fun t => { t with st := .staged })
    | some c =>
      let s := s.modSlot i (fun t => { t with st := .arming })
      -- A standby does not arm its tiles (R271).
      if s.role = roleStandby then s else s.armTiles i c

/-! ### Armed conditions (R255) -/

/-- A span change keeps bank p of tile tl from freezing or from reporting: its transaction was not frozen here at the write (R89, R255). -/
def Tile.spanBlocks (tl : Tile) (p : Pend) : Bool := decide (tl.span ≠ .none) && !tl.spanFor.contains p.handle

/-- The other bank's burst span reaches over commit tick c (R255). -/
def Pend.overlaps (o : Pend) (c : Nat) : Bool :=
  decide (o.st ≠ .free) && (match o.commit with
    | some c' => decide (c' < c) && decide (c < c' + o.span)
    | none => false)

/-- The first of the conditions of R255 after the freeze that bank k of tile t fails now. -/
def State.condFail (s : State) (t k : Nat) : Option Nat :=
  let tl := s.tile t
  let p := tl.pend k
  let c := p.commit.getD 0
  if !s.ownsTile t || s.domFenced (domOf t) || !tl.leafOk then some 0xA
  else if tl.spanBlocks p then some 0xB
  else if (tl.pend (1 - k)).overlaps c then some 0xC
  else if decide (p.addrs.length < 32) && decide (markerBefore c + 6400 < c + p.span) then some 0xD
  else if !s.engineRuns t then some 0xE
  else none

/-- The first condition of R255 that bank k of tile t fails, judged with reports registered before `before`. A bank that a span change
kept from freezing fails for the span change (R89). -/
def State.armFail (s : State) (t k before : Nat) : Option Nat :=
  let tl := s.tile t
  let p := tl.pend k
  let registered := match p.report with
    | some r => decide (r < before)
    | none => false
  if p.frozenAt.isNone then some (if tl.spanBlocks p then 0xB else if !s.engineRuns t then 0xE else 9)
  else match s.condFail t k with
    | some r => some r
    | none => if decide (p.st = .armed) && registered then none else some 9

end Sys2Proof.Machine
end

