-- ==== Sys2Proof/Machine/HostCmds.lean ====
section
/-! DEFINITION. What every host command shares: when it starts, the role and start-up state it needs, presence, and the stores that a
sync holds it for (R406 to R410, R439 to R445, R490, R568, R575). -/

namespace Sys2Proof.Machine

open Reg

/-- R445: while the sender streams a store it holds every command that would write that store. -/
def State.holdsCmd (s : State) (c : HostCmd) : Bool :=
  s.leads && decide (s.reg TWN_SYNC_STORE ≠ 0) && decide (c.store = s.reg TWN_SYNC_STORE)

/-- The command as it starts: one fetched before its ring was last disabled owes its ring nothing (R389, R399). -/
def State.asFetched (s : State) (c : HostCmd) : HostCmd := { c with orphan := !(s.ring c.ring).orphans.isEmpty }

/-- The first command that has not started starts. -/
def startFirst : List Cmd → List Cmd
  | [] => []
  | d :: r => if d.started then d :: startFirst r else { d with started := true } :: r

/-- Note that the command, the next of its ring, starts. -/
def State.startCmd (s : State) (c : HostCmd) : State :=
  s.modRing c.ring (fun g => if c.orphan then { g with orphans := g.orphans.drop 1 } else { g with cmds := startFirst g.cmds })

/-- A command of kind k starts: host software has access, the descriptor is of that kind, and it is the next of its ring (R406, R407). A
command that writes a store being streamed is held (R445). -/
def State.hostRow (s : State) (c : HostCmd) (k : Nat) (f : HostCmd → State → State) : State :=
  let c := s.asFetched c
  if !s.windowOpen || decide (c.kind ≠ k) || !s.mayStart c then s
  else
    let s := s.startCmd c
    if s.holdsCmd c then { s with twn := { s.twn with heldCmds := s.twn.heldCmds ++ [(c.store, c)] } }
    else f c s

/-- The device may act on a forwarded kind for `src`: it leads, or its twin's active forwarded the command (R440, R443, R568). -/
def State.mayAct (s : State) (src : Src) : Bool :=
  match src with
  | .twin _ => true
  | _ => s.leads

/-- A kind that R439 does not forward: refused only in `RECOVERY` (R575). -/
def State.mayServe (s : State) : Bool := decide (s.startup ≠ 2)

/-- The presence window is open (R488). -/
def State.presence (s : State) : Bool := s.flag SIU_STATUS_PRES_OPEN

/-- The reserved flag bits and bytes of the common header (R408); `DT_VALID` is defined for TXN_STAGE only. -/
def HostCmd.headerOk (c : HostCmd) : Bool :=
  decide (c.desc.length = 64) && decide (u8 c.desc 1 < 8) && (decide (c.kind = 2) || !bit (u8 c.desc 1) 2) && zeros c.desc 4 4

/-- The 12-byte DT at offset o, extended with the high seconds of the present DT (R410). -/
def State.dtArg (s : State) (l : List Byte) (o : Nat) : DtField :=
  let ns := le32 l (o + 6)
  { sec := le32 l o + 4294967296 * le16 l (o + 4) + s.now.sec / 2 ^ 48 * 2 ^ 48, ns := ns % 2 ^ 30, frac := le16 l (o + 10),
    resvZero := decide (ns < 2 ^ 30) }

/-- Forms of R406: the first that holds, in the order of its table. -/
def formDetail (field buffer : Bool) : Option Nat := if field then some 3 else if buffer then some 4 else none

/-- Buffer checks of R406: address 4-byte aligned. -/
def bufBad (addr : Nat) : Bool := decide (addr % 4 ≠ 0)

/-- Refuse a command: a refused TXN_STAGE carries handle 0xFFFF (R415). -/
def State.refuseCmd (s : State) (c : HostCmd) (src : Src) (st : Status) (detail : Nat) : State :=
  s.reply src st detail true (if c.kind = 2 then leBytes 2 0xFFFF else [])

/-- The event of a command that outlived a reset is not written (R389). -/
def Src.isOrphan : Src → Bool
  | .host r _ _ => decide (r = noRing)
  | _ => false

/-- A failed read of the command's buffer (R406, R421). -/
def State.readFailed (s : State) (src : Src) : State :=
  ((s.inc HIF_CNT2_DMA_ERR).raiseEv { src := 699, orphan := src.isOrphan }).refuse src .internal 5

/-- A form refusal of a transaction command is a refusal with BAD_OBJECT, which `TXN_ERR` records (R276). (DEDUCED, log 91.) -/
def State.formErr (s : State) (c : HostCmd) : State :=
  if c.kind = 2 then s.txnErr none 1 0x7F
  else if c.kind = 3 ∨ c.kind = 4 then s.txnErr (some (le16 c.desc 8)) 1 0x7F
  else s

/-- The same for a command that its kind or header refuses; an OBJECT_LOAD of a plan or an edit is one of those that R276 records. (DEDUCED,
log 91.) -/
def State.headErr (s : State) (c : HostCmd) : State :=
  if c.kind = 1 ∧ (u8 c.desc 20 = 1 ∨ u8 c.desc 20 = 2) then s.txnErr none 1 0x7F else s.formErr c

/-- Carry out f when neither a form check nor the buffer read fails, and otherwise answer the failure. -/
def State.withForm (s : State) (c : HostCmd) (src : Src) (field buffer : Bool) (f : State → State) : State :=
  match formDetail (field || !c.headerOk) buffer with
  | some d => (s.formErr c).refuseCmd c src .badObject d
  | none => if c.readOk then f s else s.readFailed src

end Sys2Proof.Machine
end

