-- ==== Sys2Proof/Machine/Calendar.lean ====
section
/-! DEFINITION. Commands of the calendar: START, STOP, SWAP, issue points and cycle boundaries (chapter 8). -/

namespace Sys2Proof.Machine

open Reg

/-! ### Starting, stopping and swapping (R287 to R298) -/

/-- m + t_ISS in ns (R292, R295). (DEDUCED, log 94.) -/
def State.issueNs (s : State) : Nat := s.margin + 5000

/-- `CAL_LEAD` is below m + t_ISS (R295, R297). -/
def State.leadShort (s : State) : Bool := decide (s.reg CAL_CTRL_CAL_LEAD * 1000 < s.issueNs)

/-- `CAL_LEAD` in ticks. -/
def State.leadTicks (s : State) : Nat := usTicks (s.reg CAL_CTRL_CAL_LEAD)

/-- The domains of list n meet those of a live list other than n and `but` (R299). -/
def State.domsMeet (s : State) (n but : Nat) : Bool :=
  allLists.any (fun k => decide (k ≠ n) && decide (k ≠ but) && s.listLive k && decide (Nat.land (s.listDoms n) (s.listDoms k) ≠ 0))

/-- Tick c lies at least m + t_ISS after now. (DEDUCED, log 94.) -/
def State.ahead (s : State) (c : Nat) : Bool := decide (s.dt * unitsPerTick + s.issueNs * 65536 ≤ c * unitsPerTick)

/-- The least tick at least m + t_ISS after now. -/
def State.earliest (s : State) : Nat := (s.dt * unitsPerTick + s.issueNs * 65536 + (unitsPerTick - 1)) / unitsPerTick

/-- List n waits on base b with its counters at the start (R295, R297, R302). -/
def State.startList (s : State) (n b : Nat) : State :=
  let s := s.modCalList n (fun l => { l with base := b, cycle := 0, q := 0, passed := 0, spent := false, stopAt := none,
                                             stopSrc := .nobody, lastHandle := none })
  ((s.setReg CAL_L_POS_NEXT n 0).setReg CAL_L_CYCLES_CYCLES n 0).setListSt n calWaiting

/-- The base, in ticks, on which a START runs the list, and its status; none for a late list of policy REJECT (R295). -/
def State.startBase (s : State) (n : Nat) : Option (Nat × Status) :=
  match (s.calList n).desc with
  | none => none
  | some d =>
    let b := d.base.tick
    let t0 := (s.listEnt n 0).rel
    let need := s.earliest
    if s.ahead (b + t0) then some (b, .done)
    else match (s.listEnt n 0).late with
      | 1 => if d.cycle = 0 then none
             else some (b + max 1 ((need - (b + t0) + (d.cycle - 1)) / d.cycle) * d.cycle, .lateAligned)
      | 2 => some ((need - t0 + (ticksPerFrame - 1)) / ticksPerFrame * ticksPerFrame, .lateNow)
      | _ => none

/-- The same for `src`: a START that the active forwards was not late there. (DEDUCED, log 112.) -/
def State.startFor (s : State) (src : Src) (n : Nat) : Option (Nat × Status) :=
  match src, s.startBase n, (s.calList n).desc with
  | .twin _, none, some d => some (d.base.tick, .done)
  | _, b, _ => b

/-- START of list a (R290, R295). -/
def State.calStart (s : State) (c : HostCmd) (src : Src) (a : Nat) : State :=
  let bad := decide (s.listSt a ≠ calIdle) || s.leadShort || s.domsMeet a a
  let base := s.startFor src a
  match firstRefusal [(bad, .badObject), (!s.mayAct src, .notActive), (base.isNone, .lateReject)] with
  | some st => s.refuse src st 0
  | none =>
    match base with
    | none => s
    | some (b, st) =>
      let s := s.startList a b
      let s := if st = .done then s else s.setFlag CAL_L_STATE_LATE a true
      (s.reply src st 0 true []).forwardHost 0xFFFF c

/-- The first cycle boundary of list n at or after tick x (R296). -/
def State.boundaryFrom (s : State) (n x : Nat) : Nat :=
  let b := (s.calList n).base
  let t := s.listCycle n
  if x ≤ b then b else b + (x - b + (t - 1)) / t * t

/-- STOP_BOUNDARY of list a (R290, R298). -/
def State.calStopBoundary (s : State) (c : HostCmd) (src : Src) (a : Nat) : State :=
  let bad := !s.listLive a || s.flag CAL_L_STATE_SWAP_PEND a || s.flag CAL_L_STATE_STOP_PEND a
  match firstRefusal [(bad, .badObject), (!s.mayAct src, .notActive)] with
  | some st => s.refuse src st 0
  | none =>
    let x := if s.listCycle a = 0 then none else some (s.boundaryFrom a (s.dt + s.leadTicks))
    let s := s.setFlag CAL_L_STATE_STOP_PEND a true
    let s := s.modCalList a (fun l => { l with stopAt := x, stopSrc := src })
    (s.reply src .queued 0 false []).forwardHost 0xFFFF c

/-- List a is the replacement list of a pending swap (R290). -/
def State.isReplacement (s : State) (a : Nat) : Bool :=
  allLists.any (fun n => s.flag CAL_L_STATE_SWAP_PEND n && decide (s.reg CAL_L_STATE_SWAP_WITH n = a))

/-- Lists a cancelled swap returns to `IDLE`: list n, the replacement, with what it was itself to be replaced by or stopped at. At most 16
lists can stand in such a chain. (DEDUCED, log 111.) -/
def State.cancelList : Nat → Nat → State → State
  | 0, _, s => s
  | k + 1, n, s =>
    let owed := (s.calList n).stopSrc
    let b := s.reg CAL_L_STATE_SWAP_WITH n
    let swap := s.flag CAL_L_STATE_SWAP_PEND n
    let stop := s.flag CAL_L_STATE_STOP_PEND n
    let s := s.idleList n
    let s := if swap then (State.cancelList k b s).reply owed .aborted 0 true [] else s
    if stop then s.reply owed .done 0 true [] else s

/-- STOP_NOW of list a (R290, R298). -/
def State.calStopNow (s : State) (c : HostCmd) (src : Src) (a : Nat) : State :=
  match firstRefusal [(!s.listLive a || s.isReplacement a, .badObject), (!s.mayAct src, .notActive)] with
  | some st => s.refuse src st 0
  | none =>
    let owed := (s.calList a).stopSrc
    let b := s.reg CAL_L_STATE_SWAP_WITH a
    let swap := s.flag CAL_L_STATE_SWAP_PEND a
    let stop := s.flag CAL_L_STATE_STOP_PEND a
    let s := s.endList a
    let s := if swap then (State.cancelList 16 b s).reply owed .aborted 0 true [] else s
    let s := if stop then s.reply owed .done 0 true [] else s
    (s.reply src .done 0 true []).forwardHost 0xFFFF c

/-- SWAP of list a for list b (R297). -/
def State.calSwap (s : State) (c : HostCmd) (src : Src) (a b : Nat) : State :=
  let t := s.listCycle a
  let gap := t - (s.listEnt a (s.listCount a - 1)).rel + (s.listEnt b 0).rel
  let bad := decide (t = 0) || !s.listLive a || s.flag CAL_L_STATE_SWAP_PEND a || s.flag CAL_L_STATE_STOP_PEND a ||
    decide (s.listSt b ≠ calIdle) || s.leadShort || s.domsMeet b a || decide (gap < 6400)
  match firstRefusal [(bad, .badObject), (!s.mayAct src, .notActive)] with
  | some st => s.refuse src st 0
  | none =>
    let x := s.boundaryFrom a (s.dt + s.leadTicks)
    let s := s.startList b x
    let s := (s.setFlag CAL_L_STATE_SWAP_PEND a true).setReg CAL_L_STATE_SWAP_WITH a b
    let s := s.setReg CAL_L_STATE_SWAP_WITH b a
    let s := s.modCalList a (fun l => { l with stopAt := some x, stopSrc := src })
    (s.reply src .queued 0 false []).forwardHost 0xFFFF c

/-- A calendar action carried by a TABLE_COMMIT (R287, R410). -/
def State.calAction (s : State) (c : HostCmd) (src : Src) : State :=
  let act := u8 c.desc 9
  let a := u8 c.desc 10
  let b := u8 c.desc 11
  let bad := decide (act < 1 ∨ 4 < act ∨ 15 < a ∨ 15 < b) || (decide (act ≠ 4) && decide (b ≠ 0)) || !zeros c.desc 12 52
  s.withForm c src bad false (fun s =>
    if act = 1 then s.calStart c src a
    else if act = 2 then s.calStopBoundary c src a
    else if act = 3 then s.calStopNow c src a
    else s.calSwap c src a b)

/-- A TABLE_COMMIT of the calendar list table with this action code. -/
def State.calRow (s : State) (c : HostCmd) (act : Nat) : State :=
  s.hostRow c 0x09 (fun c s => if u8 c.desc 8 = 0x11 ∧ u8 c.desc 9 = act then s.calAction c c.src else s)

/-- R295. -/
def execStart (c : HostCmd) (s : State) : Host.Outcome State Fault Refusal := .next (s.calRow c 1)
/-- R298. -/
def execStopBoundary (c : HostCmd) (s : State) : Host.Outcome State Fault Refusal := .next (s.calRow c 2)
/-- R298. -/
def execStopNow (c : HostCmd) (s : State) : Host.Outcome State Fault Refusal := .next (s.calRow c 3)
/-- R297. -/
def execSwap (c : HostCmd) (s : State) : Host.Outcome State Fault Refusal := .next (s.calRow c 4)

/-! ### Issue points (R291 to R294, R301, R302) -/

/-- The commit tick of the next instance of list n. -/
def State.nextCommit (s : State) (n : Nat) : Nat :=
  (s.calList n).base + (s.calList n).cycle * s.listCycle n + (s.listEnt n (s.reg CAL_L_POS_NEXT n)).rel

/-- The actions an entry issues (R282). -/
def CalEnt.plan (e : CalEnt) : Option (Nat × Nat) := if e.kind = 1 then some (e.ref, e.doms) else none
def CalEnt.edits (e : CalEnt) : List Nat := if e.kind = 2 then [e.ref] else []

/-- R301: a transaction with a commit tick close to c holds a tile of the entry's domains. -/
def State.collides (s : State) (c doms : Nat) : Bool :=
  allSlots.any (fun i =>
    let t := s.slot i
    decide (t.st ≠ .free) && (match t.commit with
      | some c' => near c c' && t.tiles.any (fun k => bit doms (domOf k) && s.populated k)
      | none => false))

/-- k of R302. -/
def State.throttleK (s : State) : Nat :=
  let f := s.reg KLN_THROTTLE_F_NOW
  if f = 0 then 5 else (256 + f - 1) / f

/-- The sequencer moves to the next instance. -/
def State.nextInstance (s : State) (n : Nat) : State :=
  let i := s.reg CAL_L_POS_NEXT n
  if i + 1 < s.listCount n then s.setReg CAL_L_POS_NEXT n (i + 1)
  else if s.listCycle n = 0 then s.modCalList n (fun l => { l with spent := true })
  else (s.setReg CAL_L_POS_NEXT n 0).modCalList n (fun l => { l with cycle := l.cycle + 1 })

/-- An instance that is not issued: counted, recorded and reported over TL (R291, R434). -/
def State.notIssued (s : State) (n i : Nat) (f : Fd) (st : Status) : State :=
  let cyc := (s.calList n).cycle
  let c := s.nextCommit n
  let s := (s.inc f n).setReg CAL_L_STATE_LAST_STATUS n st.code
  let s := s.note 0xFFFF 5 st.code (some c) 0 0xFFFF n i cyc
  (s.nextInstance n).endOneShot n

/-- R605: the sequencer's read of a pool entry, plan or edit met the uncorrectable word w, and the instance is not issued. -/
def State.readFail (s : State) (n i w : Nat) (ess : Bool) : State :=
  ((s.eccError (8 * w) false).notIssued n i CAL_L_CNT1_FAILED .internal).essFail n i ess .internal

/-- An uncorrectable word in what entry e names. -/
def State.badObject (s : State) (e : CalEnt) : Option (Nat × Nat) :=
  if e.kind = 1 then s.badIn (planAddr e.ref) 0xC000 else s.badEdit e.ref

/-- An uncorrectable word in pool entry i of list n. -/
def State.badEntry (s : State) (n i : Nat) : Option (Nat × Nat) :=
  match (s.calList n).desc with
  | some d => s.badIn (poolAddr (d.first + i)) 16
  | none => none

/-- The instance is issued if what its entry names can be read (R291, R605). -/
def State.issueRead (s : State) (n i : Nat) (e : CalEnt) (f : State → State) : State :=
  match s.badObject e with
  | some w => s.readFail n i w.1 e.ess
  | none => f s

/-- Step 4 of R291: the instance is issued as a TXN_STAGE with its commit DT. -/
def State.issue (s : State) (n i : Nat) (e : CalEnt) (c : Nat) : State :=
  let cyc := (s.calList n).cycle
  let maskBad := decide (e.kind = 2) && (match s.edit e.ref with
    | some d => decide (d.mask ≠ e.doms)
    | none => false)
  let r : StageReq := { src := .calendar n i cyc e.ess, plan := e.plan, edits := e.edits, commit := some (c * unitsPerTick, c), arrival := s.dt }
  let checked := if maskBad then some (Status.badObject, 3) else s.stageChecks r.plan r.edits r.commit r.arrival true
  let last := decide (s.listCycle n = 0) && decide (s.listCount n ≤ i + 1)
  let s := (s.inc CAL_L_ISSUED_ISSUED n).setListSt n calRunning
  match checked with
  | some (st, reason) =>
    let s := if st = .badObject then s.txnErr none reason 0x7F else s
    let s := s.note 0xFFFF 1 0 (some c) 0 0xFFFF n i cyc
    (s.nextInstance n).calOutcome n i e.ess 0xFFFF st
  | none =>
    let (s, h) := s.stageTxn r
    let s := s.note (h.getD 0xFFFF) 1 0 (some c) 0 0xFFFF n i cyc
    let s := s.nextInstance n
    if last then s.modCalList n (fun l => { l with lastHandle := h }) else s

/-- R291: the issue point of the next instance of list n, which waits for a free pending bank in every involved tile. -/
def State.issuePoint (s : State) (n : Nat) : State :=
  let l := s.calList n
  let i := s.reg CAL_L_POS_NEXT n
  let e := s.listEnt n i
  let c := s.nextCommit n
  let past := l.spent || (match l.stopAt with
    | some x => decide (x ≤ c)
    | none => false)
  if !s.leads || !s.listLive n || past then s
  else
    let s := s.advanceTo (c - s.leadTicks)
    if let some w := s.badEntry n i then s.readFail n i w.1 e.ess
    else if (s.tilesOf e.plan e.edits).any (fun t => (s.freeBank t).isNone) then s
    else if s.collides c e.doms then (s.notIssued n i CAL_L_CNT1_COLLIDED .conflict).raiseOut 623 .conflict (infoCal n i)
    else if !s.ahead c then (s.notIssued n i CAL_L_CNT0_MISSED .notArmed).essFail n i e.ess .notArmed
    else if e.ess then s.issueRead n i e (fun s => s.issue n i e c)
    else
      let k := s.throttleK
      let s := (s.setReg CAL_THROTTLE_K 0 k).modCalList n (fun l => { l with q := l.q + 1 })
      if l.q % k = 0 then s.issueRead n i e (fun s => s.issue n i e c) else s.notIssued n i CAL_L_CNT0_SKIPPED .throttled

def execCalIssuePoint (n : Nat) (s : State) : Host.Outcome State Fault Refusal := .next (if n < 16 ∧ s.retiring mtxCalendar = false then s.issuePoint n else s)

/-! ### Cycle boundaries (R296 to R298) -/

/-- The list reaches the boundary at which it stops or is replaced. -/
def State.stopAtBoundary (s : State) (n : Nat) : State :=
  let owed := (s.calList n).stopSrc
  (s.endList n).reply owed .done 0 true []

/-- R296: the next cycle boundary of list n. -/
def State.cycleBoundary (s : State) (n : Nat) : State :=
  let l := s.calList n
  let t := s.listCycle n
  if !s.listLive n || decide (t = 0) then s
  else
    let next := l.base + (l.passed + 1) * t
    match l.stopAt with
    | some x =>
      if x < next then (s.advanceTo x).stopAtBoundary n
      else
        let s := (s.advanceTo next).inc CAL_L_CYCLES_CYCLES n
        let s := s.modCalList n (fun l => { l with passed := l.passed + 1 })
        if x = next then s.stopAtBoundary n else s
    | none => ((s.advanceTo next).inc CAL_L_CYCLES_CYCLES n).modCalList n (fun l => { l with passed := l.passed + 1 })

def execCalCycleBoundary (n : Nat) (s : State) : Host.Outcome State Fault Refusal := .next (if n < 16 then s.cycleBoundary n else s)

/-! ### Becoming active (R304) -/

/-- The first entry of list n at or after index i whose instance in cycle k commits at least m + t_ISS ahead. -/
def State.firstAhead (s : State) (n i k : Nat) : Option Nat :=
  (s.listEnts n).findSome? (fun (j, e) => if i ≤ j ∧ s.ahead ((s.calList n).base + k * s.listCycle n + e.rel) then some j else none)

/-- On becoming `ACTIVE` or `SOLO` a live list goes on with the first instance far enough ahead; none before it counts as missed. -/
def State.calResume (s : State) (n : Nat) : State :=
  let l := s.calList n
  let t := s.listCycle n
  let i := s.reg CAL_L_POS_NEXT n
  if !s.listLive n then s
  else if l.spent then s.endOneShot n
  else if t = 0 then match s.firstAhead n i 0 with
    | some j => s.setReg CAL_L_POS_NEXT n j
    | none => (s.modCalList n (fun l => { l with spent := true })).endOneShot n
  else
    let k := max l.cycle ((s.earliest - l.base) / t)
    match s.firstAhead n (if k = l.cycle then i else 0) k with
    | some j => (s.setReg CAL_L_POS_NEXT n j).modCalList n (fun l => { l with cycle := k })
    | none => (s.setReg CAL_L_POS_NEXT n 0).modCalList n (fun l => { l with cycle := k + 1 })

end Sys2Proof.Machine
end

