-- ==== Sys2Proof/Machine/Tables.lean ====
section
/-! DEFINITION. The tables that host software writes and commits: their entries' layouts and limits, TABLE_WRITE and TABLE_COMMIT
(R176 to R181, R281 to R286, R334, R335, R351, R354, R359, R360, R398, R399, R411). -/

namespace Sys2Proof.Machine

open Reg

/-- `n` pieces of `size` bytes. -/
def chunks (size : Nat) : Nat → List Byte → List (List Byte)
  | 0, _ => []
  | n + 1, l => l.take size :: chunks size n (l.drop size)

/-! ### Layouts -/

/-- Q8.15 as a 32-bit value holds it. -/
def q815 (x : Int) : Bool := decide (-8388608 ≤ x) && decide (x ≤ 8388607)

/-- A gain set, when it passes R177. -/
def GainSet.parse (l : List Byte) : Option GainSet :=
  let z (k : Nat) : Int := les32 l (0xA8 + 4 * k)
  let g : GainSet := { a := les16s l 0 16, b := les16s l 0x20 8, c := les16s l 0x30 8, l := les16s l 0x40 8, k := les16s l 0x50 8,
                       ki := les16s l 0x60 2, nbrUse := le16 l 0x64, n := les16s l 0x68 32,
                       zmin0 := z 0, zmax0 := z 1, zmin1 := z 2, zmax1 := z 3, innovMax := les32 l 0xB8 }
  let limits (lo hi : Int) : Bool := decide (lo < hi) && q815 lo && q815 hi && decide (lo ≤ 0) && decide (0 ≤ hi)
  if decide (le32 l 0xFC = crc32 (l.take 0xFC)) && decide (les16 l 0x60 ≠ 0) && decide (les16 l 0x62 ≠ 0) && limits g.zmin0 g.zmax0 &&
      limits g.zmin1 g.zmax1 && decide (0 < g.innovMax) && q815 g.innovMax && decide (g.nbrUse < 16) && zeros l 0x66 2 && zeros l 0xBC 64
  then some g else none

/-- The entry of element e in the lane configuration table, when it keeps the limits of R180. -/
def LaneCfg.parse (e : Nat) (l : List Byte) : Option LaneCfg :=
  let nbr := (List.range 4).map (fun i => u8 l (4 + i))
  let named := nbr.filter (fun n => decide (n ≠ 255))
  let c : LaneCfg := { sRef := le32 l 0, nbr := nbr, ramp := le16 l 8, gsFix := u8 l 10 % 64, gsFixEn := bit (u8 l 10) 6,
                       loopEn := bit (u8 l 11) 0 }
  if decide (1 ≤ c.sRef ∧ c.sRef ≤ 2031488) && named.all (fun n => decide (n < 128) && decide (n ≠ e)) && decide named.Nodup &&
      decide (1 ≤ c.ramp) && decide (u8 l 10 < 128) && decide (u8 l 11 < 2) && zeros l 12 4
  then some c else none

/-- A firefly entry (R109). -/
def fireflyOk (v : Nat) : Bool := decide (v < 2 ^ 25) && (!bit v 24 || decide (335545 ≤ v % 2 ^ 24 ∧ v % 2 ^ 24 ≤ 2516582))

/-- A feedforward curve entry (R181). -/
def Curve.parse (l : List Byte) : Option Curve :=
  if decide (le32 l 124 = crc32 (l.take 124)) && zeros l 68 56 then some { pri := le16s l 0 17, trim := le16s l 34 17 } else none

/-- A list descriptor's fields (R284), and whether its reserved fields are 0. -/
def ListDesc.parse (l : List Byte) : ListDesc × Bool :=
  ({ base := dtAt l 0, first := le32 l 16, count := le32 l 20, cycle := le32 l 24, tag := le16 l 28 },
   decide (le32 l 16 < 2 ^ 18) && decide (le32 l 20 < 2 ^ 19) && zeros l 30 2)

/-- A tenant entry, when it keeps the limits of R334. -/
def Tenant.parse (l : List Byte) : Option Tenant :=
  let f := u8 l 14
  let t : Tenant := { rate := le32 l 0, cir := le32 l 4, cbs := le16 l 8, ebs := le16 l 10, hi := le16 l 12, prio := f % 8,
                      redDefer := bit f 3, police := bit f 4, en := bit f 5, profile := u8 l 15 }
  if t.rate ≤ 4000000000 ∧ t.cir ≤ 4000000000 ∧ 1 ≤ t.hi ∧ f < 64 ∧ t.profile < 16 then some t else none

/-- A class entry, when it keeps the limits of R335. -/
def ClassProf.parse (l : List Byte) : Option ClassProf :=
  let c : ClassProf := { share := le16 l 0, hi := le16 l 2, qmax := le16 l 4, maxWait := le16 l 6 }
  if 1 ≤ c.hi ∧ 1 ≤ c.qmax ∧ c.qmax ≤ 1024 ∧ 1 ≤ c.maxWait then some c else none

/-- 16 bytes as a number, byte 0 least significant (R350). -/
def le128 (l : List Byte) (o : Nat) : Nat := le64 l o + 2 ^ 64 * le64 l (o + 8)

/-- A protocol entry (R351). -/
def Proto.parse (l : List Byte) : Option Proto :=
  let p : Proto := { key := le128 l 0, mask := le128 l 16, protoId := u8 l 32, gcrp := bit (u8 l 33) 0, mdata := le16 l 34,
                     valid := bit (u8 l 36) 0 }
  if decide (1 ≤ p.protoId) && decide (u8 l 33 < 2) && decide (u8 l 36 < 2) && zeros l 37 11 then some p else none

/-- An action entry (R354). A ring pair that the entry uses may not be 0. (DESIGN CHOICE, log 45.) -/
def Act.parse (l : List Byte) : Option Act :=
  let f := u8 l 32
  let a : Act := { key := le128 l 0, mask := le128 l 16, action := f % 4, mirror := bit f 2, setClass := bit f 3, cls := getBits f 4 3,
                   dest := u8 l 33, ring := le16 l 34, mirrorRing := le16 l 36, lClass := u8 l 38 % 8, lColour := getBits (u8 l 38) 3 2,
                   lQueue := u8 l 39, valid := bit (u8 l 40) 0 }
  if decide (a.action < 3) && decide (f < 128) && decide (a.dest < 3) && decide (1 ≤ a.ring) && decide (1 ≤ a.mirrorRing) &&
      decide (a.lColour < 3) && decide (u8 l 38 < 32) && decide (a.lQueue < 16) && decide (u8 l 40 < 2) && zeros l 41 7
  then some a else none

/-- A ring context (R398) and its `EN`. -/
def Ring.parse (l : List Byte) : Option (Ring × Bool) :=
  let s := u8 l 16
  let v := le16 l 18
  let g : Ring := { cmdBase := le64 l 0, cplBase := le64 l 8, cmdLog2 := s % 16, cplLog2 := s / 16, recv := bit (u8 l 17) 1,
                    poll := bit (u8 l 17) 2, vector := v, tenant := le16 l 20 % 4096, cls := getBits (le16 l 20) 12 3, coalCnt := le16 l 22,
                    coalUs := le16 l 24, kinds := le16 l 26 }
  if decide (g.cmdBase % 64 = 0) && decide (g.cplBase % 64 = 0) && decide (4 ≤ g.cmdLog2) && decide (g.cmdLog2 < 16) &&
      decide (4 ≤ g.cplLog2) && decide (g.cplLog2 < 16) && decide (u8 l 17 < 8) && (decide (v < 2048) || decide (v = 0xFFFF)) &&
      decide (le16 l 20 < 32768) && decide (g.kinds % 2 = 0) && zeros l 28 36
  then some (g, bit (u8 l 17) 0) else none

/-- Every element is there. -/
def allSome {α : Type} : List (Option α) → Option (List α)
  | [] => some []
  | none :: _ => none
  | some a :: r => (allSome r).map (fun l => a :: l)

/-! ### Tile tables (R176) -/

/-- The tiles that a `TILE` field names. -/
def State.tileArg (s : State) (t : Nat) : List Nat := if t = 0xFF then allTiles.filter s.populated else [t]

def Tile.putGain (es : List (Nat × Option GainSet)) (tl : Tile) : Tile := { tl with gain := tl.gain.put none es }
def Tile.putLcfg (es : List (Nat × LaneCfg)) (tl : Tile) : Tile := { tl with lcfg := tl.lcfg.put {} es }
def Tile.putFirefly (es : List (Nat × Nat)) (tl : Tile) : Tile := { tl with firefly := tl.firefly.put 0 es }
def Tile.putCurves (es : List (Nat × Curve)) (tl : Tile) : Tile := { tl with curves := tl.curves.put {} es }

/-- `LOOP_BANK` of tile t follows its tables. -/
def State.loopBank (s : State) (t : Nat) : State :=
  let tl := s.tile t
  let s := ((s.setReg LOOP_BANK_GAIN_LIVE t tl.gain.bank).setReg LOOP_BANK_LCFG_LIVE t tl.lcfg.bank).setReg LOOP_BANK_FFC_LIVE t tl.curves.bank
  ((s.setFlag LOOP_BANK_GAIN_PEND t tl.gain.pend).setFlag LOOP_BANK_LCFG_PEND t tl.lcfg.pend).setFlag LOOP_BANK_FFC_PEND t tl.curves.pend

/-- Exchanges still to come in a banked table. -/
def Banked.commits {α : Type} (b : Banked α) : Nat :=
  b2n b.pend + (b.held.filter (fun h => match h with
    | .commit => true
    | .write _ => false)).length

/-- Commit table k (1 gain sets, 2 lane configuration, 3 firefly, 4 curves) of a tile; answers the exchanges until it is live. -/
def Tile.commitTable (k : Nat) (tl : Tile) : Tile × Nat :=
  match k with
  | 1 => ({ tl with gain := tl.gain.commit }, tl.gain.commits + 1)
  | 2 => ({ tl with lcfg := tl.lcfg.commit }, tl.lcfg.commits + 1)
  | 3 => ({ tl with firefly := tl.firefly.commit }, tl.firefly.commits + 1)
  | _ => ({ tl with curves := tl.curves.commit }, tl.curves.commits + 1)

/-- Commit table k of every tile of a mask; the command completes when every tile has exchanged (R411). -/
def State.commitTiles (s : State) (src : Src) (k mask : Nat) : State :=
  let ts := bitsOf 96 mask
  let w := ts.map (fun t => (t, ((s.tile t).commitTable k).2))
  let s := s.forEach (fun s t => (s.modTile t (fun tl => (tl.commitTable k).1)).loopBank t) ts
  { s with swaps := s.swaps ++ [{ src := src, table := k, waits := w }] }

/-- The exchanges of one tile at a frame marker: what is pending becomes live (R176). -/
def Tile.exchangeTables (tl : Tile) : Tile :=
  { tl with gain := tl.gain.exchange none, lcfg := tl.lcfg.exchange {}, firefly := tl.firefly.exchange 0,
            curves := tl.curves.exchange {}, bankChanged := tl.gain.pend || tl.lcfg.pend }

/-- Is table k of the tile pending? -/
def Tile.tablePend (tl : Tile) (k : Nat) : Bool :=
  match k with
  | 1 => tl.gain.pend
  | 2 => tl.lcfg.pend
  | 3 => tl.firefly.pend
  | _ => tl.curves.pend

/-- The exchanges of every tile at a frame marker, and the commits that they complete. -/
def State.exchangeTiles (s : State) : State :=
  let live (k t : Nat) : Bool := (s.tile t).tablePend k
  let left (w : Swap) : List (Nat × Nat) :=
    (w.waits.map (fun p => (p.1, if live w.table p.1 then p.2 - 1 else p.2))).filter (fun p => decide (p.2 ≠ 0))
  let sw := s.swaps.map (fun w => { w with waits := left w })
  let s := s.forEach (fun s t => (s.modTile t Tile.exchangeTables).loopBank t) allTiles
  let s := { s with swaps := sw.filter (fun w => !w.waits.isEmpty) }
  (sw.filter (fun w => w.waits.isEmpty)).foldl (fun s w => s.reply w.src .done 0 true []) s

/-! ### The calendar (R285, R286) -/

/-- The pool entry i, with the entries of a write in place. -/
def poolAfter (s : State) (i : Nat) : CalEnt := s.poolEnt i

/-- R285: the descriptor passes with the pool as it stands. -/
def State.listOk (s : State) (d : ListDesc) (resv : Bool) : Bool :=
  let es := (List.range d.count).map (fun i => poolAfter s (d.first + i))
  let ts := es.map CalEnt.rel
  let pairs := ts.zip (ts.drop 1)
  resv && decide (1 ≤ d.count) && decide (d.first + d.count ≤ 262144) && d.base.ok && decide (d.base.ns % 2500 = 0) &&
    decide (d.base.frac = 0) && (decide (d.cycle = 0) || (decide (6400 ≤ d.cycle) && decide (d.cycle % 100 = 0))) &&
    pairs.all (fun p => decide (p.1 + 6400 ≤ p.2)) && ts.all (fun t => decide (t % 100 < 41 ∨ 49 < t % 100)) &&
    (decide (d.cycle = 0) || (decide (ts.getLastD 0 < d.cycle) && decide (6400 ≤ d.cycle - ts.getLastD 0 + ts.headD 0))) &&
    es.all CalEnt.ok && (es.drop 1).all (fun e => decide (e.late = 0)) &&
    !(decide (d.cycle = 0) && decide ((es.headD (CalEnt.parse 0)).late = 1))

/-- The list's range holds some entry of `first` … `first + n − 1`. -/
def State.listHits (s : State) (k first n : Nat) : Bool :=
  match (s.calList k).desc with
  | some d => decide (n ≠ 0) && decide (first < d.first + d.count) && decide (d.first < first + n)
  | none => false

/-- Store pool entries; an `IDLE` list that names one becomes `EMPTY` (R286). -/
def State.putPool (s : State) (first : Nat) (vs : List Nat) : State :=
  let pool := (vs.zipIdx).foldl (fun t (v, i) => t.write none (first + i) (some v)) s.cal.pool
  let s := ({ s with cal := { s.cal with pool := pool } } : State).heal (poolAddr first) (16 * vs.length)
  s.forEach (fun s k => if s.listSt k = calIdle ∧ s.listHits k first vs.length
    then (s.setListSt k calEmpty).modCalList k (fun l => { l with desc := none }) else s) allLists

/-- Store list descriptors: each list named becomes `IDLE`. -/
def State.putLists (s : State) (first : Nat) (ds : List ListDesc) : State :=
  (ds.zipIdx).foldl (fun s (d, i) => (s.setListSt (first + i) calIdle).modCalList (first + i) (fun l => { l with desc := some d })) s

/-! ### Admission tables (R335) -/

/-- `ADM_STATUS` follows the tables' banks. -/
def State.admStatus (s : State) : State :=
  let a := s.adm
  (((s.setReg ADM_STATUS_TENANT_LIVE 0 a.tenants.bank).setReg ADM_STATUS_PROFILE_LIVE 0 a.profiles.bank).setFlag
    ADM_STATUS_TENANT_PEND 0 a.tenants.pend).setFlag ADM_STATUS_PROFILE_PEND 0 a.profiles.pend

/-- Some enabled tenant names a profile that holds a class with `QMAX` = 0. -/
def admTablesBad (tenants : Tab Tenant) (profiles : Tab ClassProf) : Bool :=
  tenants.any (fun p => p.2.en && (List.range 8).any (fun k => decide ((profiles.read {} (8 * p.2.profile + k)).qmax = 0)))

/-- The bank that a commit of the table would make live: the standby bank as it will stand. -/
def Banked.committed {α : Type} [DecidableEq α] (d : α) (b : Banked α) : Tab α :=
  if b.pend then b.held.foldl (fun t h => match h with
    | .write es => Tab.writes d es t
    | .commit => t) b.live
  else b.standby

/-- The bank that is live after the next refill. -/
def Banked.next {α : Type} (b : Banked α) : Tab α := if b.pend then b.standby else b.live

/-- R335: would the commit of table k (0x20 tenants, 0x21 profiles) be refused? -/
def State.admCommitBad (s : State) (k : Nat) : Bool :=
  let a := s.adm
  if k = 0x20 then admTablesBad (a.tenants.committed {}) a.profiles.next else admTablesBad a.tenants.next (a.profiles.committed {})

/-! ### The classifier (R359, R360) -/

/-- Write entries to the standby bank. -/
def Rules.putProtos (r : Rules) (es : List (Nat × Proto)) : Rules := { r with protos := Tab.writes {} es r.protos }
def Rules.putActs (r : Rules) (es : List (Nat × Act)) : Rules := { r with acts := Tab.writes {} es r.acts }

/-- Nothing of the frame is left to do: it was dropped, or its action is DROP without a mirror (R355, R357). -/
def Waiting.gone (w : Waiting) : Bool :=
  match w.what with
  | .drop => true
  | .act a => decide (a.action = 0) && !a.mirror
  | _ => false

/-- The version commit (R359). -/
def State.clsCommit (s : State) (src : Src) : State :=
  let v := s.reg CPX_STATUS_LIVE_VER
  let new := (v + 1) % 256
  let old := s.cpx.inside.any (fun f => decide (f.ver = v)) || s.cpx.reorder.any (fun w => decide (w.frame.ver = v) && !w.gone)
  let s := { s with cpx := { s.cpx with live := s.cpx.standby, standby := s.cpx.live, commitAt := s.tick } }
  let s := (s.setReg CPX_STATUS_LIVE_VER 0 new).setReg CPX_STATUS_OLD_VER 0 v
  let s := s.setFlag CPX_STATUS_DRAINING 0 old
  let s := (s.setReg CPX_CTRL_MODE_LIVE 0 (s.reg CPX_CTRL_MODE)).setReg CPX_CTRL_CHAIN_LIVE 0 (s.reg CPX_CTRL_CHAIN)
  s.reply src .done 0 true (leBytes 1 new)

/-- The classifier takes writes and commits now: the older version has drained and nothing waits before them (R360). -/
def State.clsReady (s : State) : Bool := !s.flag CPX_STATUS_DRAINING && s.cpx.waitq.isEmpty

/-- Carry out one write or commit. -/
def State.clsDo (s : State) : ClsOp → State
  | .protos es src => ({ s with cpx := { s.cpx with standby := s.cpx.standby.putProtos es } }).reply src .done 0 true []
  | .acts es src => ({ s with cpx := { s.cpx with standby := s.cpx.standby.putActs es } }).reply src .done 0 true []
  | .commit src => s.clsCommit src

/-- Carry out waiting operations in arrival order, until a commit leaves an older version to drain. -/
def State.clsRun : List ClsOp → State → State
  | [], s => { s with cpx := { s.cpx with waitq := [] } }
  | op :: r, s =>
    let s := s.clsDo op
    if s.flag CPX_STATUS_DRAINING then { s with cpx := { s.cpx with waitq := r } } else State.clsRun r s

/-- `COMMIT_WAIT` follows the waiting operations. -/
def State.commitWait (s : State) : State :=
  s.setFlag CPX_STATUS_COMMIT_WAIT 0 (s.cpx.waitq.any (fun o => match o with
    | .commit _ => true
    | _ => false))

/-- An operation arrives. -/
def State.clsOp (s : State) (op : ClsOp) : State :=
  if s.clsReady then s.clsDo op
  else ({ s with cpx := { s.cpx with waitq := s.cpx.waitq ++ [op] } }).commitWait

/-! ### Ring contexts (R397 to R400) -/

/-- Enable ring r with context g (R397). -/
def State.enableRing (s : State) (r : Nat) (g : Ring) : State := s.setRing r { g with st := 1, stale := (s.ring r).stale, orphans := (s.ring r).orphans }

/-- Store one context. -/
def State.putRing (s : State) (r : Nat) (g : Ring) (en : Bool) : State :=
  if en then s.enableRing r g
  else
    let s := if (s.ring r).st = 0 then s else s.disableRing r
    (s.setRing r { g with st := 0, stale := (s.ring r).stale, orphans := (s.ring r).orphans, owed := 0 }).ringCause

/-- One of the requests to ring r that were outstanding as it was disabled has returned (R399). -/
def State.staleBack (s : State) (r : Nat) : State :=
  let less (q : Nat × Nat) : Nat × Nat := if q.1 = r then (q.1, q.2 - 1) else q
  { s with hif := { s.hif with closing := s.hif.closing.map (fun c => (c.1, c.2.map less)) } }

/-- Writes of ring contexts complete whose rings' requests, outstanding as they were disabled, have all returned. -/
def State.closeRings (s : State) : State :=
  let (ready, wait) := s.hif.closing.partition (fun p => p.2.all (fun q => decide (q.2 = 0)))
  ready.foldl (fun s p => s.reply p.1 .done 0 true []) { s with hif := { s.hif with closing := wait } }

/-! ### TABLE_WRITE (R410, R411) -/

/-- Entry size and number of entries of a table; none for a reserved value. -/
def tableShape (t : Nat) : Option (Nat × Nat) :=
  match t with
  | 0x01 => some (256, 64)
  | 0x02 => some (16, 128)
  | 0x03 => some (4, 128)
  | 0x10 => some (16, 262144)
  | 0x11 => some (32, 16)
  | 0x20 => some (16, 4096)
  | 0x21 => some (8, 128)
  | 0x30 => some (48, 512)
  | 0x31 => some (48, 2048)
  | 0x40 => some (64, 65536)
  | _ => none

def HostCmd.table (c : HostCmd) : Nat := u8 c.desc 20
def HostCmd.first (c : HostCmd) : Nat := le32 c.desc 24
def HostCmd.count (c : HostCmd) : Nat := le32 c.desc 28
def HostCmd.len (c : HostCmd) : Nat := le32 c.desc 16
def HostCmd.addr (c : HostCmd) : Nat := le64 c.desc 8

/-- The entries of the write, with their indices. -/
def HostCmd.entries (c : HostCmd) (size : Nat) : List (Nat × List Byte) :=
  ((chunks size c.count c.data).zipIdx).map (fun p => (c.first + p.2, p.1))

/-- Parse every entry; none when one fails. -/
def parseAll {α : Type} (f : Nat → List Byte → Option α) (es : List (Nat × List Byte)) : Option (List (Nat × α)) :=
  allSome (es.map (fun p => (f p.1 p.2).map (fun a => (p.1, a))))

/-- A TABLE_WRITE that has passed: what it stores, and whether it completes now. -/
def State.accepted (s : State) (c : HostCmd) (src : Src) (f : State → State) : State :=
  if !s.mayAct src then s.refuse src .notActive 0 else (f (s.forwardHost 0xFFFF c)).reply src .done 0 true []

/-- Store a parsed write into the tiles. -/
def State.tileWrite {α : Type} (s : State) (c : HostCmd) (src : Src) (es : Option (List α)) (put : List α → Tile → Tile) : State :=
  match es with
  | none => s.refuse src .badObject 0
  | some l => s.accepted c src (fun s => s.forEach (fun s t => s.modTile t (put l)) (s.tileArg (u8 c.desc 21)))

/-- A write of the calendar pool (R286). -/
def State.poolWrite (s : State) (c : HostCmd) (src : Src) : State :=
  if allLists.any (fun k => s.listLive k && s.listHits k c.first c.count) then s.refuse src .badObject 0
  else s.accepted c src (fun s => s.putPool c.first ((c.entries 16).map (fun p => le128 p.2 0)))

/-- A write of list descriptors (R285): the lists whose own descriptor fails become `EMPTY`. -/
def State.listWrite (s : State) (c : HostCmd) (src : Src) : State :=
  let ds := (c.entries 32).map (fun p => (p.1, ListDesc.parse p.2))
  let live := ds.any (fun p => s.listLive p.1)
  let bad := if live then [] else (ds.filter (fun p => !s.listOk p.2.1 p.2.2)).map Prod.fst
  if live || !bad.isEmpty then
    let s := if s.mayAct src then s.forEach (fun s k => (s.setListSt k calEmpty).modCalList k (fun l => { l with desc := none })) bad else s
    s.refuse src .badObject 0
  else s.accepted c src (fun s => s.putLists c.first (ds.map (fun p => p.2.1)))

/-- A write of the tenant or profile table. -/
def State.admWrite (s : State) (c : HostCmd) (src : Src) : State :=
  if c.table = 0x20 then match parseAll (fun _ => Tenant.parse) (c.entries 16) with
    | none => s.refuse src .badObject 0
    | some es => s.accepted c src (fun s => { s with adm := { s.adm with tenants := s.adm.tenants.put {} es } })
  else match parseAll (fun _ => ClassProf.parse) (c.entries 8) with
    | none => s.refuse src .badObject 0
    | some es => s.accepted c src (fun s => { s with adm := { s.adm with profiles := s.adm.profiles.put {} es } })

/-- A write of the classifier's tables, which may wait for a drain. -/
def State.clsWrite (s : State) (c : HostCmd) (src : Src) : State :=
  let op := if c.table = 0x30 then (parseAll (fun _ => Proto.parse) (c.entries 48)).map (fun es => ClsOp.protos es src)
    else (parseAll (fun _ => Act.parse) (c.entries 48)).map (fun es => ClsOp.acts es src)
  match op with
  | none => s.refuse src .badObject 0
  | some op => if !s.mayAct src then s.refuse src .notActive 0 else (s.forwardHost 0xFFFF c).clsOp op

/-- A write of ring contexts (R399). -/
def State.ringWrite (s : State) (c : HostCmd) (src : Src) : State :=
  match parseAll (fun _ => Ring.parse) (c.entries 64) with
  | none => s.refuse src .badObject 0
  | some es =>
    if es.any (fun p => p.2.2 && decide ((s.ring p.1).st ≠ 0)) then s.refuse src .badObject 8
    else if !s.mayServe then s.refuse src .notActive 0
    else
      let s := es.foldl (fun s p => s.putRing p.1 p.2.1 p.2.2) s
      let off := (es.filter (fun p => !p.2.2)).map Prod.fst
      ({ s with hif := { s.hif with closing := s.hif.closing ++ [(src, off.map (fun r => (r, (s.ring r).stale)))] } }).closeRings

/-- TABLE_WRITE for `src`. (DEDUCED, log 96.) -/
def State.tableWrite (s : State) (c : HostCmd) (src : Src) : State :=
  let t := c.table
  let tileBad := if t = 1 ∨ t = 2 ∨ t = 3 then decide (95 < u8 c.desc 21 ∧ u8 c.desc 21 ≠ 0xFF) else decide (u8 c.desc 21 ≠ 0)
  match tableShape t with
  | none => s.withForm c src true false id
  | some (size, n) =>
    if t = 0x40 ∧ c.ring ≠ 0 then s.refuse src .badObject 2
    else
      let field := tileBad || decide (n < c.first + c.count) || decide (t = 0x40 ∧ c.first = 0) || !zeros c.desc 22 2 || !zeros c.desc 32 32
      s.withForm c src field (decide (c.len ≠ c.count * size) || bufBad c.addr) (fun s =>
        match t with
        | 0x01 => s.tileWrite c src (parseAll (fun _ l => (GainSet.parse l).map some) (c.entries 256)) Tile.putGain
        | 0x02 => s.tileWrite c src (parseAll LaneCfg.parse (c.entries 16)) Tile.putLcfg
        | 0x03 => s.tileWrite c src (parseAll (fun _ l => if fireflyOk (le32 l 0) then some (le32 l 0) else none) (c.entries 4)) Tile.putFirefly
        | 0x10 => s.poolWrite c src
        | 0x11 => s.listWrite c src
        | 0x20 => s.admWrite c src
        | 0x21 => s.admWrite c src
        | 0x40 => s.ringWrite c src
        | _ => s.clsWrite c src)

/-- R411. -/
def execTableWrite (c : HostCmd) (s : State) : Host.Outcome State Fault Refusal :=
  .next (s.hostRow c 0x08 (fun c s => s.tableWrite c c.src))

/-! ### TABLE_COMMIT (R410, R411) -/

/-- A commit of the tenant or profile table (R328, R335). -/
def State.admCommit (s : State) (c : HostCmd) (src : Src) : State :=
  let k := u8 c.desc 8
  match firstRefusal [(s.admCommitBad k, .badObject), (!s.mayAct src, .notActive)] with
  | some st => s.refuse src st 0
  | none =>
    let a := s.adm
    let s := if k = 0x20 then { s with adm := { a with tenants := a.tenants.commit, tenantSrc := a.tenantSrc ++ [src] } }
      else { s with adm := { a with profiles := a.profiles.commit, profileSrc := a.profileSrc ++ [src] } }
    s.admStatus.forwardHost 0xFFFF c

/-- TABLE_COMMIT of a table other than the calendar's, for `src`. -/
def State.commitTable (s : State) (c : HostCmd) (src : Src) : State :=
  let k := u8 c.desc 8
  let mask := le64 c.desc 12 + 2 ^ 64 * le32 c.desc 20
  let tile := decide (k = 1 ∨ k = 2 ∨ k = 3)
  let field := !zeros c.desc 9 3 || (if tile then decide (mask = 0) else decide (mask ≠ 0)) || !zeros c.desc 24 40
  if k = 0x10 ∨ k = 0x40 then s.refuse src .badObject 1
  else if (tableShape k).isNone then s.withForm c src true false id
  else s.withForm c src field false (fun s =>
    if k = 0x20 ∨ k = 0x21 then s.admCommit c src
    else if !s.mayAct src then s.refuse src .notActive 0
    else if tile then (s.forwardHost 0xFFFF c).commitTiles src k mask
    else (s.forwardHost 0xFFFF c).clsOp (.commit src))

/-- TABLE_COMMIT for `src`, the calendar's actions among it. -/
def State.tableCommit (s : State) (c : HostCmd) (src : Src) : State :=
  if u8 c.desc 8 = 0x11 then s.calAction c src else s.commitTable c src

/-- R411. -/
def execTableCommit (c : HostCmd) (s : State) : Host.Outcome State Fault Refusal :=
  .next (s.hostRow c 0x09 (fun c s => s.tableCommit c c.src))

end Sys2Proof.Machine
end

