-- ==== Sys2Proof/Machine/Admission.lean ====
section
/-! DEFINITION. Admission: requests, costs, credits, policing, the admission tick, refill and queue sampling (chapter 9). -/

namespace Sys2Proof.Machine

open Reg

/-! ### Cost and charges (R315 to R319) -/

/-- Credits of W element writes and E nJ. -/
def creditsOf (w e unit : Nat) : Nat := w + (e + (unit - 1)) / unit

def Charge.writes (c : Charge) : Nat := (c.parts.map (fun p => p.2.1)).sum
def Charge.energy (c : Charge) : Nat := (c.parts.map (fun p => p.2.2)).sum

/-- c_R. -/
def Charge.cost (c : Charge) : Nat := creditsOf c.writes c.energy c.unit

/-- One credit of a tenant or domain node; of a class node; one nJ of the energy node. -/
abbrev creditUnit : Int := 256000000
abbrev classUnit : Int := 256000000 * 65536
abbrev nJUnit : Int := 256

/-- The charge of a request as its objects stand (R315). -/
def State.chargeOf (s : State) (owner : Option (Nat × Nat)) (plan : Option (Nat × Nat)) (edits : List Nat) : Charge :=
  let els := s.namedElems plan edits
  let tiles := s.tilesOf plan edits
  let est := s.effReg ADM_COST_E_EST
  { owner := owner, unit := s.effReg ADM_COST_E_UNIT
    parts := (allDoms.filter (fun d => tiles.any (fun t => decide (domOf t = d)))).map (fun d =>
      let w := (els.filter (fun g => decide (domOf (tileOf g) = d))).length
      (d, w, w * est)) }

/-- A credit after a change, saturated at `lo` (R318). -/
def satCredit (lo c : Int) : Int × Bool := if c < lo then (lo, true) else (c, false)

abbrev creditLow : Int := -8388608 * creditUnit
abbrev classLow : Int := -8388608 * classUnit
abbrev energyLow : Int := -2147483648 * nJUnit

def State.countSat (s : State) (b : Bool) : State := if b then s.inc ADM_CNT3_CRED_SAT else s

def State.addTenant (s : State) (t : Nat) (x : Int) : State :=
  let (c, b) := satCredit creditLow (s.adm.tCred.read 0 t + x)
  ({ s with adm := { s.adm with tCred := s.adm.tCred.write 0 t c } }).countSat b

/-- Class k of tenant t is node 8t + k. -/
def State.addClass (s : State) (n : Nat) (x : Int) : State :=
  let (c, b) := satCredit classLow (s.adm.cCred.read 0 n + x)
  ({ s with adm := { s.adm with cCred := s.adm.cCred.write 0 n c } }).countSat b

def State.addDomain (s : State) (d : Nat) (x : Int) : State :=
  let (c, b) := satCredit creditLow (s.adm.dCred.read 0 d + x)
  ({ s with adm := { s.adm with dCred := s.adm.dCred.write 0 d c } }).countSat b

def State.addEnergy (s : State) (x : Int) : State :=
  let (c, b) := satCredit energyLow (s.adm.eCred + x)
  ({ s with adm := { s.adm with eCred := c } }).countSat b

/-- Change every node of a charge by `sgn` times the charge (R315, R316). -/
def State.applyCharge (s : State) (c : Charge) (sgn : Int) : State :=
  let s := match c.owner with
    | some (t, k) => (s.addTenant t (sgn * c.cost * creditUnit)).addClass (8 * t + k) (sgn * c.cost * classUnit)
    | none => s
  let s := c.parts.foldl (fun s p => s.addDomain p.1 (sgn * creditsOf p.2.1 p.2.2 c.unit * creditUnit)) s
  s.addEnergy (sgn * c.energy * nJUnit)

/-- R319. -/
def State.eligible (s : State) (r : Req) : Bool :=
  r.dark || (decide (0 ≤ s.adm.tCred.read 0 r.tenant) && decide (0 ≤ s.adm.cCred.read 0 (8 * r.tenant + r.cls)) &&
    r.charge.parts.all (fun p => decide (0 ≤ s.adm.dCred.read 0 p.1)) && decide (0 ≤ s.adm.eCred))

/-! ### Windows (R320) -/

def State.tenant (s : State) (t : Nat) : Tenant := s.adm.tenants.live.read {} t

/-- The live class entry of a tenant and class: 8p + k (R335). -/
def State.classOf (s : State) (t k : Nat) : ClassProf := s.adm.profiles.live.read {} (8 * (s.tenant t).profile + k)

/-- A DT tick in 2⁻¹⁶ ns. -/
def ticksUnits (t : Nat) : Int := (t * unitsPerTick : Nat)

/-- Admit-by instant, in 2⁻¹⁶ ns of DT. -/
def State.admitBy (s : State) (r : Req) : Int :=
  match r.commit with
  | some (u, _) => (u : Int) - ((s.margin + 1000 * s.effReg ADM_LEAD_ADMIT_LEAD) * 65536 : Nat)
  | none => ticksUnits r.arrival + ((s.classOf r.tenant r.cls).maxWait * 100000 * 65536 : Nat)

/-- The request is open: it is not deferred and its window has opened. Plan 0 alone is a candidate at once (R314). -/
def State.reqOpen (s : State) (r : Req) : Bool :=
  !r.deferred && (r.dark || (match r.commit with
    | some _ => decide (s.admitBy r - (s.effReg ADM_LEAD_ADMIT_WIN * 1000 * 65536 : Nat) ≤ ticksUnits s.dt)
    | none => true))

/-- `F_LIVE` (R329). -/
def State.fLive (s : State) : Nat := s.reg ADM_STATUS_F_LIVE

/-! ### How requests end (R312, R323, R326, R331) -/

/-- The origin under which a partner request is forwarded (R433, R439). -/
def State.fwdReq (s : State) (r : Req) (flags handle : Nat) : State := s.forwardCmd r.fwd.1 flags handle r.fwd.2

/-- A request ends without having left admission. -/
def State.admEnd (s : State) (r : Req) (st : Status) (detail : Nat) : State :=
  let s := match st with
    | .conflict => s.inc ADM_CNT0_CONFLICT
    | .policed => s.inc ADM_CNT1_POLICED
    | .lateReject => s.inc ADM_CNT2_LATE
    | .throttled => s.inc ADM_CNT2_THROTTLED
    | _ => s
  let s := if r.fwd.1 = 2 then s.fwdReq r 0 0xFFFF else s
  s.stageRefused { src := r.src, answer := r.answer } st detail

/-- Requests end together. -/
def State.admEndAll (s : State) (rs : List (Req × Status)) (detail : Nat) : State :=
  rs.foldl (fun s p => s.admEnd p.1 p.2 detail) s

def State.setReqs (s : State) (l : List Req) : State := { s with adm := { s.adm with reqs := l } }

/-- The status of R331 that a waiting request meets now. -/
def State.heldStatus (s : State) (r : Req) : Option Status :=
  firstRefusal [(!s.leads, .notActive), (s.flag TXN_STATUS_SAFETY_HOLD && !r.dark, .safetyHold),
    (r.charge.parts.any (fun p => s.domFenced p.1), .fenced)]

/-- End every waiting request for which f gives a status. -/
def State.endWhere (s : State) (f : Req → Option Status) (detail : Nat) : State :=
  let gone := s.adm.reqs.filterMap (fun r => (f r).map (fun st => (r, st)))
  (s.setReqs (s.adm.reqs.filter (fun r => (f r).isNone))).admEndAll gone detail

/-! ### The end of a session (R368, R373) -/

/-- A NOTICE that the session is closed. -/
def State.closeNotice (s : State) (i reason : Nat) : State := s.sendSess i 0x90 0 (leBytes 1 1 ++ leBytes 1 reason ++ leBytes 2 0)

/-- 100 ms in ticks. -/
abbrev tenthTicks : Nat := 128000000

/-- Does the request come from session i? -/
def Req.ofSess (i : Nat) (r : Req) : Bool :=
  match r.src with
  | .partner a _ _ => decide (a = i)
  | _ => false

/-- Session i ends: quarantine, and its requests in admission end with ABORTED (R373). -/
def State.endSession (s : State) (i : Nat) : State :=
  let s := s.setSess i { (s.sess i) with quar := true, ageAt := s.tick + s.reg CPX_GCRP_QUAR * tenthTicks }
  (s.inc GCRP_CNT3_CLOSES).endWhere (fun r => if r.ofSess i then some .aborted else none) 0

/-- A session that the active ends of its own accord is forwarded as a session change (R433, R439). -/
def State.forwardClose (s : State) (i kind : Nat) : State := s.forwardCmd 3 0 0xFFFF (beBytes 2 i ++ leBytes 1 kind ++ leBytes 1 0)

/-- The sender streams the session table: what would write it is held (R445). -/
def State.holdsSessions (s : State) : Bool := s.leads && s.twn.sending && decide (s.reg TWN_SYNC_STORE = 7)

/-- Hold a partner request, or a closure. -/
def State.holdReq (s : State) (h : HeldReq) : State := { s with twn := { s.twn with heldReqs := s.twn.heldReqs ++ [h] } }

/-- Session i closes for its tenant's disabling (R373). -/
def State.tenantClose (s : State) (i : Nat) : State := ((s.forwardClose i 2).closeNotice i 3).endSession i

/-- The sessions of tenants that a refill has disabled end (R373); a standby waits for its active. -/
def State.endTenants (s : State) (before : Tab Tenant) : State :=
  if s.role = roleStandby then s
  else
    let gone := (s.cpx.sessions.filter (fun p => p.2.isOpen && (before.read {} p.2.tenant).en && !(s.tenant p.2.tenant).en)).map Prod.fst
    s.forEach (fun s i => if s.holdsSessions then s.holdReq (.closure i 2) else s.tenantClose i) gone

/-! ### Policing and arrival (R311 to R315, R325 to R327) -/

/-- Colour of a request: 0 green, 1 yellow, 2 red, with the buckets charged (R325). -/
def State.colour (s : State) (r : Req) : Nat × State :=
  let c := r.charge.cost * creditUnit.toNat
  let cb := s.adm.cBucket.read 0 r.tenant
  let eb := s.adm.eBucket.read 0 r.tenant
  if !(s.tenant r.tenant).police || r.dark then (0, s)
  else if c ≤ cb then (0, { s with adm := { s.adm with cBucket := s.adm.cBucket.write 0 r.tenant (cb - c) } })
  else if c ≤ eb then (1, { s with adm := { s.adm with eBucket := s.adm.eBucket.write 0 r.tenant (eb - c) } })
  else (2, s)

/-- `ADM_POOL.PEAK` follows the requests held. -/
def State.admPeak (s : State) : State := s.setReg ADM_POOL_PEAK 0 (max (s.reg ADM_POOL_PEAK) s.adm.reqs.length)

def State.enqueue (s : State) (r : Req) : State := (s.setReqs (s.adm.reqs ++ [r])).admPeak

/-- A request is policed, unless a status that stands before POLICED in R18 applies (R331). (DEDUCED, log 92.) -/
def State.police (s : State) (r : Req) : State := s.admEnd r ((s.heldStatus r).getD .policed) 0

/-- The queue of a tenant and class. -/
def inQueue (r q : Req) : Bool := decide (q.tenant = r.tenant) && decide (q.cls = r.cls)

/-- The newest yellow request that r may displace. -/
def State.newestYellow (s : State) (r : Req) : Option Req := s.adm.reqs.reverse.find? (fun q => inQueue r q && q.yellow && !q.deferred)

/-- A request whose tenant and objects are good joins its queue (R325 to R327). (DEDUCED, log 92.) -/
def State.admQueue (s : State) (r : Req) : State :=
  if r.dark then s.enqueue r
  else
    let full := decide ((s.classOf r.tenant r.cls).qmax ≤ (s.adm.reqs.filter (inQueue r)).length) || decide (8192 ≤ s.adm.reqs.length)
    let (col, s') := s.colour r
    if full then match col, s.newestYellow r with
      | 0, some y => ((s'.setReqs (s'.adm.reqs.erase y)).police y).enqueue r
      | _, _ => s.police r
    else match col with
      | 0 => s'.enqueue r
      | 1 => s'.enqueue { r with yellow := true }
      | _ => if (s.tenant r.tenant).redDefer then (s.enqueue { r with deferred := true }).inc ADM_CNT1_DEFERRED else s.police r

/-- A request arrives in admission (R311 to R315). (DEDUCED, log 91.) -/
def State.admArrive (s : State) (r : Req) : State :=
  if !(s.tenant r.tenant).en then (s.txnErr none 0 0x7F).admEnd r .badObject 6
  else if !s.objectsValid r.plan r.edits then (s.txnErr none 2 0x7F).admEnd r .badObject 0
  else if !s.leads then s.admEnd r .notActive 0
  else s.admQueue { r with charge := s.chargeOf (some (r.tenant, r.cls)) r.plan r.edits, arrival := s.dt, dark := isDark r.plan r.edits,
                           named := s.namedElems r.plan r.edits }

/-! ### TXN_STAGE (R311, R410) -/

def HostCmd.nEdit (c : HostCmd) : Nat := u8 c.desc 22 % 16
def HostCmd.nClaim (c : HostCmd) : Nat := u8 c.desc 22 / 16
def HostCmd.stagePlan (c : HostCmd) : Option (Nat × Nat) := if u8 c.desc 23 % 2 = 1 then some (u8 c.desc 28, u8 c.desc 29) else none
def HostCmd.stageEdits (c : HostCmd) : List Nat := le16s c.desc 32 c.nEdit
def HostCmd.stageClaims (c : HostCmd) : List Nat := le16s c.desc 48 c.nClaim
def HostCmd.dtValid (c : HostCmd) : Bool := bit (u8 c.desc 1) 2
def HostCmd.stageAnswer (c : HostCmd) : Option (Nat × Nat) :=
  if bit (le16 c.desc 20) 15 then some (le16 c.desc 20 % 16384, le32 c.desc 24) else none

/-- A field of a TXN_STAGE is reserved and not 0, or outside its limit. (DEDUCED, log 96.) -/
def State.stageFieldBad (s : State) (c : HostCmd) : Bool :=
  (if c.dtValid then !(s.dtArg c.desc 8).ok else !zeros c.desc 8 12) || bit (le16 c.desc 20) 14 ||
  decide (8 < c.nEdit) || decide (8 < c.nClaim) || decide (1 < u8 c.desc 23) || !zeros c.desc 30 2 ||
  !zeros c.desc (32 + 2 * c.nEdit) (16 - 2 * c.nEdit) || !zeros c.desc (48 + 2 * c.nClaim) (16 - 2 * c.nClaim) ||
  (c.stageEdits ++ c.stageClaims).any (fun v => decide (4095 < v)) ||
  decide (b2n c.stagePlan.isSome + c.nEdit = 0 ∨ 8 < b2n c.stagePlan.isSome + c.nEdit) ||
  (match c.stageAnswer with
   | some (i, _) => !(s.sess i).isOpen
   | none => false)

/-- Commit DT of a TXN_STAGE, in 2⁻¹⁶ ns and as a tick. -/
def State.stageCommitArg (s : State) (c : HostCmd) : Option (Nat × Nat) :=
  if c.dtValid then some ((s.dtArg c.desc 8).units, (s.dtArg c.desc 8).tick) else none

/-- Tenant and class of the ring (R312, R394, R398). -/
def State.ringTenant (s : State) (r : Nat) : Nat × Nat :=
  if r = 0 then (s.reg HIF_ADM_TENANT_TENANT, s.reg HIF_ADM_TENANT_CLASS) else ((s.ring r).tenant, (s.ring r).cls)

/-- TXN_STAGE enters admission (R311). -/
def State.txnStage (s : State) (c : HostCmd) : State :=
  s.withForm c c.src (s.stageFieldBad c) false (fun s =>
    let (t, k) := s.ringTenant c.ring
    s.admArrive { src := c.src, tenant := t, cls := k, order := 16384 + c.ring, plan := c.stagePlan, edits := c.stageEdits,
                  claims := c.stageClaims, commit := s.stageCommitArg c, answer := c.stageAnswer, fwd := (1, c.desc) })

/-- R251, R311. -/
def execTxnStage (c : HostCmd) (s : State) : Host.Outcome State Fault Refusal := .next (s.hostRow c 0x02 (fun c s => s.txnStage c))

/-! ### Refill (R328 to R330, R333) -/

/-- The admission registers whose writes take effect at a refill (R328). -/
def admRegs : List Nat :=
  [ADM_CTRL_REFILL.off, ADM_ENERGY_E_CAP.off, ADM_COST_E_UNIT.off, ADM_LEAD_ADMIT_LEAD.off] ++
  allDoms.flatMap (fun d => [ADM_DOM_RATE_D_RATE.offAt d, ADM_DOM_LIM_D_HICREDIT.offAt d]) ++
  (List.range 16).map (fun n => ADM_MON_TENANT.offAt n)

/-- Clear both histogram banks of queue q. -/
def State.clearHist (s : State) (q : Nat) : State :=
  (List.range 16).foldl (fun s b =>
    let s := (s.setReg (ADM_HDEPTH_COUNT.plus (0x80 * q)) b 0).setReg (ADM_HDELAY_COUNT.plus (0x80 * q)) b 0
    { s with adm := { s.adm with hist := (s.adm.hist.write 0 (32 * q + b) 0).write 0 (32 * q + 16 + b) 0 } }) s

/-- A monitor register that names another queue clears that queue's banks (R333). -/
def State.monitorChange (s : State) (n : Nat) : State :=
  if s.reg ADM_MON_TENANT n ≠ s.effReg ADM_MON_TENANT n ∨ s.reg ADM_MON_CLASS n ≠ s.effReg ADM_MON_CLASS n
  then s.clearHist (8 + n) else s

/-- Bring a table of credits under its limits. -/
def limitTab (f : Nat → Int) (t : Tab Int) : Tab Int := t.foldl (fun t p => t.write 0 p.1 (min p.2 (f p.1))) t
def limitBucket (f : Nat → Nat) (t : Tab Nat) : Tab Nat := t.foldl (fun t p => t.write 0 p.1 (min p.2 (f p.1))) t

def State.tenantLimit (s : State) (t : Nat) : Int := (s.tenant t).hi * creditUnit
def State.classLimit (s : State) (n : Nat) : Int := (s.classOf (n / 8) (n % 8)).hi * classUnit
def State.domainLimit (s : State) (d : Nat) : Int := s.effReg ADM_DOM_LIM_D_HICREDIT d * creditUnit
def State.energyLimit (s : State) : Int := s.effReg ADM_ENERGY_E_HICREDIT * 1000 * nJUnit

/-- Step 5 of R328. -/
def State.limitCredits (s : State) : State :=
  let a := s.adm
  { s with adm := { a with
    tCred := limitTab s.tenantLimit a.tCred, cCred := limitTab s.classLimit a.cCred, dCred := limitTab s.domainLimit a.dCred
    eCred := min a.eCred s.energyLimit
    cBucket := limitBucket (fun t => (s.tenant t).cbs * creditUnit.toNat) a.cBucket
    eBucket := limitBucket (fun t => (s.tenant t).ebs * creditUnit.toNat) a.eBucket } }

/-- A pending tenant or profile table becomes live, and the commit completes (R328, R411). -/
def State.exchangeAdm (s : State) : State :=
  let a := s.adm
  let s := { s with adm := { a with
    tenants := a.tenants.exchange {}, profiles := a.profiles.exchange {}
    tenantSrc := if a.tenants.pend then a.tenantSrc.drop 1 else a.tenantSrc
    profileSrc := if a.profiles.pend then a.profileSrc.drop 1 else a.profileSrc } }
  let s := if a.tenants.pend then s.reply (a.tenantSrc.headD .nobody) .done 0 true [] else s
  let s := if a.profiles.pend then s.reply (a.profileSrc.headD .nobody) .done 0 true [] else s
  s.admStatus

/-- A refill (R328 to R330). -/
def State.refill (s : State) : State :=
  let before := s.adm.tenants.live
  let s := s.exchangeAdm
  let s := s.forEach State.monitorChange (List.range 16)
  let s := s.takeEffects admRegs
  let s := s.setReg ADM_STATUS_F_LIVE 0 (s.reg KLN_THROTTLE_F_NOW)
  let s := s.limitCredits
  let off (r : Req) : Bool := !(s.tenant r.tenant).en
  let s := (s.adm.reqs.filter off).foldl (fun s _ => s.txnErr none 0 0x7F) s
  (s.endWhere (fun r => if off r then some .badObject else none) 6).endTenants before

/-- The instant of the next admission tick, in ticks since the release of PORST_N (R320). -/
def State.nextAdmTick (s : State) : Option Nat := s.tmu.calMarker.map (fun m => m + 5120 * (s.adm.ticks + 1))

/-- The next admission tick is a refill tick whose refill has not taken place. (DEDUCED, log 93.) -/
def State.refillDue (s : State) : Bool :=
  decide ((s.adm.ticks + 1) % s.effReg ADM_CTRL_REFILL = 0) && decide (s.adm.refilled ≠ s.adm.ticks + 1)

/-- Refill on the next admission tick, when it is due. -/
def State.refillStep (s : State) : State :=
  if s.refillDue then (({ s with adm := { s.adm with refilled := s.adm.ticks + 1 } }).refill) else s

/-- R328. -/
def execRefill (s : State) : Host.Outcome State Fault Refusal :=
  .next (match s.nextAdmTick with
    | some t => if s.refillDue then (s.advance (t - s.tick)).refillStep else s
    | none => s)

/-! ### Steps of the admission tick (R321) -/

/-- Steps 2 and 3 of R321: true-ups and refunds. -/
def State.trueUp (s : State) : State :=
  let a := s.adm
  let s := { s with adm := { a with trueups := [], refunds := [] } }
  let s := a.trueups.foldl (fun s u => (s.applyCharge u.old 1).applyCharge u.new (-1)) s
  a.refunds.foldl (fun s c => (s.applyCharge c 1).inc ADM_CNT3_REFUNDS) s

/-- The rise of one credit (R318). -/
def riseCredit (c gain limit : Int) (waits : Bool) : Int :=
  if waits then (if c < limit then min limit (c + gain) else c)
  else if c < 0 then min 0 (c + gain) else c

def riseTab (gain limit : Nat → Int) (waits : List Nat) (t : Tab Int) : Tab Int :=
  ((t.map Prod.fst ++ waits).eraseDups).foldl (fun t k => t.write 0 k (riseCredit (t.read 0 k) (gain k) (limit k) (waits.contains k))) t

/-- The open requests. -/
def State.openReqs (s : State) : List Req := s.adm.reqs.filter s.reqOpen

def State.tenantGain (s : State) (t : Nat) : Int := (s.tenant t).rate * 4 * s.fLive
def State.classGain (s : State) (n : Nat) : Int := (s.tenant (n / 8)).rate * 4 * s.fLive * (s.classOf (n / 8) (n % 8)).share
def State.domainGain (s : State) (d : Nat) : Int := s.effReg ADM_DOM_RATE_D_RATE d * 4 * s.fLive
def State.energyGain (s : State) : Int := s.effReg ADM_ENERGY_E_CAP * 40 * s.fLive

/-- Credit rise (R318). -/
def State.rise (s : State) : State :=
  let o := s.openReqs
  let a := s.adm
  { s with adm := { a with
    tCred := riseTab s.tenantGain s.tenantLimit (o.map Req.tenant) a.tCred
    cCred := riseTab s.classGain s.classLimit (o.map (fun r => 8 * r.tenant + r.cls)) a.cCred
    dCred := riseTab s.domainGain s.domainLimit (o.flatMap (fun r => r.charge.parts.map Prod.fst)) a.dCred
    eCred := riseCredit a.eCred s.energyGain s.energyLimit (!o.isEmpty) } }

/-- The committed and the excess bucket of a tenant. -/
def State.setBuckets (s : State) (t c e : Nat) : State :=
  { s with adm := { s.adm with cBucket := s.adm.cBucket.write 0 t c, eBucket := s.adm.eBucket.write 0 t e } }

/-- Policer refill (R325). -/
def State.refillBucket (s : State) (t : Nat) (e : Tenant) : State :=
  if !e.police then s
  else
    let c := s.adm.cBucket.read 0 t + e.cir * 4 * s.fLive
    let top := e.cbs * creditUnit.toNat
    s.setBuckets t (min top c) (min (e.ebs * creditUnit.toNat) (s.adm.eBucket.read 0 t + (c - top)))

def State.refillBuckets (s : State) : State := s.adm.tenants.live.foldl (fun s p => s.refillBucket p.1 p.2) s

/-- The status with which a request whose latest admission instant has passed ends (step 4 of R321). -/
def State.expired (s : State) (r : Req) : Option Status :=
  if (s.reqOpen r || r.deferred) && decide (s.admitBy r < ticksUnits s.dt)
  then some (if s.fLive < 256 then .throttled else .lateReject) else none

/-- Step 4 of R321. -/
def State.endStep (s : State) : State := let s := s.endWhere s.heldStatus 0; s.endWhere s.expired 0

/-- R321: on the next admission tick an open request whose latest admission instant has passed ends. -/
def execRequestExpiry (s : State) : Host.Outcome State Fault Refusal :=
  .next (match s.nextAdmTick with
    | some t => (s.advance (t - s.tick)).refillStep.endStep
    | none => s)

/-- Step 5 of R321: recolouring (R326). -/
def State.recolour (s : State) : State :=
  let (s, l) := s.adm.reqs.foldl (fun (p : State × List Req) r =>
    if r.deferred then
      let (col, s') := p.1.colour r
      if col = 2 then (p.1, p.2 ++ [r]) else (s', p.2 ++ [{ r with deferred := false, yellow := decide (col = 1) }])
    else (p.1, p.2 ++ [r])) (s, [])
  s.setReqs l

/-- The tenants with an open request in class k, in the order of the round robin. -/
def State.rotation (s : State) (o : List Req) (k : Nat) : List Nat :=
  let ts := sortBy (fun a b => decide (a ≤ b)) ((o.filter (fun r => decide (r.cls = k))).map Req.tenant).eraseDups
  let last := s.adm.served.read 0 k
  ts.filter (fun t => decide (last ≤ t)) ++ ts.filter (fun t => decide (t < last))

/-- The candidate of a queue: plan 0 alone first (R314), then its oldest open request. (DEDUCED, log 92.) -/
def candidate (o : List Req) (t k : Nat) : Option Req :=
  let q := o.filter (fun r => decide (r.tenant = t) && decide (r.cls = k))
  match q.find? Req.dark with
  | some r => some r
  | none => q.head?

/-- Step 6 of R321: selected requests, in the order of selection. -/
def State.selectStep (s : State) : State × List Req :=
  let o := s.openReqs
  let top := s.effReg ADM_CTRL_MAX_PER_TICK
  (List.range 8).foldl (fun (p : State × List Req) k =>
    (p.1.rotation o k).foldl (fun (p : State × List Req) t =>
      match candidate o t k with
      | some r =>
        if p.2.length < top && p.1.eligible r then
          let s := p.1.applyCharge r.charge (-1)
          ({ s with adm := { s.adm with served := s.adm.served.write 0 k (t + 1) } }, p.2 ++ [r])
        else p
      | none => p) p) (s, [])

/-- Two requests conflict (R323). -/
def conflicts (a b : Req) : Bool := a.named.any (fun g => b.named.contains g) || a.claims.any (fun c => b.claims.contains c)

/-- The order of R323. -/
def State.reqBefore (s : State) (a b : Req × Nat) : Bool :=
  let pa := (s.tenant a.1.tenant).prio
  let pb := (s.tenant b.1.tenant).prio
  decide (pa < pb) || (decide (pa = pb) && (decide (a.1.order < b.1.order) || (decide (a.1.order = b.1.order) && decide (a.2 ≤ b.2))))

/-- Winners and losers of step 7, winners in the order of R323. -/
def State.resolve (s : State) (sel : List Req) : List Req × List Req :=
  let key (r : Req) : Req × Nat := (r, (s.adm.reqs.idxOf r))
  (sortBy s.reqBefore (sel.map key)).foldl (fun (p : List Req × List Req) q =>
    if p.1.any (conflicts q.1) then (p.1, p.2 ++ [q.1]) else (p.1 ++ [q.1], p.2)) ([], [])

/-- The last commit tick that a transaction holds or a one-shot list reserves. -/
def State.lastReserved (s : State) : Nat :=
  let held := allSlots.map (fun i => (s.slot i).commit.getD 0)
  let last := allTiles.map (fun t => (s.tile t).lastTxn.getD 0)
  let once := (allLists.filter (fun n => decide (s.listCycle n = 0))).flatMap
    (fun n => (s.listEnts n).map (fun (_, e) => (s.calList n).base + e.rel))
  (held ++ last ++ once ++ allLists.map (fun n => (s.calList n).base)).foldl max 0

/-- The markers after `m` among which the first that R322 asks for lies, where there is one: beyond every reservation that does not
recur, those of the cyclic lists recur together after the product of their cycles. (DEDUCED, log 113.) -/
def State.markersTried (s : State) (m : Nat) : Nat :=
  (s.lastReserved + 2 * 6400 - m) / ticksPerFrame + 1 + ((allLists.filter s.listLive).map (fun n => max 1 (s.listCycle n))).foldl (· * ·) 1

/-- The commit tick of an admitted partner request without a commit DT (R322), from marker M on. -/
def State.chooseCommit (s : State) (tiles : List Nat) : Nat → Nat → Nat
  | 0, m => m + 1280
  | n + 1, m =>
    if s.spacingBad none (m + 1280) tiles || s.reservedNear (m + 1280) tiles then s.chooseCommit tiles n (m + ticksPerFrame) else m + 1280

/-- The first marker M with M + 1,000 ns at least m + `ADMIT_LEAD` after now. -/
def State.firstMarker (s : State) : Nat :=
  let need := s.dt * unitsPerTick + (s.margin + 1000 * s.effReg ADM_LEAD_ADMIT_LEAD) * 65536 - 1280 * unitsPerTick
  (need + (ticksPerFrame * unitsPerTick - 1)) / (ticksPerFrame * unitsPerTick) * ticksPerFrame

/-- Step 8 of R321: twin forwarding and STAGE. -/
def State.grant (s : State) (r : Req) : State :=
  let tiles := s.tilesOf r.plan r.edits
  let commit := match r.src, r.commit with
    | .partner _ _ _, none => let c := s.chooseCommit tiles (s.markersTried s.firstMarker) s.firstMarker; some (c * unitsPerTick, c)
    | _, c => c
  let q : StageReq := { src := r.src, plan := r.plan, edits := r.edits, commit := commit, answer := r.answer, arrival := s.dt,
                        charge := some r.charge }
  let s := s.inc ADM_CNT0_ADMITTED
  match s.stageChecks q.plan q.edits q.commit q.arrival false, s.freeSlot with
  | none, some i => ((s.fwdReq r 1 (s.handle i)).stageTxn q).1
  | _, _ =>
    let s := if r.fwd.1 = 2 then s.fwdReq r 0 0xFFFF else s
    let s := { s with adm := { s.adm with refunds := s.adm.refunds ++ [r.charge] } }
    (s.stageTxn q).1

/-- Step 9 of R321: a node that does not wait and holds a positive credit returns to 0 (R318). -/
def idleTab (waits : List Nat) (t : Tab Int) : Tab Int := t.foldl (fun t p => if 0 < p.2 ∧ !waits.contains p.1 then t.write 0 p.1 0 else t) t

def State.idleReset (s : State) : State :=
  let o := s.openReqs
  let a := s.adm
  { s with adm := { a with
    tCred := idleTab (o.map Req.tenant) a.tCred
    cCred := idleTab (o.map (fun r => 8 * r.tenant + r.cls)) a.cCred
    dCred := idleTab (o.flatMap (fun r => r.charge.parts.map Prod.fst)) a.dCred
    eCred := if 0 < a.eCred ∧ o.isEmpty then 0 else a.eCred } }

/-- Steps 6 to 8 of R321. -/
def State.selectAdmit (s : State) : State :=
  let (s, sel) := s.selectStep
  let (win, lose) := s.resolve sel
  let s := s.setReqs (sel.foldl List.erase s.adm.reqs)
  let s := lose.foldl (fun s r => (s.applyCharge r.charge 1).admEnd r .conflict 0) s
  win.foldl State.grant s

/-! ### Queue sampling (R332, R333) -/

/-- Number of bits of n. -/
def bitLen (n : Nat) : Nat := if n = 0 then 0 else n.log2 + 1

/-- The requests of monitored queue q; none when it is not sampled. -/
def State.monitored (s : State) (q : Nat) : Option (List Req) :=
  if q < 8 then some (s.adm.reqs.filter (fun r => r.charge.parts.any (fun p => decide (p.1 = q))))
  else if s.effReg ADM_MON_EN (q - 8) = 1 then
    some (s.adm.reqs.filter (fun r => decide (r.tenant = s.effReg ADM_MON_TENANT (q - 8)) && decide (r.cls = s.effReg ADM_MON_CLASS (q - 8))))
  else none

/-- Add 1 to a bin, saturating. -/
def State.addBin (s : State) (k : Nat) : State :=
  { s with adm := { s.adm with hist := s.adm.hist.write 0 k (min (2 ^ 32 - 1) (s.adm.hist.read 0 k + 1)) } }

def State.sampleQueue (s : State) (q : Nat) : State :=
  match s.monitored q with
  | none => s
  | some l =>
    let delay := match (l.filter s.reqOpen).map (fun r => (s.dt - r.arrival) / 1280) with
      | [] => 0
      | a :: r => max 1 (min 15 (bitLen (r.foldl max a / 4)))
    (s.addBin (32 * q + min 15 (bitLen l.length))).addBin (32 * q + 16 + delay)

/-- The exchange of R333: the registers read what was sampled, and the new live bank is clear. -/
def State.histSwap (s : State) : State :=
  let s := (List.range 24).foldl (fun s q => (List.range 16).foldl (fun s b =>
    (s.setReg (ADM_HDEPTH_COUNT.plus (0x80 * q)) b (s.adm.hist.read 0 (32 * q + b))).setReg (ADM_HDELAY_COUNT.plus (0x80 * q)) b
      (s.adm.hist.read 0 (32 * q + 16 + b))) s) s
  ({ s with adm := { s.adm with hist := [] } }).setReg ADM_HIST_CTRL_SWAP 0 0

/-- One sample of the 24 queues. -/
def State.queueSample (s : State) : State :=
  let s := if s.flag ADM_HIST_CTRL_SWAP then s.histSwap else s
  let s := s.forEach State.sampleQueue (List.range 24)
  { s with adm := { s.adm with sampleDue := false } }

/-- R332: step 10 of the 16th tick. -/
def execQueueSample (s : State) : Host.Outcome State Fault Refusal := .next (if s.adm.sampleDue then s.queueSample else s)

/-- R333: a write of `ADM_HIST_CTRL.SWAP`. -/
def execHistSwap (s : State) : Host.Outcome State Fault Refusal := .next (if s.windowOpen then s.setFlag ADM_HIST_CTRL_SWAP 0 true else s)

/-! ### The tick -/

/-- R321, steps 1 to 9; step 10 is then due on every 16th tick. -/
def State.admissionTick (s : State) (t : Nat) : State :=
  let s := if s.adm.sampleDue then s.queueSample else s
  let s := (s.advance (t - s.tick)).refillStep
  let s := { s with adm := { s.adm with ticks := s.adm.ticks + 1 } }
  let s := s.trueUp.rise.refillBuckets.endStep.recolour.selectAdmit.idleReset
  { s with adm := { s.adm with sampleDue := decide (s.adm.ticks % 16 = 0) } }

def execAdmissionTick (s : State) : Host.Outcome State Fault Refusal :=
  .next (match s.nextAdmTick with
    | some t => s.admissionTick t
    | none => s)

/-- A device that becomes `ACTIVE` or `SOLO` starts with every credit and bucket at 0 (R331). -/
def State.admFresh (s : State) : State :=
  { s with adm := { s.adm with tCred := [], cCred := [], dCred := [], eCred := 0, cBucket := [], eBucket := [], trueups := [], refunds := [] } }

end Sys2Proof.Machine
end

