-- ==== Sys2Proof/Machine/Drive.lean ====
section
/-! DEFINITION. Commands of the drive side: tree-clock loss, row slots, drive faults, span changes, bursts and clears of a tile, and
the park sequencer (chapters 1 to 3). -/

namespace Sys2Proof.Machine

open Reg

/-- R21 step 1: `FRS_Ttt` is forced low in every tile; addresses and columns keep their last values until `OWN_Dd` falls. -/
def execTreeClockLoss (s : State) : Host.Outcome State Fault Refusal :=
  .next (({ s with fab := { s.fab with treeLost := true } }).forEach (fun s t => s.modTile t (fun tl => tl.freezeLines s.dt)) allTiles)

/-- R21 steps 2 and 3: every `OWN_Dd` is deasserted and held so until reset; the lines stand as R71 gives. -/
def execTreeLossOwnRelease (s : State) : Host.Outcome State Fault Refusal :=
  .next (if s.fab.treeLost then
    let s := s.setReg KFI_STATUS_OWN 0 0
    let s := s.forEach (fun s d => s.setCause (srcDom d 0) false) allDoms
    let s := s.forEach State.disown allTiles
    { s with fab := { s.fab with inhibit := true, ownReady := 0, ownSensed := 0 } }
  else s)

/-- R27: row slot `slot` begins in every tile. -/
def execSlotStart (slot : Nat) (bad : List (Nat × Nat)) (s : State) : Host.Outcome State Fault Refusal :=
  .next (if s.inReset || s.fab.treeLost || decide (32 ≤ slot) then s
  else (s.advanceTo (s.marker + 100 * slot)).forEach (fun s t => s.tileSlot slot bad t) allTiles)

/-- R80: a column at its 150 mA limit for more than 200 ns; `ends` tells that the episode ends. -/
def execColumnCurrentLimit (t c : Nat) (ends : Bool) (s : State) : Host.Outcome State Fault Refusal :=
  .next (if s.inReset || decide (96 ≤ t) || decide (8 ≤ c) then s
  else if ends then
    let s := s.setReg DRV_STATUS_ILIM_NOW t (withBit (s.reg DRV_STATUS_ILIM_NOW t) c false)
    if s.reg DRV_STATUS_ILIM_NOW t = 0 ∧ s.reg DRV_STATUS_DRV_FAULT t = 0 then s.setCause (srcTile t 1) false else s
  else
    let s := s.setReg DRV_STATUS_ILIM_NOW t (withBit (s.reg DRV_STATUS_ILIM_NOW t) c true)
    let ctr := [DRV_ILIM0_C0, DRV_ILIM0_C1, DRV_ILIM0_C2, DRV_ILIM0_C3, DRV_ILIM1_C4, DRV_ILIM1_C5, DRV_ILIM1_C6,
      DRV_ILIM1_C7].getD c DRV_ILIM0_C0
    (s.inc ctr t).raiseCond (srcTile t 1) (infoTile t (some c)))

/-- The cause of the sense-fault source of tile t follows its registers and its bias limit (R536). -/
def State.senseCause (s : State) (t : Nat) : State :=
  s.setCause (srcTile t 2) (decide (s.reg SNS_STATUS_FAULT_NOW t ≠ 0) || decide (s.reg SNS_STATUS_UNSERVED t ≠ 0) ||
    decide (s.reg SNS_STATUS_LINE_OPEN t ≠ 0) || (s.tile t).frfLimit)

/-- R80: `FRF_Ttt` at its 6 mA limit; the bias is held there, at a level that the spec does not give. (DESIGN CHOICE, log 103.) -/
def execFrfBiasLimit (t : Nat) (ends : Bool) (s : State) : Host.Outcome State Fault Refusal :=
  .next (if s.inReset || decide (96 ≤ t) then s
  else
    let (mv, s') := s.takeFree 11
    let s := if ends then s.modTile t (fun tl => { tl with frfLimit := false, frfMv := 1800 })
      else s'.modTile t (fun tl => { tl with frfLimit := true, frfMv := mv })
    if ends then s.senseCause t else s.raiseCond (srcTile t 2) (infoTile t none))

/-- R72: `OWN_Dd` and the filtered `OWNX_Dd` have been asserted together for 1.0 µs, from the later of their rises; the device at port S
releases the domain. Under reset R101 governs the line. (DEDUCED, log 105.) -/
def execOwnershipConflict (d : Nat) (s : State) : Host.Outcome State Fault Refusal :=
  .next (if decide (d < 8) && !s.inReset && s.owns d && s.ownx d then
    let s := s.advanceTo (max (s.fab.ownAt.read 0 d) (s.fab.ownxRose.read 0 d) + usTicks 1)
    let s := s.raiseCond (srcDom d 0) (infoTile (12 * d) none)
    if s.flag KFI_STATUS_PORT_STRAP then s.releaseOwn d else s
  else s)

/-! ### Span changes (R84, R88, R89) -/

/-- A span the accepted descriptor allows (R84). -/
def State.spanOk (s : State) (x v : Nat) : Bool :=
  match s.fab.desc with
  | none => false
  | some d => decide (v ≤ 2) && decide (v ≤ if x = 0 then d.maxSpanPri else d.maxSpanTrim)

/-- The handles of the pending banks that are frozen or armed, or whose bursts run (R88 step 1). -/
def Tile.spanHandles (tl : Tile) : List Nat :=
  ([tl.pend0, tl.pend1].filter (fun p => p.st = .frozen || p.st = .armed || (p.st = .bursting && !p.ended))).map Pend.handle

/-- A transaction that a span change waits for has neither ended its last burst here nor ended without a commit (R88 step 1). -/
def Tile.spanMustWait (tl : Tile) : Bool :=
  [tl.pend0, tl.pend1].any (fun p => decide (p.st ≠ .free) && !p.ended && tl.spanFor.contains p.handle)

/-- A write of `DRV_SPAN` in tile t (R84, R88 step 1). -/
def State.writeSpan (s : State) (t v : Nat) : State :=
  let o := DRV_SPAN_SPAN_PRI.offAt t
  if s.flag DRV_SPAN_SPAN_BUSY t then s.badWrite o
  else
    let p := getBits v 0 2
    let q := getBits v 2 2
    let s' := if s.spanOk 0 p then s.setReg DRV_SPAN_SPAN_PRI t p else s
    let s' := if s.spanOk 1 q then s'.setReg DRV_SPAN_SPAN_TRIM t q else s'
    let s' := if s.spanOk 0 p && s.spanOk 1 q then s' else s'.badWrite o
    if s'.reg DRV_SPAN_SPAN_PRI t = s'.reg DRV_SPAN_LIVE_PRI t ∧ s'.reg DRV_SPAN_SPAN_TRIM t = s'.reg DRV_SPAN_LIVE_TRIM t then s'
    else
      let s' := (s'.setFlag DRV_SPAN_SPAN_BUSY t true).modTile t (fun tl => { tl with span := .waiting, spanFor := tl.spanHandles })
      s'.setFlag DRV_SPAN_SPAN_WAIT t (s'.tile t).spanMustWait

/-- R88: a write of `DRV_SPAN`. -/
def execSpanChange (t v : Nat) (s : State) : Host.Outcome State Fault Refusal :=
  .next (if s.windowOpen && decide (t < 96) then s.writeSpan t v else s)

/-- R88 step 4: the new spans become live and the park codes are recomputed (they follow the live span). -/
def State.parkDwellEnd (s : State) (t : Nat) : State :=
  match (s.tile t).span with
  | .dwell 0 =>
    let s := (s.setReg DRV_SPAN_LIVE_PRI t (s.reg DRV_SPAN_SPAN_PRI t)).setReg DRV_SPAN_LIVE_TRIM t (s.reg DRV_SPAN_SPAN_TRIM t)
    s.modTile t (fun tl => { tl with span := .live })
  | _ => s

def execParkDwellEnd (t : Nat) (s : State) : Host.Outcome State Fault Refusal :=
  .next (if t < 96 then s.parkDwellEnd t else s)

/-! ### Bursts and the clear (R96 to R100) -/

/-- The target burst of the sequencer's present bursts begins at its own tick (R96). -/
def State.targetBurst (s : State) (t : Nat) : State :=
  let tl := s.tile t
  let go (k : Nat) : State :=
    let p := tl.pend k
    (s.modTile t (fun tl => { tl with seq := .target k })).burstColumns t (p.endAt - 32 * p.addrs.length) p.addrs (burstCode tl p.target)
  match tl.seq with
  | .steep k => go k
  | .dwell k => go k
  | .quench =>
    let start := tl.burstEnd - 1024
    (match tl.run with
     | some r => if r.start < start then s.burstColumns t start fullBurst (fun n => s.parkOf t (n / 2) (n % 2)) else s
     | none => s)
  | _ => s

/-- The tick at which the target burst of tile t is due. -/
def Tile.targetAt (tl : Tile) : Nat :=
  match tl.seq with
  | .steep k => (tl.pend k).endAt - 32 * (tl.pend k).addrs.length
  | .dwell k => (tl.pend k).endAt - 32 * (tl.pend k).addrs.length
  | .quench => tl.burstEnd - 1024
  | _ => 0

/-- R96: the target burst begins. -/
def execSteepDwellEnd (t : Nat) (s : State) : Host.Outcome State Fault Refusal :=
  .next (if 96 ≤ t then s else (s.advanceTo (s.tile t).targetAt).targetBurst t)

/-- R97 in an owned tile: the slot ends at the first strobe-free tick and one full burst of park codes begins; the verify windows and the
lanes in `BURST` meet the clear (R99). -/
def State.clearTile (s : State) (t : Nat) : State :=
  let start := (s.tile t).strobeFree s.dt
  let s := s.truncateSlot t start
  let s := s.modTile t (fun tl => { (tl.modLanes (fun _ l => if l.mode = .burst then { l with cleared := true } else l)) with
    seq := .clear, clr := true, burstEnd := start + 1024, vers := tl.vers.map (fun v => { v with cleared := true }) })
  let s := s.burstColumns t start fullBurst (fun n => s.parkOf t (n / 2) (n % 2))
  (s.setFlag DRV_STATUS_PARK_HOLD t true).refreshBurst t

/-- R97: the filtered `FABRIC_CLR_N` falls. Under a reset the park sequencer writes (R31) and the input is followed. -/
def execFabricClrAssert (s : State) : Host.Outcome State Fault Refusal :=
  .next (if !s.fab.clrN then s
  else
    let s := ({ s with fab := { s.fab with clrN := false } }).forEach (fun s t => s.setFlag DRV_STATUS_CLR t true) allTiles
    if s.inReset then s.raiseCond 792
    else ((s.forEach (fun s t => if s.ownsTile t then s.clearTile t else s) allTiles).refreshQuench).raiseCond 792)

/-- R97 step 3: the clear's park burst ends; the tile idles until the next marker. -/
def execClearBurstEnd (t : Nat) (s : State) : Host.Outcome State Fault Refusal :=
  .next (if t < 96 ∧ (s.tile t).seq = .clear then
    (((s.advanceTo (s.tile t).burstEnd).modTile t (fun tl => { tl with seq := .idle })).refreshBurst t).releaseDue else s)

/-- R100: the filtered `FABRIC_CLR_N` rises; the lanes leave `PARK` at the next frame marker. -/
def execFabricClrRelease (s : State) : Host.Outcome State Fault Refusal :=
  .next (if s.fab.clrN then s
  else
    let s := { s with fab := { s.fab with clrN := true } }
    (s.forEach (fun s t => s.setFlag DRV_STATUS_CLR t false) allTiles).setCause 792 false)

/-! ### The park sequencer (R33, R101 to R103) -/

/-- Set the park phase of domain d. -/
def State.setParkPh (s : State) (d : Nat) (p : ParkPh) : State :=
  { s with fab := { s.fab with parkPh := s.fab.parkPh.set d p } }

/-- `OWN_Dd` of domain d as the park sequencer drives it. -/
def State.parkOwn (s : State) (d : Nat) (b : Bool) : State :=
  s.setReg KFI_STATUS_OWN 0 (withBit (s.reg KFI_STATUS_OWN) d b)

/-- The `OWNX_Dd` sample at 1.0 µs. With VHV below 23 V (R103), during a drive instruction of the TAP (R625), or in a domain
without a populated tile (R70), nothing is asserted or written. (DESIGN CHOICE, log 34.) -/
def State.parkSample (s : State) (d : Nat) : State :=
  if bit s.fab.ownxRaw d || decide (s.fab.vhv < 23000) || s.tap.drive.isSome || !bit s.fab.parkDoms d then s.setParkPh d .waiting
  else (s.parkOwn d true).setParkPh d .owned

/-- One full park burst in every tile of domain d, in the 0–20 V range. -/
def State.parkBurst (s : State) (d : Nat) : State :=
  s.forEach (fun s k =>
    let t := 12 * d + k
    s.runBurst t s.dt fullBurst (fun n => parkCode (s.parkMv (128 * t + n / 2) (n % 2)) 20000) true) (List.range 12)

/-- With VHV below 23 V the park sequencer asserts no `OWN_Dd` and writes nothing (R103). -/
def State.parkVhv (s : State) : State :=
  if s.inReset && decide (s.fab.vhv < 23000) then
    s.forEach (fun s d =>
      if s.fab.parkPh.getD d .off = .owned ∨ s.fab.parkPh.getD d .off = .burst then
        let s := (s.parkOwn d false).setParkPh d .waiting
        s.forEach (fun s k => s.modTile (12 * d + k) Tile.idleLines) (List.range 12)
      else s) allDoms
  else s

/-- R101, the row at 1.0 µs. (DESIGN CHOICE, log 34.) (DEDUCED, log 90.) -/
def execParkOwnxSample (s : State) : Host.Outcome State Fault Refusal :=
  .next (if s.inReset then s.forEach (fun s d => if s.fab.parkPh.getD d .off = .off then s.parkSample d else s) allDoms else s)

/-- The park burst of domain d is due; with VHV below 23 V nothing is written (R103). -/
def State.parkStart (s : State) (d : Nat) : State :=
  if s.fab.parkPh.getD d .off = .owned then
    (if bit s.fab.ownxRaw d || decide (s.fab.vhv < 23000) then (s.parkOwn d false).setParkPh d .waiting
     else (s.parkBurst d).setParkPh d .burst)
  else s

/-- The park burst of domain d has ended: `OWN_Dd` falls and the columns go to 0 V. -/
def State.parkEnd (s : State) (d : Nat) : State :=
  if s.fab.parkPh.getD d .off = .burst then
    let s := (s.parkOwn d false).setParkPh d (if s.inReset then .waiting else .off)
    s.forEach (fun s k => s.modTile (12 * d + k) Tile.idleLines) (List.range 12)
  else s

/-- R101: at the first park marker at least 300 ns later. (DESIGN CHOICE, log 34.) -/
def execParkBurstStart (s : State) : Host.Outcome State Fault Refusal := .next (s.forEach State.parkStart allDoms)

/-- R101: 10 ns after the burst ends. (DESIGN CHOICE, log 34.) -/
def execParkBurstEnd (s : State) : Host.Outcome State Fault Refusal := .next (s.forEach State.parkEnd allDoms)

/-- R101: the sequence repeats from the `OWNX_Dd` sample while reset is asserted. (DESIGN CHOICE, log 34.) -/
def execParkRepeat (s : State) : Host.Outcome State Fault Refusal :=
  .next (if s.inReset then
    s.forEach (fun s d => if s.fab.parkPh.getD d .off = .waiting then s.parkSample d else s) allDoms
  else s)

end Sys2Proof.Machine
end

