-- ==== Sys2Proof/Machine/Sense.lean ====
section
/-! DEFINITION. Tap sensing: records, ranges, fault runs, drift, telemetry epochs, scarab rotation and line checks (chapter 4). -/

namespace Sys2Proof.Machine

open Reg

/-- N = (code − 512) × 4^(3 − range) (R120). -/
def normal (code range : Nat) : Int := ((code : Int) - 512) * (4 ^ (3 - range) : Nat)

/-- ⌊(N1 + N2) ÷ 2⌋. -/
def Rec.mean (r : Rec) : Int := (r.n1 + r.n2) / 2

/-- `REASON` of a record of slot and line (R125). -/
def State.reasonOf (s : State) (t slot line : Nat) : Nat :=
  if bit (s.reg SNS_STATUS_LINE_OPEN t) line then 5
  else if bit (s.reg SNS_STATUS_UNSERVED t) line then 4
  else (s.tile t).slotSt.read 2 slot

/-- `SNS_STATUS.FAULT_NOW` from the taps' episodes (R142). -/
def State.refreshFaultNow (s : State) (t : Nat) : State :=
  let tl := s.tile t
  let on (c : Nat) : Bool := (List.range 32).any (fun k => (tl.tap (8 * (k / 2) + c) (k % 2)).episode)
  s.setReg SNS_STATUS_FAULT_NOW t ((List.range 8).foldl (fun m c => if on c then m + 2 ^ c else m) 0)

/-- R130: the run has reached `FAULT_FRAMES`; the event is raised once in the episode. -/
def State.senseFaultRun (s : State) (t e x : Nat) : State :=
  let p := (s.tile t).tap e x
  if p.episode || decide (p.run < s.effReg SNS_CTRL_FAULT_FRAMES t) then s
  else
    let s := s.modTile t (fun tl => tl.setTap e x { p with episode := true })
    (s.refreshFaultNow t).raiseCond (srcTile t 2) (infoTile t (some (colOf e)))

/-- R137, R172: a tap's test has held for `DRIFT_CNT` frames; the lane's drift flag is set and the hold event raised once. -/
def State.driftFlag (s : State) (t e : Nat) : State :=
  let tl := s.tile t
  let l := tl.lane e
  let n := s.effReg SNS_DRIFT_DRIFT_CNT t
  if l.mode = .hold ∧ !l.drift ∧ (n ≤ (tl.tap e 0).driftRun ∨ n ≤ (tl.tap e 1).driftRun) then
    let s := s.setTile t (tl.setLane e { l with drift := true, driftEp := true, driftRaised := true })
    if l.driftRaised then s else s.raise (srcTile t 4) (infoTile t (some (colOf e)))
  else s

/-- The tap's own state after a valid record: fault run, drift capture and the epoch's sums (R130, R137, R138). Both flags of R130 share one
run and one episode. (DEDUCED, log 135.) -/
def tapAfter (p : Tap) (r : Rec) (hold : Bool) (absLim rel : Nat) : Tap :=
  let ovr := r.ovr1 || r.ovr2
  let unr := r.unr1 || r.unr2
  let flagged := (ovr && decide (r.range = 0)) || unr
  let p := { p with run := if flagged then p.run + 1 else 0, episode := p.episode && flagged }
  let p := if hold then
      (match p.entry with
       | none => { p with entry := some r.mean, driftRun := 0 }
       | some n =>
         let far := decide (((r.mean - n).natAbs : Int) > (absLim : Int) + (n.natAbs * rel / 1024 : Nat))
         { p with driftRun := if far then p.driftRun + 1 else 0 })
    else p
  let c1 := !(r.ovr1 || r.unr1)
  let c2 := !(r.ovr2 || r.unr2)
  { p with
    sum := p.sum + (if c1 then r.n1 else 0) + (if c2 then r.n2 else 0)
    cnt := p.cnt + b2n c1 + b2n c2
    ovr := min 255 (p.ovr + b2n r.ovr1 + b2n r.ovr2)
    unr := p.unr || unr }

/-- The counter of over- or under-range samples of a line (R143). -/
def ovrCtr (line : Nat) : Fd :=
  [SNS_OVR0_C0, SNS_OVR0_C1, SNS_OVR0_C2, SNS_OVR0_C3, SNS_OVR1_C4, SNS_OVR1_C5, SNS_OVR1_C6, SNS_OVR1_C7].getD line SNS_OVR0_C0
def unrCtr (line : Nat) : Fd :=
  [SNS_UNR0_C0, SNS_UNR0_C1, SNS_UNR0_C2, SNS_UNR0_C3, SNS_UNR1_C4, SNS_UNR1_C5, SNS_UNR1_C6, SNS_UNR1_C7].getD line SNS_UNR0_C0

/-- The record is one of the frame before: its slot has not begun in the present frame (R123). -/
def State.lateRecord (s : State) (t slot : Nat) : Bool := decide ((s.tile t).begun ≤ slot)

/-- The record that crosses to the engine, with what its slot held of the tap (R110, R120, R123, R124, R129). -/
def State.formRecord (s : State) (t slot line c1 c2 : Nat) (sat1 sat2 : Bool) : Rec :=
  let tl := s.tile t
  let e := 8 * (slot / 2) + line
  let frame := if s.lateRecord t slot then tl.frame - 1 else tl.frame
  let l : Latch := tl.latch.read {} (2 * e + slot % 2)
  let range := l.range
  let reason := s.reasonOf t slot line
  if reason = 0 then
    { n1 := normal c1 range, n2 := normal c2 range, c1 := c1, c2 := c2, range := range,
      ovr1 := decide (16320 ≤ c1) || sat1, unr1 := decide (c1 ≤ 64),
      ovr2 := decide (16320 ≤ c2) || sat2, unr2 := decide (c2 ≤ 64),
      reason := 0, dith := l.dith, frame := frame, idx := l.idx }
  else { range := range, reason := reason, dith := l.dith, frame := frame, idx := l.idx }

/-! ### Range selection (R126 to R128) -/

/-- The finer step: the counter has reached `FINE_FRAMES` (R126). -/
def Tap.finerDue (p : Tap) (fineFrames : Nat) : Bool := decide (p.range < 3) && decide (fineFrames ≤ p.fine)

/-- Range and counter after the valid record `r` of the frame just ended (R126). -/
def Tap.select (p : Tap) (r : Rec) (fineFrames : Nat) : Tap :=
  let coarse := r.ovr1 || r.ovr2 || decide (15104 ≤ r.c1) || decide (15104 ≤ r.c2)
  if coarse && decide (0 < p.range) then { p with range := p.range - 1, fine := 0 }
  else if decide (r.c1 ≤ 3648) && decide (r.c2 ≤ 3648) && decide (p.range < 3) then
    let p := { p with fine := p.fine + 1 }
    if p.finerDue fineFrames then { p with range := p.range + 1, fine := 0 } else p
  else { p with fine := 0 }

/-- The choice of the marker for a tap whose record of the frame just ended has come after it: it takes effect at the tap's next slot
(R123, R126). (DEDUCED, log 108.) -/
def State.selectLate (s : State) (t e x : Nat) (r : Rec) : State :=
  let p := (s.tile t).tap e x
  let p' := p.select r (s.effReg SNS_CTRL_FINE_FRAMES t)
  if s.effReg SNS_CTRL_RANGE_MODE t = 1 then s
  else if p'.range = p.range then s.modTile t (fun tl => tl.setTap e x p')
  else (s.modTile t (fun tl => (tl.setTap e x p').modLane e (fun l => { l with rchg := min 255 (l.rchg + 1) }))).inc SNS_EVENTS_RANGE_CHG t

/-- The engine takes record n; that of the frame before stays for a late row (R151). -/
def Tile.keepRecord (tl : Tile) (n : Nat) (r : Rec) : Tile :=
  let o := tl.recs.read {} n
  { tl with recs := tl.recs.write {} n r, recsLast := if o.frame = r.frame then tl.recsLast else tl.recsLast.write {} n o }

/-- R125: the record of one slot and line reaches the engine. `c1` and `c2` are the slice's 14-bit codes, `sat1` and `sat2` the front
end's saturation reports. A record of row 15 that crosses after the marker of an entry into `HOLD` may be the first of R137. (DEDUCED, log 136.) -/
def execSampleRecord (t slot line c1 c2 : Nat) (sat1 sat2 : Bool) (s : State) : Host.Outcome State Fault Refusal :=
  .next (if s.inReset || decide (96 ≤ t) || decide (32 ≤ slot) || decide (8 ≤ line) then s
  else
    let e := 8 * (slot / 2) + line
    let x := slot % 2
    let r := s.formRecord t slot line (c1 % 16384) (c2 % 16384) sat1 sat2
    let s := s.modTile t (fun tl => tl.keepRecord (8 * slot + line) r)
    if r.reason ≠ 0 then s
    else
      let s := s.count (ovrCtr line) t (b2n r.ovr1 + b2n r.ovr2)
      let s := s.count (unrCtr line) t (b2n r.unr1 + b2n r.unr2)
      let tl := s.tile t
      let was := (tl.tap e x).episode
      let p := tapAfter (tl.tap e x) r (decide ((tl.lane e).mode = .hold))
        (s.effReg SNS_DRIFT_DRIFT_ABS t) (s.effReg SNS_DRIFT_DRIFT_REL t)
      let s := s.setTile t (tl.setTap e x p)
      let s := if was && !p.episode then (s.refreshFaultNow t).senseCause t else s
      let s := if s.lateRecord t slot then s.selectLate t e x r else s
      (s.senseFaultRun t e x).driftFlag t e)

/-- R130. -/
def execSenseFaultRun (t e x : Nat) (s : State) : Host.Outcome State Fault Refusal :=
  .next (if s.inReset || decide (96 ≤ t) || decide (128 ≤ e) || decide (2 ≤ x) then s else s.senseFaultRun t e x)

/-- R137. -/
def execDriftFlag (t e : Nat) (s : State) : Host.Outcome State Fault Refusal :=
  .next (if s.inReset || decide (96 ≤ t) || decide (128 ≤ e) then s else s.driftFlag t e)

/-! ### Range selection at the marker (R126 to R128) -/

/-- The taps of tile t at a frame marker; counts the range changes (R126 to R128). -/
def State.selectRanges (s : State) (t : Nat) : State :=
  let tl := s.tile t
  let fixed := s.effReg SNS_CTRL_RANGE_MODE t = 1
  let step (acc : Tile × Nat) (n : Nat) : Tile × Nat :=
    let e := n / 2
    let x := n % 2
    let p := acc.1.tap e x
    let r := tl.record (2 * rowOf e + x) (colOf e)
    let p' :=
      if fixed then { p with range := s.effReg SNS_CTRL_FIX_RANGE t, fine := 0 }
      else if r.reason = 0 ∧ r.frame + 1 = tl.frame then p.select r (s.effReg SNS_CTRL_FINE_FRAMES t) else p
    if p'.range = p.range then (acc.1.setTap e x p', acc.2)
    else ((acc.1.setTap e x p').modLane e (fun l => { l with rchg := min 255 (l.rchg + 1) }), acc.2 + 1)
  let (tl', n) := (List.range 256).foldl step (tl, 0)
  (s.setTile t tl').count SNS_EVENTS_RANGE_CHG t n

/-- R126: the tap's counter has reached `FINE_FRAMES`; its range becomes one step finer. -/
def execRangeFiner (t e x : Nat) (s : State) : Host.Outcome State Fault Refusal :=
  let p := (s.tile t).tap e x
  .next (if s.inReset || decide (96 ≤ t) || decide (128 ≤ e) || decide (2 ≤ x) || decide (s.effReg SNS_CTRL_RANGE_MODE t = 1) ||
      !p.finerDue (s.effReg SNS_CTRL_FINE_FRAMES t) then s
  else
    let s := s.modTile t (fun tl =>
      (tl.setTap e x { p with range := p.range + 1, fine := 0 }).modLane e (fun l => { l with rchg := min 255 (l.rchg + 1) }))
    s.inc SNS_EVENTS_RANGE_CHG t)

/-! ### Telemetry epochs (R138, R148, R182) -/

/-- The frozen sense entry of element e. -/
def Tile.senseEntry (tl : Tile) (e : Nat) : SenseTel :=
  let b := tl.tap e 0
  let x := tl.tap e 1
  let l := tl.lane e
  { barSum := b.sum, crossSum := x.sum, barCnt := b.cnt, crossCnt := x.cnt, barOvr := b.ovr, crossOvr := x.ovr,
    barRange := b.range, crossRange := x.range, barUnr := b.unr, crossUnr := x.unr, drift := l.driftEp, rangeChg := l.rchg }

/-- The frozen loop entry of element e. -/
def Lane.loopEntry (l : Lane) : LoopTel :=
  { codePri := l.uaP, codeTrim := l.uaT, kappa0 := l.kappa0, rRamp := l.r, slope := l.g, gset := l.gset, mode := l.mode,
    reacq := l.reacq, zclamp := l.zclamp, outSat := l.outSat, miss := l.miss, div := l.divN }

/-- R148 at the epoch's end: g from Q when at least 240 frames were measured; 0 for an element without dither. -/
def Lane.slopeUpdate (l : Lane) (dithered : Bool) : Lane :=
  let g := if !dithered then 0
    else if 240 ≤ l.measN then clampI (roundDiv (2 * l.q) 16777216) (-32768) 32767 else l.g
  { l with g := g, q := 0, measN := 0 }

/-- The tile's epoch ends: both tables freeze and the accumulation starts again. Records of its last frame that come later count in the next
epoch (R123, R148). (DEDUCED, log 137.) -/
def State.epochEnd (s : State) (t : Nat) : State :=
  let tl := s.tile t
  if tl.epoch < 256 then s
  else
    let tl := tl.modLanes (fun e l => l.slopeUpdate (s.dithered t e))
    let tl := { tl with
      senseTel := allElems.foldl (fun m e => m.write {} e (tl.senseEntry e)) tl.senseTel
      loopTel := allElems.foldl (fun m e => m.write {} e (tl.lane e).loopEntry) tl.loopTel
      epoch := 0, epochs := tl.epochs + 1 }
    let tl := tl.modLanes (fun _ l => { l with zclamp := 0, outSat := 0, miss := 0, divN := 0, rchg := 0, driftEp := l.drift })
    let tl := { tl with taps := tl.taps.update {} (fun _ p => { p with sum := 0, cnt := 0, ovr := 0, unr := false }) (List.range 256) }
    s.setTile t tl

/-- R138: the banks of every tile whose 256 frames have passed exchange. -/
def execEpochEnd (s : State) : Host.Outcome State Fault Refusal :=
  .next (if s.inReset then s else s.forEach State.epochEnd allTiles)

/-! ### Scarab rotation (R131 to R134) -/

/-- Slice k fails: marked, the sense-calibration event raised, the rotation stopped (R134). -/
def State.sliceFailed (s : State) (t k : Nat) : State :=
  let s := s.setReg SNS_SCARAB_FAILED t (withBit (s.reg SNS_SCARAB_FAILED t) k true)
  let s := s.setFlag SNS_SCARAB_OVERLAP t false
  (s.modTile t (fun tl => { tl with scarab := .stopped })).raiseCond (srcTile t 3) (infoTile t none)

/-- A calibration's coefficients serve tile t: its sense trims are a free value from now on (R133, R135). (DESIGN CHOICE, log 150.) -/
def State.newSenseTrims (s : State) (t : Nat) : State :=
  { s with free := s.free + 1, btu := { s.btu with senseCal := s.btu.senseCal.write none t (some s.free) } }

/-- R133: the end of a 250 ms period. A postponed step between two refusals leaves their count (R134). (DEDUCED, log 110.) `pairs` is the number of usable pairs of the comparison window and `sum` the sum of their code
differences; the tolerance is in sixteenths of an LSB. -/
def execScarabStep (t pairs : Nat) (sum : Int) (s : State) : Host.Outcome State Fault Refusal :=
  .next (if s.inReset || decide (96 ≤ t) || decide (s.effReg SNS_CTRL_SCARAB_EN t ≠ 1) || decide ((s.tile t).scarab ≠ .overlap) || decide ((s.tile t).period < 100000) then s
  else
    let tl := s.tile t
    let e := s.reg SNS_SCARAB_SPARE t
    let s := (s.setFlag SNS_SCARAB_OVERLAP t false).setTile t { tl with scarab := .calibrating, period := 0 }
    if pairs < 2048 then s
    else if 16 * sum.natAbs ≤ s.reg SNS_SCARAB_SCARAB_TOL t * pairs then
      let up := decide (e = 0) || (decide (e < 8) && s.flag SNS_SCARAB_DIR t)
      let e' := if up then e + 1 else e - 1
      let s := (s.setReg SNS_SCARAB_SPARE t e').setFlag SNS_SCARAB_DIR t (decide (e' = 0) || (up && decide (e' < 8)))
      ((s.modTile t (fun tl => { tl with refusals := 0 })).inc SNS_EVENTS_SWAPS t).newSenseTrims t
    else
      let s := s.inc SNS_EVENTS_SWAP_REFUSED t
      let s := s.modTile t (fun tl => { tl with refusals := tl.refusals + 1 })
      if 2 ≤ (s.tile t).refusals then s.sliceFailed t e else s)

/-- R133: the spare slice's calibration ends; `ok` false when it cannot be brought within range (R134). -/
def execScarabCalDone (t : Nat) (ok : Bool) (s : State) : Host.Outcome State Fault Refusal :=
  .next (if s.inReset || decide (96 ≤ t) || decide ((s.tile t).scarab ≠ .calibrating) then s
  else if ok then s.modTile t (fun tl => { tl with scarab := .ready })
  else s.sliceFailed t (s.reg SNS_SCARAB_SPARE t))

/-- R133: the spare slice starts converting its target line. -/
def execScarabOverlapStart (t : Nat) (s : State) : Host.Outcome State Fault Refusal :=
  .next (if s.inReset || decide (96 ≤ t) || decide (s.effReg SNS_CTRL_SCARAB_EN t ≠ 1) || decide ((s.tile t).scarab ≠ .ready) || decide ((s.tile t).period < 99935) then s
  else (s.modTile t (fun tl => { tl with scarab := .overlap })).setFlag SNS_SCARAB_OVERLAP t true)

/-- The line that slice k serves with spare e (R131). -/
def lineOfSlice (e k : Nat) : Nat := if k < e then k else k - 1

/-- R135: the start-up calibration of tile t ends. `slices` marks the slices that failed, `lines` the front ends whose range ratios
could not be trimmed, `opens` the lines found open. Start-up leaves e = 8 (R131), so the line of a slice that failed has no working slice
(R125); with a failed slice the rotation does not start. (DEDUCED, log 109.) -/
def execSenseStartupCalDone (t slices lines opens : Nat) (s : State) : Host.Outcome State Fault Refusal :=
  .next (if s.inReset || decide (96 ≤ t) || decide (s.startup ≠ 3) then s
  else
    let failed := bitsOf 9 slices
    let unserved := (failed.filter (fun k => decide (k ≠ 8))).foldl (fun m k => withBit m (lineOfSlice 8 k) true) (lines % 256)
    let s := (s.setReg SNS_SCARAB_FAILED t (slices % 512)).setReg SNS_SCARAB_SPARE t 8
    let s := (s.setReg SNS_STATUS_UNSERVED t unserved).setReg SNS_STATUS_LINE_OPEN t (opens % 256)
    let s := (s.setFlag SNS_STATUS_CAL_DONE t true).newSenseTrims t
    let s := s.modTile t (fun tl => { tl with lineUnserved := lines % 256, scarab := if failed.isEmpty then .calibrating else .stopped, period := 0, refusals := 0 })
    let s := if failed.isEmpty ∧ lines % 256 = 0 then s else s.raiseCond (srcTile t 3) (infoTile t (bitsOf 8 lines).head?)
    if unserved = 0 ∧ opens % 256 = 0 then s.senseCause t
    else s.raiseCond (srcTile t 2) (infoTile t (bitsOf 8 (Nat.lor unserved opens)).head?))

/-! ### Line checks (R136) -/

/-- A request of a line check: refused in an owned tile. -/
def State.lineCheck (s : State) (t : Nat) : State :=
  if s.ownsTile t then s.badWrite (SNS_CTRL_LINE_CHECK.offAt t)
  else (s.setFlag SNS_CTRL_LINE_CHECK t true).setFlag SNS_STATUS_CHECK_BUSY t true

def execLineCheck (t : Nat) (s : State) : Host.Outcome State Fault Refusal :=
  .next (if s.windowOpen && decide (t < 96) then s.lineCheck t else s)

/-- R136: the check ends; `opens` marks the lines that took less than the charge of 1.0 pF. -/
def execLineCheckDone (t opens : Nat) (s : State) : Host.Outcome State Fault Refusal :=
  .next (if s.inReset || decide (96 ≤ t) || !s.flag SNS_STATUS_CHECK_BUSY t then s
  else
    let s := (s.setFlag SNS_CTRL_LINE_CHECK t false).setFlag SNS_STATUS_CHECK_BUSY t false
    let s := s.setReg SNS_STATUS_LINE_OPEN t (opens % 256)
    if opens % 256 = 0 then s.senseCause t else s.raiseCond (srcTile t 2) (infoTile t (bitsOf 8 opens).head?))

end Sys2Proof.Machine
end

