-- ==== Sys2Proof/Machine/Loop.lean ====
section
/-! DEFINITION. The element loops: measurement, observer, control law, handover, integrators, ramp, divergence, sweeps (chapter 5). -/

namespace Sys2Proof.Machine

open Reg

/-! ### Measurement (R147, R149) -/

/-- The value of a tap, or none when it is missing (R147). -/
def Rec.value (r : Rec) : Option Int :=
  if r.reason ≠ 0 then none
  else
    let f1 := r.ovr1 || r.unr1
    let f2 := r.ovr2 || r.unr2
    if f1 && f2 then none else if f1 then some r.n2 else if f2 then some r.n1 else some r.mean

/-- A measured frame: κ, κ₀ and Σ. -/
structure Meas where
  kappa : Nat
  kappa0 : Nat
  sigma : Int
  deriving DecidableEq, Repr

/-- Measure from the bar and cross records with slope g (R147, R148). -/
def measure (bar cross : Rec) (sumMin : Nat) (g : Int) : Option Meas :=
  match bar.value, cross.value with
  | some b, some x =>
    let sg := b + x
    if 0 < sg ∧ (16 * sumMin : Nat) ≤ sg then
      let k := clampCode (roundDiv (65535 * x) sg)
      some { kappa := k, kappa0 := clampCode ((k : Int) - roundDiv (g * toneS cross.idx) 65536), sigma := sg }
    else none
  | _, _ => none

/-- y of R149 in Q8.15, with the number of saturations (none counts in `ACC_SAT`: R149 only limits). -/
def measY (m : Meas) (r sRef : Nat) : Int × Int :=
  let y0 := (satQ24 (roundDiv ((m.kappa0 : Int) - r) 2)).1
  let y1 := if sRef = 0 then 0 else (satQ24 (roundDiv ((m.sigma - sRef) * 32768) sRef)).1
  (y0, y1)

/-! ### The control law (R150, R152, R158, R171) -/

/-- Σ cᵢ vᵢ, exact. -/
def dot : List Int → List Int → Int
  | c :: cs, v :: vs => c * v + dot cs vs
  | _, _ => 0

/-- Row i of a matrix of n columns. -/
def rowOfMat (m : List Int) (n i : Nat) : List Int := (m.drop (n * i)).take n

def Lane.x (l : Lane) : List Int := [l.x0, l.x1, l.x2, l.x3]
def Lane.ua (l : Lane) : List Int := [uOfCode l.uaP, uOfCode l.uaT]

/-- C x̂, each component rounded once; saturations are counted. -/
def GainSet.cx (g : GainSet) (x : List Int) : (Int × Int) × Nat :=
  let a := roundAcc (dot (rowOfMat g.c 4 0) x)
  let b := roundAcc (dot (rowOfMat g.c 4 1) x)
  ((a.1, b.1), a.2 + b.2)

/-- Step 3 of R150 for component i. -/
def GainSet.xNext (g : GainSet) (x ua inn : List Int) (i : Nat) : Int × Nat :=
  roundAcc (dot (rowOfMat g.a 4 i) x + dot (rowOfMat g.b 2 i) ua + dot (rowOfMat g.l 2 i) inn)

/-- The observer step: the new state, the innovation (0 when unmeasured) and the saturations. -/
def GainSet.observe (g : GainSet) (l : Lane) (y : Option (Int × Int)) : Lane × Int × Nat :=
  let (inn, n) := match y with
    | none => (([] : List Int), 0)
    | some (y0, y1) =>
      let (cx, n) := g.cx l.x
      let a := satQ24 (y0 - cx.1)
      let b := satQ24 (y1 - cx.2)
      ([a.1, b.1], n + a.2 + b.2)
  let a := g.xNext l.x l.ua inn 0
  let b := g.xNext l.x l.ua inn 1
  let c := g.xNext l.x l.ua inn 2
  let d := g.xNext l.x l.ua inn 3
  ({ l with x0 := a.1, x1 := b.1, x2 := c.1, x3 := d.1 }, inn.getD 0 0, n + a.2 + b.2 + c.2 + d.2)

/-- x̂⟨n⟩: the neighbour's state after its update for the frame before `frame`, whatever its mode and whatever has set its state
since (R152). -/
def Tile.nbrX (tl : Tile) (frame n : Nat) : List Int :=
  let l := tl.lane n
  if l.upd = frame + 1 then [l.xp0, l.xp1, l.xp2, l.xp3] else [l.xa0, l.xa1, l.xa2, l.xa3]

/-- The lane's state is copied for its neighbours after its update (R152). -/
def Lane.copyX (l : Lane) : Lane :=
  { l with xp0 := l.xa0, xp1 := l.xa1, xp2 := l.xa2, xp3 := l.xa3, xa0 := l.x0, xa1 := l.x1, xa2 := l.x2, xa3 := l.x3 }

/-- ν[j] of R150 step 4, rounded once; saturations are counted. -/
def Tile.nu (tl : Tile) (g : GainSet) (cfg : LaneCfg) (frame j : Nat) : Int × Nat :=
  roundAcc ((List.range 4).foldl (fun acc n =>
    let nb := cfg.nbr.getD n 255
    if nb ≠ 255 ∧ bit g.nbrUse n then acc + dot (rowOfMat (g.n.drop (8 * n)) 4 j) (tl.nbrX frame nb) else acc) 0)

/-- K_j x̂ in Q12.27. -/
def GainSet.kx (g : GainSet) (l : Lane) (j : Nat) : Int := dot (rowOfMat g.k 4 j) l.x

def GainSet.zLo (g : GainSet) (j : Nat) : Int := if j = 0 then g.zmin0 else g.zmin1
def GainSet.zHi (g : GainSet) (j : Nat) : Int := if j = 0 then g.zmax0 else g.zmax1

/-- z[j] of a handover, whether it was clamped, and the saturation of its numerator, which is one accumulation of R145 (R171). (DEDUCED, log 114.) -/
def GainSet.handoverZ (g : GainSet) (l : Lane) (j : Nat) (nu ff uStar : Int) : Int × Bool × Nat :=
  let num := satQ40 (4096 * ff - g.kx l j - 4096 * nu - 4096 * uStar)
  let ki := g.ki.getD j 1
  let z := if 0 < ki then roundDiv num.1 ki else roundDiv (-num.1) (-ki)
  let c := clampI z (g.zLo j) (g.zHi j)
  (c, decide (c ≠ z), num.2)

/-- u[j] of R150 step 7: one accumulation, rounded once. -/
def GainSet.control (g : GainSet) (l : Lane) (j : Nat) (z nu ff : Int) : Int × Nat :=
  roundAcc (4096 * ff - g.kx l j - 4096 * nu - g.ki.getD j 0 * z)

/-- The integrator step of R158 for input j. -/
def GainSet.integrate (g : GainSet) (j : Nat) (z y0 u : Int) : Int :=
  let c := (u + 64) / 128
  let push := -(g.ki.getD j 0 * y0)
  if (65535 < c ∧ 0 < push) ∨ (c < 0 ∧ push < 0) then z else clampI (z + y0) (g.zLo j) (g.zHi j)

/-! ### Gain scheduling (R153 to R156) -/

/-- State class of a ramped setpoint (R154). -/
def stateClass (r eB eX : Nat) : Nat :=
  if r ≤ eB then 0 else if eX ≤ r then 7 else 1 + 6 * (r - eB - 1) / (eX - eB - 1)

/-- The gain set index of a lane (R153). -/
def State.gainIndex (s : State) (t : Nat) (cfg : LaneCfg) (l : Lane) : Nat :=
  if cfg.gsFixEn then cfg.gsFix
  else 8 * s.reg LOOP_TEMP_TBAND t + stateClass l.r (s.effReg LOOP_REGION_BAR_EDGE t) (s.effReg LOOP_REGION_CROSS_EDGE t)

def Tile.gainSet (tl : Tile) (k : Nat) : Option GainSet := tl.gain.live.read none k
def Tile.cfg (tl : Tile) (e : Nat) : LaneCfg := tl.lcfg.live.read {} e

/-! ### Re-acquire, freeze and divergence (R160, R163, R170, R173) -/

/-- The last measured frame of re-acquire: re-acquire ends with a handover due; leaving `PARK`, r takes κ₀ (R163, R170). (DEDUCED, log 86.) -/
def Lane.reacqEnd (l : Lane) (k0 frame : Nat) : Lane :=
  { l with reacq := false, reacqLeft := 0, handover := true, divRun := 0, satRun := 0, fromPark := false,
           reacqTo := if l.reacqLeft = 0 then 0 else frame + 1
           r := if l.fromPark then k0 else l.r }

/-- R160: the lane freezes. (DEDUCED, log 86.) -/
def State.loopFreeze (s : State) (t e : Nat) : State :=
  let l := (s.tile t).lane e
  if l.mode = .feedback ∧ !l.freeze ∧ s.effReg LOOP_MEAS_MISS_MAX t ≤ l.fbMiss then
    (s.modTile t (fun tl => tl.setLane e { l with freeze := true })).inc LOOP_DIV_MISS_FREEZE t
  else s

/-- R173: a divergence run has reached `DIV_FRAMES`: the lane goes into re-acquire from its reset state, the episode is counted, and
the limits of the window may hold the lane or raise the tile event. (DEDUCED, log 87.) -/
def State.divergence (s : State) (t e : Nat) : State :=
  let l := (s.tile t).lane e
  let n := s.effReg LOOP_CTRL_DIV_FRAMES t
  if l.mode = .feedback ∧ !l.reacq ∧ (n ≤ l.divRun ∨ n ≤ l.satRun) then
    let l := { l.reacqFresh (s.effReg LOOP_CTRL_REACQ_FRAMES t) l.placedP with divN := min 255 (l.divN + 1), divWin := l.divWin + 1 }
    let l := { l with divHold := l.divHold || decide (s.effReg LOOP_CTRL_DIV_LANE_MAX t ≤ l.divWin) }
    let s := s.modTile t (fun tl => { (tl.setLane e l) with divWin := tl.divWin + 1 })
    let s := s.inc LOOP_DIV_DIV_EPISODES t
    if s.effReg LOOP_MEAS_DIV_LIMIT t ≤ (s.tile t).divWin ∧ !(s.tile t).divRaised then
      (s.modTile t (fun tl => { tl with divRaised := true })).raiseCond (srcTile t 5) (infoTile t none)
    else s
  else s

/-! ### The row update (R150, R151) -/

/-- The record of frame f of a slot and line: the latest one, or the one before it when the update is late (R151). -/
def Tile.recordOf (tl : Tile) (slot line f : Nat) : Option Rec :=
  let r := tl.record slot line
  if r.frame = f then some r
  else
    let o := tl.recsLast.read {} (8 * slot + line)
    if o.frame = f then some o else none

/-- The measurement of element e from the cross record of its row and the bar record of the same frame (R147). -/
def State.measLane (s : State) (t e : Nat) : Option Meas :=
  let tl := s.tile t
  let cross := tl.record (2 * rowOf e + 1) (colOf e)
  (tl.recordOf (2 * rowOf e) (colOf e) cross.frame).bind (fun bar =>
    measure bar cross (s.effReg LOOP_MEAS_SUM_MIN t) (if s.dithered t e then (tl.lane e).g else 0))

/-- The frame the records of row r belong to. -/
def Tile.rowFrame (tl : Tile) (r : Nat) : Nat := (tl.record (2 * r + 1) 0).frame

/-- The records of both slots of row r are in for one frame of the frame count, which no enabled lane of the row has been computed
for (R147, R151). -/
def Tile.rowIn (tl : Tile) (r : Nat) : Bool :=
  let f := tl.rowFrame r
  decide (0 < f) && (List.range 8).all (fun c =>
    decide ((tl.record (2 * r + 1) c).frame = f) && (tl.recordOf (2 * r) c f).isSome &&
    (!(tl.lcfg.live.read {} (8 * r + c)).loopEn || decide ((tl.lane (8 * r + c)).upd ≤ f)))

/-- Some enabled lane of row r has not been computed for the records that are in. -/
def Tile.rowWaits (tl : Tile) (r : Nat) : Bool :=
  tl.rowIn r && (List.range 8).any (fun c => (tl.lcfg.live.read {} (8 * r + c)).loopEn && decide (0 < tl.rowFrame r))

/-- Row r is the next to be computed: of the rows whose records are in and wait, none has records that came before its own (R151). -/
def Tile.rowNext (tl : Tile) (r : Nat) : Bool :=
  tl.rowIn r && (List.range 16).all (fun q =>
    !(tl.rowWaits q && (decide (tl.rowFrame q < tl.rowFrame r) || (decide (tl.rowFrame q = tl.rowFrame r) && decide (q < r)))))

/-- κ, Q and the runs of unmeasured frames (R148, R160, R182). (DEDUCED, log 84.) -/
def Lane.noteMeas (l : Lane) (m : Option Meas) (idx : Nat) : Lane :=
  let l := match m with
    | some m => { l with kappa := m.kappa, kappa0 := m.kappa0, measN := l.measN + 1, missRun := 0 }
    | none => { l with missRun := min 255 (l.missRun + 1), miss := min 255 (l.miss + 1) }
  { l with q := l.q + (l.kappa : Int) * toneS idx, fbMiss := if l.mode = .feedback ∧ m.isNone then min 255 (l.fbMiss + 1) else 0 }

/-- Place codes of element e for the next frame. `late` places into the current bank (the frame has already begun, R29). -/
def Tile.place (tl : Tile) (e p q : Nat) (late : Bool) : Tile :=
  if late then { tl with cur := setBankCode (setBankCode tl.cur e 0 p) e 1 q }
  else { tl with nxt := setBankCode (setBankCode tl.nxt e 0 p) e 1 q }

/-- What computing one lane gives: the lane, its codes, the saturations, a handover clamp, and a use of a gain set that is not valid. -/
structure LaneOut where
  lane : Lane
  codeP : Nat
  codeT : Nat
  sats : Nat := 0
  clamped : Bool := false
  badGs : Bool := false
  deriving DecidableEq, Repr

/-- Steps 3 to 9 of R150 for a lane in `FEEDBACK` outside re-acquire, with gain set g. -/
def Tile.control (tl : Tile) (e frame : Nat) (l : Lane) (g : GainSet) (cfg : LaneCfg) (m : Option Meas) : LaneOut :=
  let y := m.map (fun m => measY m l.r cfg.sRef)
  let (lo, inn, n1) := g.observe l y
  let nu0 := tl.nu g cfg frame 0
  let nu1 := tl.nu g cfg frame 1
  let ff0 := uOfCode (tl.targetCode e 0 l.r)
  let ff1 := uOfCode (tl.targetCode e 1 l.r)
  let h0 := g.handoverZ lo 0 nu0.1 ff0 (uOfCode l.uaP)
  let h1 := g.handoverZ lo 1 nu1.1 ff1 (uOfCode l.uaT)
  let z0 := if l.handover then h0.1 else l.z0
  let z1 := if l.handover then h1.1 else l.z1
  let u0 := g.control lo 0 z0 nu0.1 ff0
  let u1 := g.control lo 1 z1 nu1.1 ff1
  let c0 := codeOfU u0.1
  let c1 := codeOfU u1.1
  let z0' := match y with
    | some (y0, _) => if l.handover then z0 else g.integrate 0 z0 y0 u0.1
    | none => z0
  let z1' := match y with
    | some (y0, _) => if l.handover then z1 else g.integrate 1 z1 y0 u1.1
    | none => z1
  let satd := c0.2 || c1.2
  let far := decide ((inn.natAbs : Int) > g.innovMax)
  let yFar := match y with
    | some (y0, _) => decide ((y0.natAbs : Int) > g.innovMax)
    | none => false
  let lo := { lo with
    z0 := z0', z1 := z1', handover := false
    outSat := if satd then min 255 (l.outSat + 1) else l.outSat
    divRun := if m.isSome && decide (l.reacqTo ≠ frame + 1) then (if far then l.divRun + 1 else 0) else l.divRun
    satRun := if m.isSome && decide (l.reacqTo ≠ frame + 1) then (if satd && yFar then l.satRun + 1 else 0) else l.satRun
    r := clampCode ((l.r : Int) + clampI ((l.rT : Int) - l.r) (-(cfg.ramp : Int)) cfg.ramp) }
  { lane := lo, codeP := c0.1, codeT := c1.1, 
    sats := n1 + nu0.2 + nu1.2 + u0.2 + u1.2 + (if l.handover then h0.2.2 + h1.2.2 else 0),
    clamped := l.handover && (h0.2.1 || h1.2.1) }

/-- A lane in `FEEDBACK` in this frame: a frozen one keeps its ramp and its gain set (R160), and its selection is tested all the same
(R153, R156). (DEDUCED, log 85; DEDUCED, log 86; DEDUCED, log 114.) -/
def Tile.feedbackLane (tl : Tile) (e frame idx : Nat) (l : Lane) (cfg : LaneCfg) (m : Option Meas) (reacqFrames : Nat) : LaneOut :=
  let stay (l : Lane) (bad : Bool) (n : Nat) : LaneOut := { lane := l, codeP := l.uaP, codeT := l.uaT, sats := n, badGs := bad }
  -- A frozen lane keeps placing u_a until a measured frame takes it into re-acquire (R160).
  let l := if l.freeze && m.isSome then { l.reacqFresh reacqFrames l.placedP with fromPark := l.fromPark && l.reacq } else l
  if l.freeze then stay l (tl.gainSet idx).isNone 0
  else
    match tl.gainSet idx, tl.gainSet l.gset with
    | none, none => stay l true 0
    | some g, _ => run l g idx false stay
    | none, some g => run l g l.gset true stay
where
  /-- The lane with its gain set chosen; `bad` when the selection named a set that is not valid (R156). With `REACQ_FRAMES` = 0 and an
  unmeasured first frame, r takes the κ₀ of the last measured frame before it (R163). (DEDUCED, log 114.) -/
  run (l : Lane) (g : GainSet) (k : Nat) (bad : Bool) (stay : Lane → Bool → Nat → LaneOut) : LaneOut :=
    let l := { l with handover := l.handover || (!l.reacq && decide (k ≠ l.gset)) || (!l.reacq && tl.bankChanged), gset := k }
    let l := if l.reacq ∧ (l.reacqLeft = 0 ∨ (m.isSome ∧ l.reacqLeft ≤ 1)) then l.reacqEnd ((m.map Meas.kappa0).getD l.kappa0) frame else l
    if l.reacq then
      let (lo, _, n) := g.observe l (m.map (fun m => measY m l.r cfg.sRef))
      stay { lo with reacqLeft := if m.isSome then l.reacqLeft - 1 else l.reacqLeft } bad n
    else { tl.control e frame l g cfg m with badGs := bad }

/-- The measured frames that a point's capture is the mean of: the last ⌈D ÷ 2⌉ (R174). -/
def Sweep.keep (w : Sweep) (cap : List (Nat × Int)) (m : Meas) : List (Nat × Int) := ((m.kappa, m.sigma) :: cap).take ((w.dwell + 1) / 2)

/-- An integrator of the lane ends the frame at a limit of the gain set it used last (R159). -/
def Lane.atZLimit (l : Lane) (g : Option GainSet) : Bool :=
  match g with
  | some g => decide (l.z0 = g.zmin0 ∨ l.z0 = g.zmax0 ∨ l.z1 = g.zmin1 ∨ l.z1 = g.zmax1)
  | none => false

/-- Clamp frames are counted in every mode, against the limits of the gain set that the lane used last (R159). (DEDUCED, log 114.) -/
def Tile.clampFrame (tl : Tile) (o : LaneOut) : LaneOut :=
  if o.lane.atZLimit (tl.gainSet o.lane.gset) then { o with lane := { o.lane with zclamp := min 255 (o.lane.zclamp + 1) } } else o

/-- Lane e as frame f has it: a lane that has changed mode at the marker since is computed for f in its mode of f (R150). -/
def Tile.laneOf (tl : Tile) (e f : Nat) : Lane :=
  let l := tl.lane e
  if tl.frame ≤ f then l
  else match tl.lanesLast.read none e with
    | none => l
    | some o =>
      { l with mode := o.mode, reacq := o.reacq, reacqLeft := o.reacqLeft, reacqTo := o.reacqTo, freeze := o.freeze, handover := o.handover,
               fromPark := o.fromPark, divRun := o.divRun, satRun := o.satRun, x0 := o.x0, x1 := o.x1, x2 := o.x2, x3 := o.x3,
               z0 := o.z0, z1 := o.z1, r := o.r, rT := o.rT, uaP := o.uaP, uaT := o.uaT, heldP := o.heldP, heldT := o.heldT }

/-- What a late update of frame f leaves in lane e, which the marker has taken from `o` to another mode: the frame's counts and copies, its
integrators and ramp, and its observer unless the lane has begun from a new state (R170). What the marker set stands. -/
def Tile.keepLate (tl : Tile) (e f : Nat) (o : LaneOut) : LaneOut :=
  let l := tl.lane e
  if decide (tl.frame ≤ f) || (tl.lanesLast.read none e).isNone then o
  else
    let n := o.lane
    let fresh := l.reacq && l.fromPark
    let k : Lane := { l with
      kappa := n.kappa, kappa0 := n.kappa0, q := n.q, measN := n.measN, missRun := n.missRun, miss := n.miss, fbMiss := n.fbMiss, g := n.g,
      upd := n.upd, gset := n.gset, outSat := n.outSat, zclamp := n.zclamp, cap := n.cap, capLast := n.capLast
      r := if l.mode = .burst then l.r else n.r
      x0 := if fresh then l.x0 else n.x0, x1 := if fresh then l.x1 else n.x1, x2 := if fresh then l.x2 else n.x2, x3 := if fresh then l.x3 else n.x3
      z0 := if fresh then l.z0 else n.z0, z1 := if fresh then l.z1 else n.z1 }
    { o with lane := k, codeP := if l.mode = .feedback then l.uaP else o.codeP, codeT := if l.mode = .feedback then l.uaT else o.codeT }

/-- One lane in this frame (R150, R166). (DEDUCED, log 85; DEDUCED, log 134.) -/
def State.updateLane (s : State) (t e frame : Nat) (tl : Tile) : LaneOut :=
  let l := tl.laneOf e frame
  let cfg := tl.cfg e
  let m := s.measLane t e
  let idx := (tl.record (2 * rowOf e + 1) (colOf e)).idx
  let l := { l.noteMeas m idx with g := if s.dithered t e then l.g else 0 }
  let l := { l with upd := frame + 1 }
  let same (l : Lane) : LaneOut := { lane := l, codeP := l.uaP, codeT := l.uaT }
  tl.keepLate e frame <| tl.clampFrame <| match l.mode with
  | .feedback => tl.feedbackLane e frame (s.gainIndex t cfg l) l cfg m (s.effReg LOOP_CTRL_REACQ_FRAMES t)
  | .burst =>
    -- Prediction with u_a; the target codes stay in the drive bank (R166).
    let (lo, n) := match tl.gainSet l.gset with
      | some g => let o := g.observe l none; (o.1, o.2.2)
      | none => (l, 0)
    { lane := lo, codeP := bankCode tl.cur e 0, codeT := bankCode tl.cur e 1, sats := n }
  | .hold =>
    let (lo, n) := match tl.gainSet l.gset with
      | some g => let o := g.observe l (m.map (fun m => measY m l.r cfg.sRef)); (o.1, o.2.2)
      | none => (l, 0)
    { lane := lo, codeP := l.heldP, codeT := l.heldT, sats := n }
  | .shadow =>
    let (lo, n) := match tl.gainSet l.gset with
      | some g => let o := g.observe l none; (o.1, o.2.2)
      | none => (l, 0)
    { lane := lo, codeP := l.uaP, codeT := l.uaT, sats := n }
  | .cal =>
    match tl.sweep, m with
    | some w, some m =>
      let first := tl.frame - w.frames
      if frame < first then same { l with capLast := w.keep l.capLast m }
      else if w.point < 32 then same { l with cap := w.keep l.cap m }
      else same l
    | _, _ => same l
  | .park => same l

/-- The capture entry of one lane at a point: κ and Σ ÷ 32 N as means over the same frames, the κ rounded half away from zero as in R147
and the Σ downwards; 0xFFFF without a measured frame, whose Σ is open. (DESIGN CHOICE, log 18; DESIGN CHOICE, log 115.) -/
def State.captureLane (s : State) (t e point : Nat) (cap : List (Nat × Int)) : State :=
  let n := cap.length
  let (k, sg, s) :=
    if n = 0 then let (v, s) := s.takeFree 16; (0xFFFF, v, s)
    else
      let ks := (cap.map (fun p => (p.1 : Int))).sum
      let ss := (cap.map Prod.snd).sum
      (clampCode (roundDiv ks n), clampCode (ss / (32 * (n : Int))), s)
  s.modTile t (fun tl => { tl with capture := tl.capture.write (0, 0) (32 * e + point) (k, sg) })

/-- A record of a point's last frame that came after the point's end is in its capture all the same (R123, R174). -/
def State.lateCapture (s : State) (t e frame : Nat) : State :=
  let tl := s.tile t
  match tl.sweep with
  | some w =>
    if decide ((tl.lane e).mode = .cal) && !w.armed && decide (0 < w.point) && decide (frame < tl.frame - w.frames) && !(tl.lane e).capLast.isEmpty
    then s.captureLane t e (w.point - 1) (tl.lane e).capLast else s
  | none => s

/-- R261: lane e of the frame is verified in an open window of the tile. (DEDUCED, log 89.) -/
def State.verifyLane (s : State) (t e frame : Nat) : State :=
  match s.measLane t e with
  | none => s
  | some m =>
    let tl := s.tile t
    let l := tl.lane e
    let sample := s.marker - ticksPerFrame * (tl.frame - frame) + 100 * (2 * rowOf e + 1) + 95
    let inFb := decide (l.fbFrom ≤ frame) && (decide (l.mode = .feedback) || decide (frame < l.fbTo))
    let near (v : Verify) : Bool := decide ((((m.kappa0 : Int) - l.rT).natAbs) ≤ v.tol)
    let upd (v : Verify) : Verify :=
      if v.opened ∧ !v.unowned ∧ e ∈ v.todo ∧ v.openAt + 125 ≤ sample ∧ sample ≤ v.closeAt ∧ inFb ∧ near v
      then { v with todo := v.todo.erase e, done := v.done ++ [e] } else v
    s.setTile t { tl with vers := tl.vers.map upd }

/-- Row r of tile t is computed and its codes placed. A row whose slot 2r of the next frame has begun is discarded for that frame
(R29, R30); its lanes' state changes all the same (R151). (DEDUCED, log 84.) -/
def State.updateRow (s : State) (t r : Nat) : State :=
  let tl0 := s.tile t
  let frame := tl0.rowFrame r
  let es := (List.range 8).map (fun c => 8 * r + c)
  let late := decide (frame < tl0.frame)
  let tooLate := late && (decide (frame + 1 < tl0.frame) || decide (2 * r < tl0.begun))
  let one (s : State) (e : Nat) : State :=
    if !(tl0.cfg e).loopEn then s
    else
      let o := s.updateLane t e frame tl0
      let s := s.modTile t (fun tl =>
        let tl := tl.setLane e { o.lane.copyX with placedP := o.codeP, placedT := o.codeT }
        if tooLate then tl else tl.place e o.codeP o.codeT late)
      let s := s.count LOOP_SAT_ACC_SAT t o.sats
      let s := s.count LOOP_SAT_HANDOVER_CLAMP t (b2n o.clamped)
      let s := s.count LOOP_HEVT_GS_INVALID t (b2n o.badGs)
      let s := s.lateCapture t e frame
      let s := s.verifyLane t e frame
      (s.loopFreeze t e).divergence t e
  let s := s.forEach one es
  s.modTile t (fun tl =>
    let tl := { tl with handed := true }
    if tooLate then tl
    else if late then { tl with placedCur := r :: tl.placedCur.erase r } else { tl with placedNxt := r :: tl.placedNxt.erase r })

/-- R150, R151: a row whose records are not in, that has been computed for them, or that is not the next in their order, is not computed. -/
def execLoopRowUpdate (t r : Nat) (s : State) : Host.Outcome State Fault Refusal :=
  .next (if s.inReset || decide (96 ≤ t) || decide (16 ≤ r) || !s.engineRuns t || !(s.tile t).rowNext r then s else s.updateRow t r)

/-- R160. -/
def execLoopFreeze (t e : Nat) (s : State) : Host.Outcome State Fault Refusal :=
  .next (if s.inReset || decide (96 ≤ t) || decide (128 ≤ e) then s else s.loopFreeze t e)

/-- The next frame of lane e is the last of re-acquire: with `REACQ_FRAMES` = 0 the first, else the last measured one, whose records are in
and not yet computed (R170). -/
def State.reacqLast (s : State) (t e : Nat) : Bool :=
  let l := (s.tile t).lane e
  decide (l.mode = .feedback) && l.reacq && decide (l.fbFrom ≤ (s.tile t).rowFrame (rowOf e)) &&
    (decide (l.reacqLeft = 0) || (decide (l.reacqLeft = 1) && (s.measLane t e).isSome && decide (l.upd ≤ (s.tile t).rowFrame (rowOf e))))

/-- R170: the last measured frame of re-acquire has come. -/
def execReacqEnd (t e : Nat) (s : State) : Host.Outcome State Fault Refusal :=
  let l := (s.tile t).lane e
  .next (if s.inReset || decide (96 ≤ t) || decide (128 ≤ e) || !s.reacqLast t e then s
  else
    let k0 := match s.measLane t e with
      | some m => m.kappa0
      | none => l.kappa0
    s.modTile t (fun tl => tl.setLane e (l.reacqEnd k0 ((s.tile t).rowFrame (rowOf e)))))

/-- R173. -/
def execDivergenceEpisode (t e : Nat) (s : State) : Host.Outcome State Fault Refusal :=
  .next (if s.inReset || decide (96 ≤ t) || decide (128 ≤ e) then s else s.divergence t e)

/-- R173: the counting window of every tile whose 100,000 frames have passed closes, and the next begins. -/
def State.divWindowEnd (s : State) (t : Nat) : State :=
  if (s.tile t).window < 100000 then s
  else
    let s := s.modTile t (fun tl => { (tl.modLanes (fun _ l => { l with divWin := 0 })) with window := 0, divWin := 0, divRaised := false })
    s.setCause (srcTile t 5) false

def execDivergenceWindowEnd (s : State) : Host.Outcome State Fault Refusal :=
  .next (if s.inReset then s else s.forEach State.divWindowEnd allTiles)

/-- R172: the lane's time in `HOLD` has reached its limit: it enters `PARK`, the hold event is raised and counted. -/
def State.holdExpiry (s : State) (t e : Nat) : State :=
  let l := (s.tile t).lane e
  if l.mode = .hold ∧ l.holdMax ≤ l.holdCnt then
    let s := s.modTile t (fun tl =>
      let tl := tl.setLane e { l with mode := .park, drift := false, driftRaised := false, divHold := false }
      (tl.setTap e 0 { tl.tap e 0 with entry := none, driftRun := 0 }).setTap e 1 { tl.tap e 1 with entry := none, driftRun := 0 })
    ((s.refreshModes t).inc LOOP_HEVT_HOLD_EXPIRED t).raise (srcTile t 4) (infoTile t (some (colOf e)))
  else s

def execHoldMaxExpiry (t e : Nat) (s : State) : Host.Outcome State Fault Refusal :=
  .next (if s.inReset || decide (96 ≤ t) || decide (128 ≤ e) then s else s.holdExpiry t e)

/-! ### Sweeps (R174) -/

/-- CAL_START's test: every named element in `FEEDBACK` or `PARK`, no sweep running, a dwell of 1 to 255. -/
def State.sweepOk (s : State) (t : Nat) (w : Sweep) : Bool :=
  let tl := s.tile t
  tl.sweep.isNone && decide (1 ≤ w.dwell ∧ w.dwell ≤ 255) && !w.elems.isEmpty &&
    w.elems.all (fun e => decide (e < 128) && (decide ((tl.lane e).mode = .feedback) || decide ((tl.lane e).mode = .park)))

/-- A sweep starts at the next marker; `BUSY` rises with the command. (DESIGN CHOICE, log 116.) -/
def State.sweepStart (s : State) (t : Nat) (w : Sweep) : State :=
  (s.modTile t (fun tl => { tl with sweep := some { w with armed := true } })).setFlag LOOP_CAL_BUSY t true

/-- R174: the dwell of a point has passed: the captures are stored and the lanes move on, or the sweep ends. `POINT` stays at 31 through
the return and after it. (DESIGN CHOICE, log 116.) -/
def State.calPointEnd (s : State) (t : Nat) : State :=
  match (s.tile t).sweep with
  | none => s
  | some w =>
    if w.armed ∨ w.frames < w.dwell then s
    else if w.point < 32 then
      let s := w.elems.foldl (fun s e =>
        let l := (s.tile t).lane e
        (s.captureLane t e w.point l.cap).modTile t (fun tl => tl.setLane e { l with cap := [], capLast := l.cap })) s
      let s := s.modTile t (fun tl => { tl with sweep := some { w with point := w.point + 1, frames := 0 } })
      s.setReg LOOP_CAL_POINT t (min 31 (w.point + 1))
    else
      let back (e : Nat) (l : Lane) : Lane :=
        if l.mode = .cal ∧ e ∈ w.elems then
          l.leaveSweep (s.effReg LOOP_CTRL_REACQ_FRAMES t) (s.tile t).frame
        else l
      let s := s.modTile t (fun tl => { (tl.modLanes back) with sweep := none })
      (((s.setFlag LOOP_CAL_BUSY t false).setFlag LOOP_CAL_DONE t true).refreshModes t).reply w.src .done 0 true []

def execCalPointEnd (t : Nat) (s : State) : Host.Outcome State Fault Refusal :=
  .next (if s.inReset || decide (96 ≤ t) then s else s.calPointEnd t)

end Sys2Proof.Machine
end

