-- ==== Sys2Proof/Machine/RegIo.lean ====
section
/-! DEFINITION. What a write of a register of the set-up window does to its fields: access codes, reserved encodings, presence, and
the fields that other state locks (R13 to R15, R394, R395, R490, R511, R528, R602, R603). -/

namespace Sys2Proof.Machine

open Reg

/-- Some ring pair is enabled. -/
def State.anyRing (s : State) : Bool := s.hif.rings.any (fun p => decide (p.2.st = 1))

/-- The administrative ring's registers besides `HIF_ADM_CFG`. -/
def admRingRegs : List Nat :=
  [HIF_ADM_CMD_LO_CMD_BASE.off, HIF_ADM_CMD_HI_CMD_BASE.off, HIF_ADM_CPL_LO_CPL_BASE.off, HIF_ADM_CPL_HI_CPL_BASE.off,
   HIF_ADM_COAL_COAL_CNT.off, HIF_ADM_TENANT_TENANT.off]

/-- The registers of which every field is locked now (R394, R395). -/
def State.regLocked (s : State) (o : Nat) : Bool :=
  (s.flag HIF_ADM_CFG_EN && admRingRegs.contains o) ||
  (s.flag HIF_EVT_CFG_EN && [HIF_EVT_LO_EVT_BASE.off, HIF_EVT_HI_EVT_BASE.off, HIF_EVT_COAL_COAL_CNT.off].contains o) ||
  (s.anyRing && [HIF_DB_LO_DB_BASE.off, HIF_DB_HI_DB_BASE.off].contains o)

/-- The fields beside `EN` and `ERR` that are locked in a register that holds them; a write of the register writes them. -/
def State.fieldLocked (s : State) (f : Fd) : Bool :=
  (s.flag HIF_ADM_CFG_EN && [HIF_ADM_CFG_CMD_LOG2, HIF_ADM_CFG_CPL_LOG2, HIF_ADM_CFG_VECTOR].contains f) ||
  (s.flag HIF_EVT_CFG_EN && [HIF_EVT_CFG_LOG2, HIF_EVT_CFG_VECTOR].contains f)

/-- The access code lets a write store a value. -/
def Acc.stores : Acc → Bool
  | .rw => true
  | .rwp => true
  | .rwt => true
  | _ => false

/-- A field after a write of `new` over `cur`; `keep` when the field is locked, refused or given a reserved encoding. -/
def Acc.after (a : Acc) (cur new : Nat) (keep : Bool) : Nat :=
  match a with
  | .rw => if keep then cur else new
  | .rwp => if keep then cur else new
  | .rwt => if keep then cur else new
  | .w1c => Nat.land cur (Nat.xor cur new)
  | .w1s => Nat.lor cur new
  | _ => cur

/-- Offset o is the register of field f in some instance. -/
def isReg (f : Fd) (o : Nat) : Bool := f.covers o

/-- Limits between two fields of one register, which keep both (R92, R154), or all three of `KLN_THR` (R511). (DEDUCED, log 99.) -/
def crossOk (o v : Nat) : Bool :=
  if isReg DRV_SLEW_N_STEP o then slewValid (getBits v 0 16) (getBits v 16 3) 24
  else if isReg DRV_SLEW_B_STEP o then slewValid (getBits v 0 16) (getBits v 16 3) 12
  else if o = KLN_THR_WARN.off then
    let w := getBits v 0 8
    let t := getBits v 8 8
    let x := getBits v 16 8
    decide (w ≤ 95 ∧ t ≤ 103 ∧ x ≤ 118 ∧ w + 4 ≤ t ∧ t + 4 ≤ x)
  else if isReg LOOP_REGION_BAR_EDGE o then decide (getBits v 0 16 + 8 ≤ getBits v 16 16)
  else true

/-- The word that a write changes: the pending configuration of the SIU, or the register. -/
def State.target (s : State) (o : Nat) : Nat :=
  if o = SIU_CFG0_T_DISC.off then s.siu.cfg0 else if o = SIU_CFG1_DEGRADE_MIN.off then s.siu.cfg1 else (s.word o).toNat

def State.setTarget (s : State) (o v : Nat) : State :=
  if o = SIU_CFG0_T_DISC.off then { s with siu := { s.siu with cfg0 := v } }
  else if o = SIU_CFG1_DEGRADE_MIN.off then { s with siu := { s.siu with cfg1 := v } }
  else s.setWord o (BitVec.ofNat 32 v)

/-- `VHV_LO` after a write of word v to `KLN_VHV`, which the limit of `VHV_HI` is taken from (R528). -/
def State.vhvLo (s : State) (v : Nat) : Nat :=
  let n := getBits v KLN_VHV_VHV_LO.lo KLN_VHV_VHV_LO.wd
  if KLN_VHV_VHV_LO.legal.ok n then n else s.reg KLN_VHV_VHV_LO

/-- The write of word v gives the field an encoding that it admits; DEGRADE is reserved for sources above 607 (R539), `LOCK_THR` stays
below `JUMP_THR` (R231), and `VHV_HI` lies above `VHV_LO` (R528). -/
def State.fieldLegal (s : State) (o : Nat) (f : Fd) (v : Nat) : Bool :=
  let n := getBits v f.lo f.wd
  f.legal.ok n && (decide (f ≠ TMU_LOCK_LOCK_THR) || decide (n < s.reg TMU_JUMP_THR_JUMP_THR)) &&
  (decide (f ≠ TMU_JUMP_THR_JUMP_THR) || decide (s.reg TMU_LOCK_LOCK_THR < n)) &&
  (decide (f ≠ KLN_VHV_VHV_HI) || decide (s.vhvLo v < n)) &&
  !(decide (f.off = FLT_SEV_SEV.off) && decide (n = sevDegrade) && decide (607 < 8 * ((o - FLT_SEV_SEV.off) / 4) + f.lo / 4))

/-- RWP bits that start an action and store nothing (R13). -/
def actionBits : List Fd :=
  [SIU_CMD_CFG_COMMIT, SIU_CMD_RESET_REQ, FLT_INJ_GO, BTU_CTRL_SVN_COMMIT, BTU_CTRL_SEAL, BTU_CTRL_KEY_REVOKE, DOM_CTRL_UPDATE]

/-- Outside a presence window the write would change an RWP field or start an RWP action (R13). -/
def State.rwpRefused (s : State) (o v : Nat) : Bool :=
  !s.presence && crossOk o v && (fieldsAt o).any (fun f => decide (f.acc = .rwp) && s.fieldLegal o f v &&
    decide (getBits v f.lo f.wd ≠ getBits (s.target o) f.lo f.wd))

/-- One field of a write (R13, R15). -/
def State.writeField (s : State) (o v : Nat) (refused cross : Bool) (w : Nat) (f : Fd) : Nat :=
  let cur := getBits (s.target o) f.lo f.wd
  let new := getBits v f.lo f.wd
  let keep := !s.fieldLegal o f v || !cross || s.fieldLocked f || (decide (f.acc = .rwp) && refused) || actionBits.contains f
  setBits w f.lo f.wd (f.acc.after cur new keep)

/-- The write gives some field a reserved encoding, refused or not, or writes a locked field (R15, R394, R395). -/
def State.badFields (s : State) (o v : Nat) : Bool :=
  (fieldsAt o).any (fun f => (f.acc.stores && !s.fieldLegal o f v) || s.fieldLocked f)

/-- A write of word v to the register at offset o changes its fields as their access codes give (R13 to R15); bits that a write clears, those
of `LOOP_CAL` among them, clear at the write. (DEDUCED, log 140.) -/
def State.plainWrite (s : State) (o v : Nat) : State :=
  if s.regLocked o then s.badWrite o
  else
    let refused := s.rwpRefused o v
    let cross := crossOk o v
    let w := (fieldsAt o).foldl (s.writeField o v refused cross) (s.target o)
    let bad := s.badFields o v || !cross
    let s := s.setTarget o w
    let s := if refused then s.raise 696 o else s
    if bad then s.badWrite o else s

/-- Host software writes word v to the register at offset o; `act` is what the write starts. (DESIGN CHOICE, log 77.) -/
def State.hostWrite (s : State) (o v : Nat) (act : State → State) : State :=
  if s.windowOpen then act (s.plainWrite o v) else s

end Sys2Proof.Machine
end

