-- ==== Sys2Proof/Machine/Telemetry.lean ====
section
/-! DEFINITION. The data that host software reads by command: telemetry tables, lane records, settle records, sweep capture, list
descriptors, hit counters and ring contexts (R138, R174, R179, R182, R263, R284, R398, R413). -/

namespace Sys2Proof.Machine

open Reg

/-- Mode codes of R166. -/
def LaneMode.code : LaneMode → Nat
  | .feedback => 0
  | .burst => 1
  | .hold => 2
  | .park => 3
  | .cal => 4
  | .shadow => 5

/-- The mode of a code; the reserved codes 6 and 7 read as `SHADOW`. -/
def LaneMode.ofCode (n : Nat) : LaneMode :=
  match n with
  | 0 => .feedback
  | 1 => .burst
  | 2 => .hold
  | 3 => .park
  | 4 => .cal
  | _ => .shadow

/-- Little-endian two's complement in n bytes. -/
def leInt (n : Nat) (x : Int) : List Byte := leBytes n (unsigned (8 * n) x)

/-- The lane state record (R179). -/
def Lane.bytes (l : Lane) : List Byte :=
  leInt 3 l.x0 ++ leInt 3 l.x1 ++ leInt 3 l.x2 ++ leInt 3 l.x3 ++ leInt 3 l.z0 ++ leInt 3 l.z1 ++ leBytes 2 l.r ++ leBytes 2 l.rT ++
  leBytes 2 l.uaP ++ leBytes 2 l.uaT ++ leBytes 1 l.gset ++
  leBytes 1 (l.mode.code + 8 * b2n l.reacq + 16 * b2n l.tgtValid + 32 * b2n l.freeze) ++ leBytes 1 l.reacqLeft ++ leBytes 1 l.missRun ++
  leInt 2 l.g

/-- Signed field of three bytes. -/
def les24 (b : List Byte) (o : Nat) : Int := signed 24 (le16 b o + 65536 * u8 b (o + 2))

/-- A lane takes a record that a snapshot carries: the mode is kept aside while it stands in `SHADOW` (R175). -/
def Lane.ofRecord (l : Lane) (b : List Byte) : Lane :=
  let f := u8 b 27
  { l with x0 := les24 b 0, x1 := les24 b 3, x2 := les24 b 6, x3 := les24 b 9, z0 := les24 b 12, z1 := les24 b 15, r := le16 b 18,
           rT := le16 b 20, uaP := le16 b 22, uaT := le16 b 24, gset := u8 b 26 % 64, snapMode := LaneMode.ofCode (f % 8),
           xa0 := les24 b 0, xa1 := les24 b 3, xa2 := les24 b 6, xa3 := les24 b 9, reacq := bit f 3, tgtValid := bit f 4, freeze := bit f 5, reacqLeft := u8 b 28, missRun := u8 b 29, g := les16 b 30 }

/-- Sense telemetry (R138). -/
def SenseTel.bytes (e : SenseTel) : List Byte :=
  leInt 4 e.barSum ++ leInt 4 e.crossSum ++ leBytes 2 e.barCnt ++ leBytes 2 e.crossCnt ++ leBytes 1 e.barOvr ++ leBytes 1 e.crossOvr ++
  leBytes 1 (e.barRange % 4 + 4 * (e.crossRange % 4) + 16 * b2n e.barUnr + 32 * b2n e.crossUnr + 64 * b2n e.drift) ++ leBytes 1 e.rangeChg

/-- Loop telemetry (R182). -/
def LoopTel.bytes (e : LoopTel) : List Byte :=
  leBytes 2 e.codePri ++ leBytes 2 e.codeTrim ++ leBytes 2 e.kappa0 ++ leBytes 2 e.rRamp ++ leInt 2 e.slope ++ leBytes 1 e.gset ++
  leBytes 1 (e.mode.code + 8 * b2n e.reacq) ++ leBytes 1 e.zclamp ++ leBytes 1 e.outSat ++ leBytes 1 e.miss ++ leBytes 1 e.div

/-- A settle report record (R263). -/
def Settle.bytes (r : Settle) : List Byte :=
  leBytes 2 r.handle ++ leBytes 1 r.late.length ++ leBytes 1 r.nVerified ++
  leBytes 1 (b2n r.valid + 2 * b2n r.quenched + 4 * b2n r.cleared + 8 * b2n r.fenced + 16 * b2n r.unowned) ++ leBytes 11 0 ++
  leBytes 16 (r.late.foldl (fun m e => withBit m e true) 0)

/-- The capture of one element: 32 points of 4 bytes (R174). -/
def Tile.captureBytes (tl : Tile) (e : Nat) : List Byte :=
  (List.range 32).flatMap (fun k => let c := tl.capture.read (0, 0) (32 * e + k); leBytes 2 c.1 ++ leBytes 2 c.2)

/-- A list descriptor as read (R413): with the live base in `WAITING` and `RUNNING`; zeros in `EMPTY`. -/
def State.listBytes (s : State) (n : Nat) : List Byte :=
  match (s.calList n).desc with
  | none => leBytes 32 0
  | some d =>
    if s.listSt n = calEmpty then leBytes 32 0
    else dtBytes (if s.listLive n then dtOf (s.calList n).base else d.base) ++ leBytes 4 d.first ++ leBytes 4 d.count ++ leBytes 4 d.cycle ++
      leBytes 2 d.tag ++ leBytes 2 0

/-- A ring context with its readback fields (R398). -/
def Ring.bytes (g : Ring) : List Byte :=
  leBytes 8 g.cmdBase ++ leBytes 8 g.cplBase ++ leBytes 1 (g.cmdLog2 + 16 * g.cplLog2) ++
  leBytes 1 (b2n (decide (g.st ≠ 0)) + 2 * b2n g.recv + 4 * b2n g.poll) ++ leBytes 2 g.vector ++ leBytes 2 (g.tenant + 4096 * g.cls) ++
  leBytes 2 g.coalCnt ++ leBytes 2 g.coalUs ++ leBytes 2 g.kinds ++ leBytes 4 0 ++ leBytes 2 g.cmdCi ++ leBytes 2 g.cplPi ++
  leBytes 2 g.owed ++ leBytes 1 g.st ++ leBytes 1 g.err ++ leBytes 24 0

/-- Size and number of entries of a telemetry source, and whether it is a tile source; none for a reserved value (R413). -/
def telShape (src : Nat) : Option (Nat × Nat × Bool) :=
  match src with
  | 0x01 => some (16, 128, true)
  | 0x02 => some (16, 128, true)
  | 0x03 => some (32, 128, true)
  | 0x04 => some (32, 2, true)
  | 0x05 => some (128, 128, true)
  | 0x10 => some (32, 16, false)
  | 0x30 => some (4, 512, false)
  | 0x31 => some (4, 2048, false)
  | 0x40 => some (64, 65536, false)
  | _ => none

/-- Entry i of a source. -/
def State.telEntry (s : State) (src t i : Nat) : List Byte :=
  let tl := s.tile t
  match src with
  | 0x01 => (tl.senseTel.read {} i).bytes
  | 0x02 => (tl.loopTel.read {} i).bytes
  | 0x03 => (tl.lane i).bytes
  | 0x04 => (if i = 0 then tl.settle0 else tl.settle1).bytes
  | 0x05 => tl.captureBytes i
  | 0x10 => s.listBytes i
  | 0x30 => leBytes 4 (s.cpx.protoHits.read 0 i)
  | 0x31 => leBytes 4 (s.cpx.actHits.read 0 i)
  | _ => (s.ring i).bytes

/-- TELEMETRY_READ (R410, R413). (DEDUCED, log 98.) -/
def State.telemetryRead (s : State) (c : HostCmd) (src : Src) : State :=
  let t := u8 c.desc 21
  match telShape (u8 c.desc 20) with
  | none => s.withForm c src true false id
  | some (size, n, tile) =>
    let field := (if tile then decide (95 < t) else decide (t ≠ 0)) || decide (c.count = 0) || decide (n < c.first + c.count) ||
      decide (u8 c.desc 20 = 0x40 ∧ c.first = 0) || !zeros c.desc 22 2 || !zeros c.desc 32 32
    s.withForm c src field (decide (c.len < c.count * size) || bufBad c.addr) (fun s =>
      if !s.mayServe then s.refuse src .notActive 0
      else
        let data := (List.range c.count).flatMap (fun i => s.telEntry (u8 c.desc 20) t (c.first + i))
        let epoch := if u8 c.desc 20 ≤ 2 then (s.tile t).epochs else 0
        (s.postData (if c.orphan then noRing else c.ring) c.addr data).reply src .done 0 true (leBytes 4 data.length ++ leBytes 4 (epoch % 2 ^ 32)))

/-- R413. -/
def execTelemetryRead (c : HostCmd) (s : State) : Host.Outcome State Fault Refusal :=
  .next (s.hostRow c 0x0B (fun c s => s.telemetryRead c c.src))

end Sys2Proof.Machine
end

