-- ==== Sys2Proof/Machine/HostIf.lean ====
section
/-! DEFINITION. The host interface: resets of the host island, Bus Master Enable, enables of rings, kicks, doorbell lines, fetches,
interrupts, and the host commands of calibration, sessions and faults (chapter 11, R174, R176, R181, R374, R377, R548). -/

namespace Sys2Proof.Machine

open Reg

/-! ### Resets of the host island (R389, R618) -/

/-- The register at each offset of a range takes its reset value. -/
def State.resetRange (s : State) (lo hi : Nat) : State :=
  { s with regs := s.regs.filter (fun p => decide (p.1 < lo ∨ hi ≤ p.1)), eff := s.eff.filter (fun p => decide (p.1 < lo ∨ hi ≤ p.1)) }

/-- A ring as a reset of the host island leaves it. -/
def Ring.off (g : Ring) : Ring :=
  { g with st := 0, err := 0, owed := 0, fetching := 0, stale := 0, cmds := [], orphans := g.orphans ++ g.waiting, bufs := [], unsig := 0 }

/-- The host island is reset; nothing else is (R389). What was held to be written is dropped and counted. (PRESUMED, log 75.) -/
def State.hostReset (s : State) : State :=
  let held := (s.hif.due.filter Due.counts).length
  let s := (s.resetRange 0x260000 0x280000).orphanCmds (fun _ => true)
  let h := s.hif
  let rings : Tab Ring := h.rings.map (fun (p : Nat × Ring) => (p.1, p.2.off))
  let s := { s with hif := { h with
    rings := rings, lines := [], kicks := [], turn := 0, turnLeft := 0, evtPi := 0, evtCi := 0, evtUnsig := 0,
    due := [], unmasked := [], msix := [], pba := [], evtBad := false, pollAt := s.tick, msixOn := false, fnMask := false, mps := 0, mrrs := 2,
    aerMask := Config.aerUncorrMasked, bar0 := 0, bar2 := 0
    closing := h.closing.map (fun (c : Src × List (Nat × Nat)) => (c.1, [])) } }
  ((s.count HIF_CNT1_ORPHANS 0 held).setCause 698 false).closeRings

/-- R389, R536: a function level reset raises source 701. -/
def State.flr (s : State) : State := s.hostReset.raise 701

/-- R389. -/
def execFunctionLevelReset (s : State) : Host.Outcome State Fault Refusal := .next (if s.inReset then s else s.flr)
/-- R389. -/
def execHotReset (s : State) : Host.Outcome State Fault Refusal := .next (if s.inReset then s else s.hostReset)
/-- R618: the filtered `PCIE_PERST_N` is low, with the effects of R389. -/
def execPciePerst (s : State) : Host.Outcome State Fault Refusal := .next (if s.inReset then s else s.hostReset)

/-- R389, R536: the PCIe link is lost. -/
def execPcieLinkLoss (s : State) : Host.Outcome State Fault Refusal :=
  .next (if s.inReset then s
  else
    let s := s.hostReset
    ({ s with hif := { s.hif with link := false } }).raiseCond 700)

/-- R536: the PCIe link is up again. -/
def execPcieLinkUp (s : State) : Host.Outcome State Fault Refusal :=
  .next ({ s with hif := { s.hif with link := true } }.setCause 700 false)

/-! ### Doorbell lines (R401 to R404) -/

def State.line (s : State) (g : Nat) : LineRd := s.hif.lines.read .idle g
def State.setLine (s : State) (g : Nat) (l : LineRd) : State :=
  { s with hif := { s.hif with lines := s.hif.lines.write .idle g l } }

/-- The address of doorbell line g (R401). -/
def State.lineAddr (s : State) (g : Nat) : Nat := s.reg HIF_DB_LO_DB_BASE + 2 ^ 32 * s.reg HIF_DB_HI_DB_BASE + 256 * g

/-- Issue the read of line g now, or leave it scheduled (R388, R390, R393). -/
def State.issueLine (s : State) (g : Nat) : State :=
  if s.mayRequest then (s.setLine g (.issued false)).send (.lineRead g (s.lineAddr g))
  else
    let s := s.setLine g .pending
    { s with hif := { s.hif with kicks := s.hif.kicks ++ [g] } }

/-- A request to read line g (R402, R403). -/
def State.kickLine (s : State) (g : Nat) : State :=
  match s.line g with
  | .idle => s.issueLine g
  | .pending => s.inc HIF_CNT3_KICK_MERGED
  | .issued false => s.setLine g (.issued true)
  | .issued true => s.inc HIF_CNT3_KICK_MERGED

/-- Issue the scheduled reads in order of arrival (R390). -/
def State.issueLines (s : State) : State :=
  s.hif.kicks.foldl (fun s g => if s.line g = .pending then s.issueLine g else s) { s with hif := { s.hif with kicks := [] } }

/-- A request has returned: scheduled reads that wait for it go out (R388). -/
def State.returned (s : State) : State := if s.hif.kicks.isEmpty then s else s.issueLines

/-- Host memory may be reached again: lines, completions, events and interrupts go out (R390, R393). -/
def State.hostOpen (s : State) : State := s.flushDue.issueLines

/-- R402: `KICK` with `GROUP_VALID`. -/
def execKickGroup (g : Nat) (s : State) : Host.Outcome State Fault Refusal :=
  .next (if s.windowOpen ∧ g < 1024 then (s.inc HIF_CNT3_KICKS).kickLine g else s)

/-- The marker of R419, once the event ring has room again. -/
def State.evtMarker (s : State) : State :=
  if s.hostOut && s.evtRoom && decide (s.hif.evtLost ≠ 0)
  then ({ s with hif := { s.hif with evtLost := 0 } }).putEvt (overflowEntry s.hif.evtLost) else s

/-- R418: `KICK` with `EVT_VALID`. (DEDUCED, log 147.) -/
def execKickEvtCi (k : EvtKick) (s : State) : Host.Outcome State Fault Refusal :=
  .next (if s.windowOpen then ({ s with hif := { s.hif with evtCi := k.ci % 65536, evtBad := k.fails } }).evtMarker else s)

/-- R392. -/
def execBadKick (s : State) : Host.Outcome State Fault Refusal := .next (if s.windowOpen then s.raise 697 else s)

/-- The indices of one ring, as its doorbell entry gives them (R400, R402). -/
def State.takeEntry (s : State) (p pi ci : Nat) : State :=
  let g := s.ring p
  if g.st ≠ 1 then s
  else if 2 ^ g.cmdLog2 < (pi + 65536 - g.cmdCi) % 65536 then s.ringError p 1
  else if 2 ^ g.cplLog2 < (g.cplPi + 65536 - ci) % 65536 then s.ringError p 2
  else s.setRing p { g with cmdPi := pi, cplCi := ci }

/-- R401, R402: the read of line g returns its 64 entries, each a word with `CMD_PI` below `CPL_CI`, or fails. -/
def execDoorbellLineDone (g : Nat) (entries : List Nat) (ok : Bool) (s : State) : Host.Outcome State Fault Refusal :=
  .next (match s.line g with
    | .issued again =>
      let s := if ok then (entries.zipIdx).foldl (fun s (e, i) => if i < 64 then s.takeEntry (64 * g + i) (e % 65536) (e / 65536 % 65536) else s) s
        else s.dmaError
      let s := (s.setLine g .idle).returned
      if again then s.issueLine g else s
    | _ => s)

/-- R404: at the end of a period every line with an enabled ring that has `POLL` = 1 is read, as on a kick. -/
def execDoorbellPoll (s : State) : Host.Outcome State Fault Refusal :=
  .next (if s.reg HIF_POLL_POLL_US = 0 then s
  else
    let due := s.hif.pollAt + usTicks (s.reg HIF_POLL_POLL_US)
    let s := s.advance (due - s.tick)
    let s := { s with hif := { s.hif with pollAt := due } }
    let ls := ((s.hif.rings.filter (fun p => decide (p.2.st = 1) && p.2.poll)).map (fun p => p.1 / 64)).eraseDups
    s.forEach (fun s g => s.kickLine g) ls)

/-! ### Fetching (R405 to R407, R417) -/

/-- The ring is eligible and has room for its completions. -/
def Ring.mayFetch (g : Ring) : Bool :=
  decide (g.st = 1) && decide ((g.cmdPi + 65536 - g.cmdCi) % 65536 ≠ 0) &&
    decide (g.owed + 2 ≤ 2 ^ g.cplLog2 - (g.cplPi + 65536 - g.cplCi) % 65536)

/-- The ring served next: ring pair 0, the ring whose turn goes on, and then the next in round robin. -/
def State.nextRing (s : State) : Option Nat :=
  let es := (s.hif.rings.filter (fun p => p.2.mayFetch)).map Prod.fst
  if es.contains 0 then some 0
  else if s.hif.turnLeft ≠ 0 ∧ es.contains s.hif.turn then some s.hif.turn
  else match es.find? (fun r => decide (s.hif.turn < r)) with
    | some r => some r
    | none => es.head?

/-- R405: one descriptor is fetched. -/
def execDescriptorFetch (s : State) : Host.Outcome State Fault Refusal :=
  .next (if !s.mayRequest then s
  else match s.nextRing with
    | none => s
    | some r =>
      let g := s.ring r
      let s := s.setRing r { g with cmdCi := (g.cmdCi + 1) % 65536, owed := g.owed + 2, fetching := g.fetching + 1 }
      let h := s.hif
      let left := if r = 0 then h.turnLeft else if r = h.turn ∧ h.turnLeft ≠ 0 then h.turnLeft - 1 else s.reg HIF_CTRL_FETCH_BURST - 1
      let s := { s with hif := { h with turn := if r = 0 then h.turn else r, turnLeft := left } }
      (s.inc HIF_CNT0_CMDS).send (.descRead r (g.cmdCi % 2 ^ g.cmdLog2) (g.cmdBase + 64 * (g.cmdCi % 2 ^ g.cmdLog2))))

/-- A posted receive buffer (R417). -/
def State.postBuffer (s : State) (r : Nat) (d : List Byte) (takes : Bool) : State :=
  let addr := le64 d 8
  let len := le32 d 16
  if d.length = 64 ∧ zeros d 2 6 ∧ zeros d 20 44 ∧ addr % 4 = 0 ∧ 2048 ≤ len
  then (s.modRing r (fun g => { g with bufs := g.bufs ++ [{ id := le16 d 0, addr := addr, len := len, takes := takes }] })).copyRoom r else s.ringError r 5

/-- Kind checks of R406; the detail of the first that fails. -/
def State.kindDetail (s : State) (c : HostCmd) : Option Nat :=
  if c.kind = 0 ∨ 0x0F < c.kind then some 1
  else if c.ring ≠ 0 ∧ !bit (s.ring c.ring).kinds c.kind then some 2
  else if !c.headerOk then some 3 else none

/-- A command arrives and its form checks begin (R406, R408); one that its kind or its header refuses never starts. -/
def State.takeCommand (s : State) (c : HostCmd) : State :=
  let refused := s.kindDetail c
  let s := s.modRing c.ring (fun g => { g with
    cmds := g.cmds ++ [{ cmdId := c.cmdId, order := c.order, irq := c.irq, desc := c.desc, cplOk := c.cplOk, started := refused.isSome }] })
  match refused with
  | some d => (s.headErr c).refuseCmd c c.src .badObject d
  | none => s

/-- R406: a fetched descriptor returns; `ok` is false when the fetch failed in host memory (R400). -/
def execDescriptorReturned (c : HostCmd) (ok : Bool) (s : State) : Host.Outcome State Fault Refusal :=
  .next (
    let g := s.ring c.ring
    if g.stale ≠ 0 then ((s.setRing c.ring { g with stale := g.stale - 1 }).staleBack c.ring).returned.closeRings
    else if g.fetching = 0 then s
    else
      let s := (s.setRing c.ring { g with fetching := g.fetching - 1 }).returned
      if !ok then s.dmaError.ringError c.ring 3
      else if g.recv then s.postBuffer c.ring c.desc c.cplOk
      else s.takeCommand c)

/-! ### Enables (R390, R393 to R395, R397) -/

/-- The endpoint carries configuration requests out: it answers them with Retry Status until `BOOT` ends (R569). -/
def State.configOpen (s : State) : Bool := s.windowOpen && s.hif.link

/-- Bus Master Enable takes a value (R390). -/
def State.setBme (s : State) (on : Bool) : State :=
  let s := s.setFlag HIF_STATUS_BME 0 on
  if on then s.hostOpen else s

/-- R390: host software writes Bus Master Enable. -/
def execBusMasterEnable (on : Bool) (s : State) : Host.Outcome State Fault Refusal := .next (if s.configOpen then s.setBme on else s)

/-- What follows a write of `HIF_CTRL`. -/
def State.hifCtrl (s : State) : State := if s.flag HIF_CTRL_EN then s.hostOpen else s

/-- R393: a write of `HIF_CTRL`. -/
def execHostInterfaceEnable (v : Nat) (s : State) : Host.Outcome State Fault Refusal :=
  .next (s.hostWrite HIF_CTRL_EN.off v State.hifCtrl)

/-- Ring pair 0 as its registers give it (R394). -/
def State.admRing (s : State) : Ring :=
  { cmdBase := s.reg HIF_ADM_CMD_LO_CMD_BASE + 2 ^ 32 * s.reg HIF_ADM_CMD_HI_CMD_BASE
    cplBase := s.reg HIF_ADM_CPL_LO_CPL_BASE + 2 ^ 32 * s.reg HIF_ADM_CPL_HI_CPL_BASE
    cmdLog2 := s.reg HIF_ADM_CFG_CMD_LOG2, cplLog2 := s.reg HIF_ADM_CFG_CPL_LOG2, vector := s.reg HIF_ADM_CFG_VECTOR
    tenant := s.reg HIF_ADM_TENANT_TENANT, cls := s.reg HIF_ADM_TENANT_CLASS, coalCnt := s.reg HIF_ADM_COAL_COAL_CNT
    coalUs := s.reg HIF_ADM_COAL_COAL_US, kinds := 0xFFFE }

/-- What follows a write of `HIF_ADM_CFG`: `before` is `EN` before it (R397, R400). -/
def State.admCfg (before : Bool) (s : State) : State :=
  let now := s.flag HIF_ADM_CFG_EN
  if before = now then s
  else if now then
    if s.flag HIF_ADM_CFG_ERR then (s.setRing 0 { s.admRing with st := 2, err := (s.ring 0).err, stale := (s.ring 0).stale }).ringCause
    else s.enableRing 0 s.admRing
  else
    let err := (s.ring 0).err
    ((s.disableRing 0).modRing 0 (fun g => { g with owed := 0, err := err })).ringCause

/-- R397: a write of `HIF_ADM_CFG`. -/
def execAdminRingEnable (v : Nat) (s : State) : Host.Outcome State Fault Refusal :=
  .next (s.hostWrite HIF_ADM_CFG_EN.off v (State.admCfg (s.flag HIF_ADM_CFG_EN)))

/-- What follows a write of `HIF_EVT_CFG`: enabling the event ring sets its indices to 0. (DEDUCED, log 95.) -/
def State.evtCfg (before : Bool) (s : State) : State :=
  if s.flag HIF_EVT_CFG_EN && !before then ({ s with hif := { s.hif with evtPi := 0, evtCi := 0, evtUnsig := 0 } }).evtMarker else s

/-- R395: a write of `HIF_EVT_CFG`. -/
def execEventRingEnable (v : Nat) (s : State) : Host.Outcome State Fault Refusal :=
  .next (s.hostWrite HIF_EVT_CFG_EN.off v (State.evtCfg (s.flag HIF_EVT_CFG_EN)))

/-! ### Interrupts (R420) -/

/-- R420: `COAL_US` after the first entry not signalled, a ring, or the event ring, signals. -/
def execCoalesceTimer (ring : Option Nat) (s : State) : Host.Outcome State Fault Refusal :=
  .next (match ring with
    | some r =>
      let g := s.ring r
      if g.unsig = 0 ∨ g.coalUs = 0 then s
      else
        let s := s.advance (g.sigFrom + usTicks g.coalUs - s.tick)
        (s.modRing r (fun g => { g with unsig := 0 })).signal g.vector
    | none =>
      let us := s.reg HIF_EVT_COAL_COAL_US
      if s.hif.evtUnsig = 0 ∨ us = 0 then s
      else
        let s := s.advance (s.hif.evtSigFrom + usTicks us - s.tick)
        ({ s with hif := { s.hif with evtUnsig := 0 } }).signal (s.reg HIF_EVT_CFG_VECTOR))

/-- Send what is pending and may be sent now. (DESIGN CHOICE, log 83.) -/
def State.sendPending (s : State) : State :=
  let p := s.hif.pba.reverse
  p.foldl State.signal { s with hif := { s.hif with pba := [] } }

/-- The MSI-X enable and the function mask take values; `MSIX_EN` shows them (R396). -/
def State.setMsix (s : State) (on mask : Bool) : State :=
  let s := ({ s with hif := { s.hif with msixOn := on, fnMask := mask } }).setFlag HIF_STATUS_MSIX_EN 0 (on && !mask)
  if on && !mask then s.sendPending else s

/-- R420: host software unmasks a vector, or the function. -/
def execMsixVectorUnmask (v : Option Nat) (s : State) : Host.Outcome State Fault Refusal :=
  .next (if !s.configOpen then s
  else match v with
    | some v =>
      if v < 2048 then
        ({ s with hif := { s.hif with unmasked := if v ∈ s.hif.unmasked then s.hif.unmasked else v :: s.hif.unmasked } }).sendPending
      else s
    | none => s.setMsix true false)

/-! ### Configuration space (R388) -/

/-- A read of the word at offset o of configuration space: the standard header and, behind one another, the capabilities of MSI-X (0x50),
PCI Express (0x70) and AER (0x100). (PRESUMED, log 146.) -/
def State.configRead (s : State) (o : Nat) : Nat :=
  let h := s.hif
  if o = 0x00 then Config.vendorId + 2 ^ 16 * Config.deviceId
  else if o = 0x04 then 4 * b2n (s.flag HIF_STATUS_BME) + 2 ^ 20
  else if o = 0x08 then 2 ^ 8 * Config.classCode
  else if o = 0x10 then 4 + h.bar0 % 2 ^ 32
  else if o = 0x14 then h.bar0 / 2 ^ 32
  else if o = 0x18 then 4 + h.bar2 % 2 ^ 32
  else if o = 0x1C then h.bar2 / 2 ^ 32
  else if o = 0x34 then 0x50
  else if o = 0x50 then 0x11 + 2 ^ 8 * 0x70 + 2 ^ 16 * (Config.msixVectors - 1) + 2 ^ 30 * b2n h.fnMask + 2 ^ 31 * b2n h.msixOn
  else if o = 0x54 then 0x4000 + 2
  else if o = 0x58 then 0xC000 + 2
  else if o = 0x70 then 0x10 + 2 ^ 17
  else if o = 0x74 then 2 + 2 ^ 15 + 2 ^ 28
  else if o = 0x78 then 2 ^ 5 * h.mps + 2 ^ 12 * h.mrrs
  else if o = 0x100 then 1 + 2 ^ 17
  else if o = 0x108 then h.aerMask
  else 0

/-- A write of word v at offset o of configuration space. A size code beyond the limits of R388 is ignored. (PRESUMED, log 146.) -/
def State.configWrite (s : State) (o v : Nat) : State :=
  let h := s.hif
  if o = 0x04 then s.setBme (bit v 2)
  else if o = 0x10 then { s with hif := { h with bar0 := h.bar0 / 2 ^ 32 * 2 ^ 32 + v / 2 ^ 24 * 2 ^ 24 } }
  else if o = 0x14 then { s with hif := { h with bar0 := v * 2 ^ 32 + h.bar0 % 2 ^ 32 } }
  else if o = 0x18 then { s with hif := { h with bar2 := h.bar2 / 2 ^ 32 * 2 ^ 32 + v / 2 ^ 16 * 2 ^ 16 } }
  else if o = 0x1C then { s with hif := { h with bar2 := v * 2 ^ 32 + h.bar2 % 2 ^ 32 } }
  else if o = 0x50 then s.setMsix (bit v 31) (bit v 30)
  else if o = 0x78 then
    if bit v 15 then s.flr
    else
      let p := getBits v 5 3
      let r := getBits v 12 3
      { s with hif := { h with mps := if p ≤ 2 then p else h.mps, mrrs := if r ≤ 5 then r else h.mrrs } }
  else if o = 0x108 then { s with hif := { h with aerMask := v } }
  else s

/-! ### Calibration commands (R174, R176, R181) -/

/-- CAL_LOAD for `src` (R181, R410). -/
def State.calLoad (s : State) (c : HostCmd) (src : Src) : State :=
  let t := u8 c.desc 20
  let first := u8 c.desc 21
  let n := le16 c.desc 22
  let field := decide (95 < t) || decide (127 < first) || decide (n = 0) || decide (128 < first + n) || !zeros c.desc 24 40
  s.withForm c src field (decide (c.len ≠ 128 * n) || bufBad c.addr) (fun s =>
    match allSome ((chunks 128 n c.data).map Curve.parse) with
    | none => s.refuse src .badObject 0
    | some l => s.accepted c src (fun s => s.modTile t (Tile.putCurves ((l.zipIdx).map (fun p => (first + p.2, p.1))))))

def execCalLoad (c : HostCmd) (s : State) : Host.Outcome State Fault Refusal := .next (s.hostRow c 0x05 (fun c s => s.calLoad c c.src))

/-- CAL_SWAP for `src` (R176, R410). -/
def State.calSwapCmd (s : State) (c : HostCmd) (src : Src) : State :=
  let mask := le64 c.desc 8 + 2 ^ 64 * le32 c.desc 16
  s.withForm c src (decide (mask = 0) || !zeros c.desc 20 44) false (fun s =>
    if !s.mayAct src then s.refuse src .notActive 0 else (s.forwardHost 0xFFFF c).commitTiles src 4 mask)

def execCalSwap (c : HostCmd) (s : State) : Host.Outcome State Fault Refusal := .next (s.hostRow c 0x07 (fun c s => s.calSwapCmd c c.src))

/-- CAL_START (R174, R410). -/
def State.calStartCmd (s : State) (c : HostCmd) (src : Src) : State :=
  let t := u8 c.desc 8
  let mask := le128 c.desc 16
  let field := decide (95 < t) || decide (1 < u8 c.desc 9) || decide (u8 c.desc 14 = 0) || decide (mask = 0) || !zeros c.desc 15 1 ||
    !zeros c.desc 32 32
  s.withForm c src field false (fun s =>
    let w : Sweep := { src := src, elems := bitsOf 128 mask, node := u8 c.desc 9, start := le16 c.desc 10, step := les16 c.desc 12,
                       dwell := u8 c.desc 14 }
    match firstRefusal [(!s.sweepOk t w, .badObject), (!s.mayServe, .notActive)] with
    | some st => s.refuse src st 0
    | none => (s.sweepStart t w).reply src .queued 0 false [])

def execCalStart (c : HostCmd) (s : State) : Host.Outcome State Fault Refusal := .next (s.hostRow c 0x06 (fun c s => s.calStartCmd c c.src))

/-! ### SESSION_OP (R374, R377, R410) -/

/-- The records whose quarantine has ended become invalid (R373). -/
def State.endQuarantine (s : State) : State :=
  let gone := (s.cpx.sessions.filter (fun p => p.2.quar && decide (p.2.ageAt ≤ s.tick))).map Prod.fst
  s.forEach (fun s i => s.setSess i {}) gone

/-- `CPX_SESS.PEAK` follows the sessions open. -/
def State.sessPeak (s : State) : State :=
  s.setReg CPX_SESS_PEAK 0 (max (s.reg CPX_SESS_PEAK) (s.cpx.sessions.filter (fun p => p.2.isOpen)).length)

def HostCmd.sess (c : HostCmd) : Nat := le16 c.desc 10

/-- A SESSION_OP: form, the condition that makes it BAD_OBJECT, role, and its effect. -/
def State.sessionOp (s : State) (c : HostCmd) (src : Src) (field : Bool) (bad : State → Bool) (f : State → State) : State :=
  s.withForm c src (field || decide (16383 < c.sess)) false (fun s =>
    let s := s.endQuarantine
    match firstRefusal [(bad s, .badObject), (!s.mayAct src, .notActive)] with
    | some st => s.refuse src st 0
    | none => f (s.forwardHost 0xFFFF c))

/-- Open (R374): a host record at a free index. Bytes 40 to 45 give `SRC_MAC` in the order in which a frame carries it. (DEDUCED, log 141.) -/
def State.sessOpen (s : State) (c : HostCmd) (src : Src) : State :=
  let net := u8 c.desc 34
  let idle := le16 c.desc 14
  let field := decide (7 < u8 c.desc 9) || decide (4095 < le16 c.desc 12) || decide (idle = 0 ∨ s.reg CPX_GCRP_SESS_IDLE_MAX < idle) ||
    decide (15 < net) || decide (2 < net / 4) || !zeros c.desc 35 1 || !zeros c.desc 46 18
  s.sessionOp c src field (fun s => (s.sess c.sess).valid) (fun s =>
    let x : Sess := { srcAddr := (c.desc.drop 16).take 16 |>.foldl (fun a b => 256 * a + b.toNat) 0, srcPort := le16 c.desc 32,
                      tenant := le16 c.desc 12, cls := u8 c.desc 9, valid := true, port := b2n (bit net 1), ipv6 := bit net 0, host := true,
                      ntags := net / 4, tags := le16 c.desc 36 * 65536 + le16 c.desc 38, srcMac := be32 c.desc 40 * 65536 + be16 c.desc 44, idle := idle, ageAt := s.tick }
    (((s.setSess c.sess x).inc GCRP_CNT3_OPENS).sessPeak).reply src .done 0 true (leBytes 2 c.sess))

/-- Close (R373, R374). -/
def State.sessClose (s : State) (c : HostCmd) (src : Src) : State :=
  s.sessionOp c src (!zeros c.desc 9 1 || !zeros c.desc 12 52) (fun s => !(s.sess c.sess).isOpen) (fun s =>
    ((s.closeNotice c.sess 2).endSession c.sess).reply src .done 0 true [])

/-- Set class (R374). -/
def State.sessClass (s : State) (c : HostCmd) (src : Src) : State :=
  s.sessionOp c src (decide (7 < u8 c.desc 9) || !zeros c.desc 12 52) (fun s => !(s.sess c.sess).isOpen) (fun s =>
    (s.setSess c.sess { (s.sess c.sess) with cls := u8 c.desc 9 }).reply src .done 0 true [])

def allStatuses : List Status :=
  [.done, .queued, .lateReject, .lateAligned, .lateNow, .conflict, .notArmed, .aborted, .settleLate, .throttled, .policed, .badObject,
   .badVersion, .malformed, .parseDeep, .safetyHold, .notActive, .fenced, .presenceNeeded, .signatureFail, .writeWindow, .internal]

/-- The status of a code. -/
def statusOf (n : Nat) : Option Status := allStatuses.find? (fun s => decide (s.code = n))

/-- Answer a CIRCUIT with its final response 0x83 (R377). -/
def State.sessAnswer (s : State) (c : HostCmd) (src : Src) : State :=
  let st := statusOf (u8 c.desc 52)
  let field := st.isNone || decide (st = some .queued) || decide (6 < u8 c.desc 53) || !zeros c.desc 9 1 || !zeros c.desc 12 36 || !zeros c.desc 54 10
  s.sessionOp c src field (fun s => !(s.sess c.sess).isOpen) (fun s =>
    (s.respond c.sess (le32 c.desc 48) 3 (st.getD .done) (u8 c.desc 53) 0xFFFF []).reply src .done 0 true [])

/-- SESSION_OP for `src`, whatever its operation. -/
def State.sessionCmd (s : State) (c : HostCmd) (src : Src) : State :=
  match u8 c.desc 8 with
  | 1 => s.sessOpen c src
  | 2 => s.sessClose c src
  | 3 => s.sessClass c src
  | 4 => s.sessAnswer c src
  | _ => s.withForm c src true false id

/-- A SESSION_OP row: its operation is `op`; a reserved operation is refused by the form check. -/
def State.sessRow (s : State) (c : HostCmd) (op : Nat) (f : HostCmd → State → State) : State :=
  s.hostRow c 0x0A (fun c s => if u8 c.desc 8 = op then f c s else s.sessionCmd c c.src)

def execSessionOpOpen (c : HostCmd) (s : State) : Host.Outcome State Fault Refusal := .next (s.sessRow c 1 (fun c s => s.sessOpen c c.src))
def execSessionOpClose (c : HostCmd) (s : State) : Host.Outcome State Fault Refusal := .next (s.sessRow c 2 (fun c s => s.sessClose c c.src))
def execSessionOpSetClass (c : HostCmd) (s : State) : Host.Outcome State Fault Refusal := .next (s.sessRow c 3 (fun c s => s.sessClass c c.src))
def execSessionOpAnswer (c : HostCmd) (s : State) : Host.Outcome State Fault Refusal := .next (s.sessRow c 4 (fun c s => s.sessAnswer c c.src))

/-! ### FAULT_CLEAR (R410, R414, R548) -/

/-- Sources that are held. -/
def State.heldList (s : State) : List Nat := (List.range 32).flatMap (fun i => (bitsOf 32 (s.reg FLT_HELD_HELD i)).map (fun b => 32 * i + b))

/-- Clear one source; a held source whose cause persists stays held and counts (R548). -/
def State.clearSource (s : State) (n : Nat) : State :=
  if !s.held n then s else if s.cause n then s.inc FLT_CNT_CLEAR_REFUSED else s.setHeld n false

/-- Clear the first-fault record when its source is not held. -/
def State.clearFirst (s : State) : State :=
  if s.flag FLT_STATUS_FF_VALID && !s.held (s.reg FLT_FF_SRC_SOURCE) then s.setFlag FLT_STATUS_FF_VALID 0 false else s

/-- FAULT_CLEAR; it is served in `RECOVERY` too (R575). -/
def State.faultClear (s : State) (c : HostCmd) (src : Src) : State :=
  let w := le16 c.desc 8
  let all := bit w 15
  let ff := bit (u8 c.desc 10) 0
  let field := decide (getBits w 10 5 ≠ 0) || decide (1 < u8 c.desc 10) || !zeros c.desc 11 53
  s.withForm c src field false (fun s =>
    let n := w % 1024
    let s := if all then s.forEach State.clearSource s.heldList else s.clearSource n
    let s := if ff then s.clearFirst else s
    if all then s.reply src .done 0 true (leBytes 2 s.heldList.length)
    else if s.held n || (ff && s.flag FLT_STATUS_FF_VALID) then s.refuse src .badObject 7
    else s.reply src .done 0 true [])

def execFaultClear (c : HostCmd) (s : State) : Host.Outcome State Fault Refusal := .next (s.hostRow c 0x0F (fun c s => s.faultClear c c.src))

end Sys2Proof.Machine
end

