-- ==== Sys2Proof/Machine/Housekeep.lean ====
section
/-! DEFINITION. The housekeeping converters: conversions, rounds, injections and calibration (R505, R506, R522, R523, R525, R531,
R532). -/

namespace Sys2Proof.Machine

open Reg

def State.conv (s : State) (c : Nat) : Conv := s.kln.convs.read {} c
def State.setConv (s : State) (c : Nat) (v : Conv) : State := { s with kln := { s.kln with convs := s.kln.convs.write {} c v } }

/-- Integration period in µs of a period code; 3 is the custom period (R522, R531). -/
def periodUs (code custom : Nat) : Nat := if code = 0 then 20000 else if code = 1 then 16667 else if code = 2 then 1000 else custom

/-- A conversion starts: it integrates for its period and then spends 25 µs in reset (R505). -/
def Conv.begin (v : Conv) (now : Nat) (w : Work) : Conv :=
  let us := match w with
    | .inject _ _ p => p
    | _ => v.period
  { v with work := w, due := now + usTicks (us + 25) }

/-- The channels enabled on converter c, of its 16, rising. -/
def State.enabledChans (s : State) (c : Nat) : List Nat :=
  if c < 2 then List.range 16 else bitsOf 16 (s.reg (if c = 2 then HK_SCAN_MASK2 else HK_SCAN_MASK3))

/-- A round starts with the period and mask as they are now (R506). -/
def State.newRound (s : State) (c : Nat) (v : Conv) : Conv :=
  { v with
    round := s.enabledChans c, injTaken := false, calTaken := false
    period := if c < 2 then 1000
      else periodUs (s.reg (if c = 2 then HK_CTRL_PERIOD2 else HK_CTRL_PERIOD3)) (10 * s.reg HK_CTRL_CUSTOM) }

/-- The next channel of the round in v; with none left the converter stands idle. -/
def Conv.nextChan (v : Conv) (now c : Nat) : Conv :=
  match v.round with
  | ch :: r => ({ v with round := r }).begin now (.channel (16 * c + ch))
  | [] => { v with work := .idle }

/-- The converter's next work in the order of R523. Converters 0 and 1 take one injection and one calibration in a round, and wait for
each other at its end. -/
def State.nextWork (s : State) (c : Nat) (v : Conv) : Conv :=
  match v.queue with
  | w :: r =>
    if c < 2 && v.injTaken then
      (if v.calPend && decide (v.calAfter = 0) && !v.calTaken then
        ({ v with calPend := false, calTaken := true }).begin s.tick (.cal 3) else v.nextChan s.tick c)
    else ({ v with queue := r, injTaken := true }).begin s.tick w
  | [] =>
    if v.calPend && decide (v.calAfter = 0) && !(decide (c < 2) && v.calTaken) then
      ({ v with calPend := false, calTaken := true }).begin s.tick (.cal 3)
    else if v.round.isEmpty && decide (2 ≤ c) then (s.newRound c v).nextChan s.tick c
    else v.nextChan s.tick c

/-- `HK_STATUS` shows the converters, and `CAL_REQ` clears once no calibration is pending (R531). -/
def State.showConvs (s : State) : State :=
  let busy := [0, 1, 2, 3].foldl (fun m c => withBit m c (match (s.conv c).work with
    | .cal _ => true
    | _ => false)) 0
  let inj := [0, 1, 2, 3].foldl (fun n c => n + (s.conv c).queue.length * 8 ^ c) 0
  let pend := [0, 1, 2, 3].foldl (fun m c => withBit m c (s.conv c).calPend) 0
  let s := ((s.setReg HK_STATUS_CAL_BUSY 0 busy).setReg HK_STATUS_INJ_PEND 0 inj).setReg HK_STATUS_CAL_PEND 0 pend
  if pend = 0 then s.setFlag HK_CTRL_CAL_REQ 0 false else s

/-- An idle converter takes what work there is. -/
def State.wake (s : State) (c : Nat) : State :=
  let v := s.conv c
  if v.work = .idle then (s.setConv c (s.nextWork c v)).showConvs else s

/-- The converters start their first rounds when the resets have ended. (DESIGN CHOICE, log 57.) -/
def State.startConvs (s : State) : State :=
  (s.forEach (fun s c => s.setConv c ((s.newRound c {}).nextChan s.tick c)) [0, 1, 2, 3]).showConvs

/-! ### Injections (R410, R522) -/

/-- HK_INJECT for `src`. (DESIGN CHOICE, log 57.) -/
def State.hkInject (s : State) (c : HostCmd) (src : Src) : State :=
  let ch := u8 c.desc 8
  let p := u8 c.desc 9
  let custom := le32 c.desc 12
  let k := ch / 16
  let field := decide (63 < ch) || decide (3 < p) || !zeros c.desc 10 2 || !zeros c.desc 16 48 || (decide (ch < 32) && decide (p ≠ 2)) ||
    (if p = 3 then decide (custom < 100 ∨ 100000 < custom) else decide (custom ≠ 0)) || decide (4 ≤ (s.conv k).queue.length)
  s.withForm c src field false (fun s =>
    if !s.mayServe then s.refuse src .notActive 0
    else
      let v := s.conv k
      ((s.setConv k { v with queue := v.queue ++ [.inject src ch (periodUs p custom)] }).wake k).showConvs)

def execHkInject (c : HostCmd) (s : State) : Host.Outcome State Fault Refusal := .next (s.hostRow c 0x0E (fun c s => s.hkInject c c.src))

/-! ### Calibration (R523) -/

/-- Note a request to calibrate converter c. (DESIGN CHOICE, log 57.) -/
def State.requestCal (s : State) (c : Nat) : State :=
  let v := s.conv c
  let injecting := match v.work with
    | .inject _ _ _ => 1
    | _ => 0
  let ahead := v.queue.length + injecting
  let s := if v.calPend then s else s.setConv c { v with calPend := true, calAfter := ahead }
  if ahead = 0 ∨ v.calPend then s else s.inc HK_CNT_CAL_DEFER

/-- Request a calibration of every converter; each that is idle takes it at once. -/
def State.requestCals (s : State) : State := ((s.forEach State.requestCal [0, 1, 2, 3]).forEach State.wake [0, 1, 2, 3]).showConvs

/-- What a write of word v to `HK_CTRL` starts. -/
def State.hkCtrl (v : Nat) (s : State) : State := if bit v 4 then s.requestCals else s

/-- Host software writes v to `HK_CTRL`. -/
def execHkCalRequest (v : Nat) (s : State) : Host.Outcome State Fault Refusal :=
  .next (s.hostWrite HK_CTRL_CAL_REQ.off v (State.hkCtrl v))

/-- Every 60 s with `CAL_AUTO` set. -/
def execHkCalAuto (s : State) : Host.Outcome State Fault Refusal :=
  .next (if !s.inReset && s.flag HK_CTRL_CAL_AUTO then s.requestCals else s)

/-- A write to `HK_SCAN` can give an idle converter a channel. -/
def State.hkScan (s : State) : State := (s.wake 2).wake 3

/-! ### Conversions (R505, R506, R525) -/

/-- Thermistor n of 0 to 7 is fitted (R508). -/
def State.ntcFitted (s : State) (n : Nat) : Bool :=
  match s.fab.desc with
  | none => false
  | some d => bit d.ntcMask n

/-- Full scale of channel ch in 10⁻⁹ of its unit, V or A; for a sensor's channel the voltage at the converter (R505). -/
def fullScale (ch : Nat) : Nat :=
  if ch = 36 then 50000000000
  else if ch = 40 then 5000000000
  else if ch = 41 then 40000000000
  else if ch = 42 ∨ (48 ≤ ch ∧ ch < 56) then 80000000000
  else if ch = 43 then 1000000000
  else if ch = 59 then 250000
  else 2500000000

/-- R505: the code of a quantity q, in 10⁻⁹ of the channel's unit. The channel's divider brings its full scale to 2.5 V at the converter.
(DESIGN CHOICE, log 54.) -/
def codeOf (ch q : Nat) : Nat := min (q * 2 ^ 20 / fullScale ch) 1048575

/-- R505: a channel's value from its code, in 10⁻⁹ of the unit. -/
def valueOf (ch code : Nat) : Nat := code * fullScale ch / 2 ^ 20

/-- The result of channel ch; that of a thermistor that is not fitted is discarded (R508). -/
def State.hkResult (s : State) (ch code : Nat) : State :=
  let ntc := decide (24 ≤ ch) && decide (ch < 32)
  let fit := s.ntcFitted (ch - 24)
  let s := if ntc then { s with kln := { s.kln with ntcRead := withBit s.kln.ntcRead (ch - 24) fit } } else s
  if ntc && !fit then s
  else ((s.setReg HK_RES_LO_CODE ch code).setFlag HK_RES_LO_VALID ch true).setReg HK_RES_HI_END_NS ch s.now.ns

/-- A conversion of converter c ends; q is the quantity on its channel. -/
def State.convDone (s : State) (c q : Nat) : State :=
  let v := s.conv c
  let s := s.advance (v.due - s.tick)
  match v.work with
  | .idle => s
  | .channel ch => (s.hkResult ch (codeOf ch q)).setConv c (s.nextWork c v)
  | .inject src ch _ =>
    let s := (s.inc HK_CNT_INJECTED).reply src .done 0 true (leBytes 4 (codeOf ch q + ch * 2 ^ 20))
    s.setConv c (s.nextWork c { v with calAfter := v.calAfter - 1 })
  | .cal n => if n ≤ 1 then s.setConv c (s.nextWork c v) else s.setConv c (v.begin s.tick (.cal (n - 1)))

/-- R505: a conversion ends. -/
def execHkConversionDone (c q : Nat) (s : State) : Host.Outcome State Fault Refusal :=
  .next (if s.inReset || decide (4 ≤ c) then s else (s.convDone c q).showConvs)

/-- Converters 0 and 1 have both finished their round (R506). -/
def State.roundOver (s : State) : Bool :=
  [0, 1].all (fun c => decide ((s.conv c).work = .idle) && (s.conv c).round.isEmpty)

/-- Converters 0 and 1 start their next round together (R506). -/
def State.nextRounds (s : State) : State :=
  (s.forEach (fun s c => s.setConv c (s.nextWork c (s.newRound c (s.conv c)))) [0, 1]).showConvs

end Sys2Proof.Machine
end

