-- ==== Sys2Proof/Machine/Startup.lean ====
section
/-! DEFINITION. Resets and their reach, the start-up states, image verification, the cask restore and the role decision
(chapter 16, R101, R192, R425, R464). -/

namespace Sys2Proof.Machine

open Reg

/-! ### Resets (R560 to R564) -/

/-- Registers that RESET_N leaves alone: the safety island's, held statuses, the first-fault record and the memory test's result
(R545, R561, R628). -/
def keptByReset (o : Nat) : Bool :=
  (decide (0x290000 ≤ o) && decide (o < 0x2A0000)) || (decide (FLT_STATUS_FF_VALID.off ≤ o) && decide (o ≤ FLT_FF_SEC_HI_SEC_HI.off)) ||
  (decide (FLT_HELD_HELD.off ≤ o) && decide (o < FLT_CAUSE_CAUSE.off)) || decide (o = GLB_MBIST_RESULT.off)

/-- Conditions whose causes lie outside the part that RESET_N resets: they are raised again once the logger runs (R545). (DEDUCED, log 33.) -/
def outerCauses : List Nat := [771, 772, 773, 774, 775, 776, 777, 779, 780, 781, 782, 792, 804]

/-- Fields that stand whatever reset comes: straps, pins and fuses (R73, R561, R572, R626). -/
def pinFields : List Fd :=
  [KFI_STATUS_PORT_STRAP, KFI_STATUS_OWNX, GLB_TEST_TEST_EN, GLB_TEST_TEST_LOCK, BTU_FUSE_SVN_FLOOR, BTU_FUSE_KEY_REVOKED]

/-- Copy fields (instance 0) of state s into state t. -/
def State.copyFields (t s : State) (fs : List Fd) : State := fs.foldl (fun t f => t.setReg f 0 (s.reg f)) t

/-- What stands through every reset: pins, what the fabric shows, the flash, the park store and the TAP (R561). (DESIGN CHOICE, log 10.) -/
def State.cold (s : State) : State :=
  { ({} : State) with
    pending := s.pending, free := s.free, dt := s.dt, tick := s.tick, out := s.out, tap := s.tap
    pins := { s.pins with txOff := false }
    fab := { ownxRaw := s.fab.ownxRaw, clrN := s.fab.clrN, parkDef := s.fab.parkDef, parkStore := s.fab.parkStore, parkLoaded := s.fab.parkLoaded, parkDoms := s.fab.parkDoms, vhv := s.fab.vhv }
    hif := {}
    btu := { fwA := s.btu.fwA, fwB := s.btu.fwB, ucA := s.btu.ucA, ucB := s.btu.ucB, cask0 := s.btu.cask0, cask1 := s.btu.cask1 } }

/-- `DRV_STATUS.CLR` and source 792 follow the input through a reset (R97, R116, R555). -/
def State.showClr (s : State) : State :=
  if s.fab.clrN then s else (s.forEach (fun s t => s.setFlag DRV_STATUS_CLR t true) allTiles).setCause 792 true

/-- PORST_N resets both dies and the safety island, and clears the fault history and the shutdown latch. (DESIGN CHOICE, log 10.) -/
def State.coldReset (s : State) : State := (s.cold.copyFields s pinFields).showClr

/-- RESET_N keeps the safety island, the fault history, the held statuses, the first-fault record and the shutdown latch. (DESIGN CHOICE, log 10.) -/
def State.warmReset (s : State) : State :=
  let t := { s.cold with
    regs := s.regs.filter (fun p => keptByReset p.1)
    siu := s.siu
    flt := { hist := s.flt.hist, kept := s.flt.kept }
    kln := { shutAt := s.kln.shutAt, released := s.kln.released } }
  let t := (t.copyFields s pinFields).copyFields s [KLN_STATUS_SHUTDOWN, BTU_RESET_WARM_CNT]
  (t.forEach (fun t n => if s.cause n then t.setCause n true else t) outerCauses).showClr

/-- R101: tile writes stop at the first strobe-free tick, so that no pulse is cut. -/
def State.strobesEnd (s : State) : State := s.advanceTo (allTiles.foldl (fun n t => max n ((s.tile t).strobeFree s.dt)) s.dt)

/-- An accepted assertion lasts at least 10 µs inside the device (R560). -/
abbrev resetTicks : Nat := usTicks 10

/-- R560: the filtered fall of PORST_N. -/
def execPorstAssert (s : State) : Host.Outcome State Fault Refusal :=
  .next (if s.pins.porstN then
    let s' := s.strobesEnd
    let t := { s'.coldReset with pins := { s'.pins with porstN := false, txOff := false } }
    { t with btu := { t.btu with porTo := s.tick + resetTicks, resTo := s.btu.resTo } }
  else s)

/-- RESET_N takes effect: the logic is reset and the time from which it is held is noted (R561, R562, R588). (DESIGN CHOICE, log 30.) -/
def State.resetN (s : State) : State :=
  let s' := s.strobesEnd
  let t := { s'.warmReset with pins := { s'.pins with resetN := false, txOff := false } }
  let t := { t with btu := { t.btu with heldFrom := s.tick, resTo := s.tick + resetTicks } }
  ((t.setFlag BTU_RESET_PORST 0 false).setFlag BTU_RESET_WARM 0 true).inc BTU_RESET_WARM_CNT

/-- R561: the filtered fall of RESET_N; under PORST_N it changes nothing more. -/
def execResetNAssert (s : State) : Host.Outcome State Fault Refusal :=
  .next (if !s.pins.resetN then s
  else if s.pins.porstN then s.resetN
  else { s with pins := { s.pins with resetN := false }, btu := { s.btu with resTo := s.tick + resetTicks } })

/-- The assertion lasts until tick n (R560): the park sequence that falls in it, the last of which ends 4.6 µs after the edge, has been
carried out (R101). -/
def State.holdReset (s : State) (n : Nat) : State :=
  if n ≤ s.tick then s
  else
    let s := s.forEach (fun s d => if s.fab.parkPh.getD d .off = .off then s.parkSample d else s) allDoms
    let s := s.forEach State.parkStart allDoms
    (s.forEach State.parkEnd allDoms).advance (n - s.tick)

/-- VHV at the ball, in mV, lies outside `VHV_LO` to `VHV_HI` (R521). -/
def State.vhvOutside (s : State) (mv : Nat) : Bool := decide (mv < 1000 * s.reg KLN_VHV_VHV_LO) || decide (1000 * s.reg KLN_VHV_VHV_HI < mv)

/-- Both resets are released: the park sequencer ends its sequences (R101), and the conditions that still hold and were not kept by the
safety island are raised again (R545, R562); the kept raises follow one a cycle. A domain whose burst has not begun is released without one. (DEDUCED, log 33; DEDUCED, log 138.) -/
def State.leaveReset (s : State) : State :=
  let s := s.forEach (fun s d => match s.fab.parkPh.getD d .off with
    | .owned => (s.parkOwn d false).setParkPh d .off
    | .waiting => s.setParkPh d .off
    | _ => s) allDoms
  let s := s.forEach (fun s n => if s.cause n && !(s.flt.kept.any (fun r => decide (r.src = n))) then s.raise n else s) outerCauses
  let s := if s.vhvOutside s.fab.vhv then (s.setFlag KLN_STATUS_VHV_OUT 0 true).raiseCond 805 else s
  let s := if s.flag SIU_STICKY_RST_HELD then s.raiseCond 791 else s
  (s.setReg TXN_STATUS_SAFETY_HOLD 0 (s.reg SIU_STATUS_SAFETY_HOLD)).startConvs

/-- A release sets DT to 0, on which the first frame marker falls (R192). A park burst still running goes on (R101), and instants of the
DT that has ended go with it. (DEDUCED, log 127.) -/
def State.zeroTime (s : State) : State :=
  ({ s with dt := 0, marker := 0, started := false, fab := { s.fab with ownxRose := [] } }).forEach
    (fun s' t => s'.modTile t (fun tl => tl.rebase s.dt)) allTiles

/-- R192: the release of PORST_N. `TEST_EN` (R626) and the strap `KFI_PORT` (R50, R82) are sampled. (DESIGN CHOICE, log 9; DESIGN CHOICE, log 104.) -/
def execPorstRelease (s : State) : Host.Outcome State Fault Refusal :=
  .next (if s.pins.porstN then s
  else
    let s := s.holdReset s.btu.porTo
    let left := s.btu.resTo - s.tick
    let s := { s.zeroTime with tick := 0, pins := { s.pins with porstN := true }, tap := { s.tap with drive := none } }
    let s := (s.setFlag GLB_TEST_TEST_EN 0 s.pins.testEn).setFlag KFI_STATUS_PORT_STRAP 0 s.pins.kfiPort
    if s.pins.resetN then s.leaveReset else { s with btu := { s.btu with heldFrom := 0, resTo := left } })

/-- A memory test that still runs when RESET_N rises leaves a result that the spec does not give (R627). (DESIGN CHOICE, log 16.) -/
def State.stopMbist (s : State) : State :=
  if s.reg GLB_MBIST_RESULT < 2 ^ 31 then s
  else
    let (x, s) := s.takeFree 13
    s.setReg GLB_MBIST_RESULT 0 x

/-- R192, R566: the release of RESET_N. -/
def execResetNRelease (s : State) : Host.Outcome State Fault Refusal :=
  .next (if s.pins.resetN then s
  else
    let s := (s.holdReset s.btu.resTo).stopMbist
    let s := { s.zeroTime with pins := { s.pins with resetN := true } }
    if s.pins.porstN then s.leaveReset else s)

/-- Conditions whose causes are latches of the safety island (R464, R536). -/
def siuCauses : List Nat := [771, 772, 773, 774, 775, 776, 777, 779, 780, 781, 782, 791]

/-- R464: VDD_SAFE has risen through its threshold; the safety island is reset and its outputs are off. Its latches clear, and with them the
causes that they hold and the safety hold. (DEDUCED, log 126.) -/
def execSafetyIslandReset (s : State) : Host.Outcome State Fault Refusal :=
  let s : State := { (s.resetRange 0x290000 0x2A0000) with siu := {} }
  .next ((s.forEach (fun s n => s.setCause n false) siuCauses).setFlag TXN_STATUS_SAFETY_HOLD 0 false)

/-- R464: both output switches lose their drive. (DEDUCED, log 33.) -/
def execSafetySupplyLoss (s : State) : Host.Outcome State Fault Refusal :=
  .next ((s.setFlag SIU_OUTPUTS_SO_A_ON 0 false).setFlag SIU_OUTPUTS_SO_B_ON 0 false)

/-- R562: RESET_N has been low for more than 10 s. -/
def execRstHeldTimeout (s : State) : Host.Outcome State Fault Refusal :=
  .next (if s.pins.porstN && !s.pins.resetN
    then (s.advance (s.btu.heldFrom + 10 * ticksPerSec + 1 - s.tick)).setFlag SIU_STICKY_RST_HELD 0 true else s)

/-- R563: an internal block reset has not completed within 1 ms. -/
def execInternalBlockResetTimeout (s : State) : Host.Outcome State Fault Refusal :=
  .next (if s.inReset then s else s.raiseCond 929)

/-! ### Images (R571, R572) -/

def imgKind (b : List Byte) : Nat := u8 b 6
def imgKey (b : List Byte) : Nat := u8 b 7
def imgVer (b : List Byte) : Nat := le32 b 8
def imgSvn (b : List Byte) : Nat := u8 b 0xC
def imgLen (b : List Byte) : Nat := le32 b 0x10
def imgBody (b : List Byte) : List Byte := b.drop 0x200
def imgPub (b : List Byte) : List Byte := (b.drop 0x40).take 97

/-- Largest body of a kind. (DESIGN CHOICE, log 32.) -/
def imgMax (kind : Nat) : Nat := if kind = 1 then 1572864 else 12288

/-- The format is right, `FMT_VER`, key, version floor and signature apart: magic, kind, reserved fields, lengths and body CRC. (DESIGN CHOICE, log 32.) -/
def imgForm (kind : Nat) (b : List Byte) : Bool :=
  decide (le32 b 0 = 0x474D494B) && decide (imgKind b = kind) && decide (imgKey b < 4) && decide (imgSvn b < 64) &&
  zeros b 0x0D 3 && zeros b 0x18 40 && zeros b 0xA1 31 && zeros b 0x120 224 &&
  decide (1 ≤ imgLen b) && decide (imgLen b ≤ imgMax kind) && decide (b.length = 512 + imgLen b) && decide (le32 b 0x14 = crc32 (imgBody b))

/-- Key, floor and signature. -/
def State.imgAuth (s : State) (b : List Byte) : Bool :=
  decide (Config.sha384 (imgPub b) = Config.keyHash (imgKey b)) && !bit (s.reg BTU_FUSE_KEY_REVOKED) (imgKey b) &&
  decide (s.reg BTU_FUSE_SVN_FLOOR ≤ imgSvn b) &&
  Config.ecdsaP384 (imgPub b) (Config.sha384 (b.take 0xC0 ++ imgBody b)) ((b.drop 0xC0).take 96)

/-- The image verifies (R572). -/
def State.imgOk (s : State) (kind : Nat) (b : List Byte) : Bool := imgForm kind b && decide (le16 b 4 = 1) && s.imgAuth b

/-- Slots 0 (A) and 1 (B) of two images in order of falling `IMG_VER`, A first on a tie. -/
def slotOrder (a b : List Byte) : List (Nat × List Byte) :=
  if imgVer b ≤ imgVer a then [(0, a), (1, b)] else [(1, b), (0, a)]

/-- The first image of a kind that verifies. -/
def State.pickImage (s : State) (kind : Nat) (l : List (Nat × List Byte)) : Option (Nat × List Byte) := l.find? (fun p => s.imgOk kind p.2)

/-! ### `POR`, `BOOT` and the rows of `CONFIG` (R565 to R568, R573, R574, R578) -/

/-- A device with `TEST_EN` high and the test-lock fuse intact never leaves `POR` (R626). -/
def State.factory (s : State) : Bool := s.flag GLB_TEST_TEST_EN && !s.flag GLB_TEST_TEST_LOCK

/-- R566, R569: the `POR` work is complete, and the PCIe link trains. (PRESUMED, log 146.) -/
def execPorDone (s : State) : Host.Outcome State Fault Refusal :=
  .next (if s.inReset || decide (s.startup ≠ 0) || s.factory then s
  else ({ s with hif := { s.hif with link := true } }).setReg BTU_STATE_STATE 0 1)

/-- Slots that the boot ROM tries before the one it starts; each raises source 869. -/
def State.bootFails (s : State) (l : List (Nat × List Byte)) : Nat := (l.takeWhile (fun p => !s.imgOk 1 p.2)).length

/-- The firmware in slot k starts: `REMAP` is set and `CONFIG` begins with row 1. -/
def State.startFirmware (s : State) (k : Nat) (b : List Byte) : State :=
  let s := (s.setReg BTU_STATE_STATE 0 3).setReg BTU_STATE_FW_SLOT 0 k
  let s := s.setRemap.setReg BTU_FW_VER_IMG_VER 0 (imgVer b)
  let s := (s.setReg BTU_FUSE_SVN_RUN 0 (imgSvn b)).setReg BTU_FUSE_KEY_RUN 0 (imgKey b)
  { s with btu := { s.btu with row := 1 } }

/-- R573: image selection ends. -/
def execBootDone (s : State) : Host.Outcome State Fault Refusal :=
  .next (if s.inReset || decide (s.startup ≠ 1) then s
  else
    let l := slotOrder s.btu.fwA s.btu.fwB
    let fails := s.bootFails l
    let s' := match s.pickImage 1 l with
      | some (k, b) => s.startFirmware k b
      | none => s.setReg BTU_STATE_STATE 0 2
    s'.forEach (fun s _ => s.raise 869) (List.range fails))

/-- CRC-32 over the two configuration registers (R491). -/
def siuCrc (a b : Nat) : Nat := crc32 (leBytes 4 a ++ leBytes 4 b)

/-- `CFG_PEND` follows the pending values (R491, R500). -/
def State.cfgPend (s : State) : State :=
  s.setFlag SIU_STATUS_CFG_PEND 0 (decide (s.siu.cfg0 ≠ (s.word SIU_CFG0_T_DISC.off).toNat ∨ s.siu.cfg1 ≠ (s.word SIU_CFG1_DEGRADE_MIN.off).toNat))

/-! ### The cask (R576 to R578) -/

/-- Byte i of the trims in force, counted from 0x0040 of the image. (DESIGN CHOICE, log 150.) -/
def State.liveTrim (s : State) (i : Nat) : Byte :=
  match if i < 49152 then s.btu.senseCal.read none (i / 512) else none with
  | some n => Config.calTrim n (i % 512)
  | none => if s.btu.trims.isEmpty then Config.romTrim i else s.btu.trims.getD i 0

/-- Bytes 0x0000 to 0x003B of the image. -/
def Cask.header (c : Cask) : List Byte :=
  leBytes 4 c.magic ++ leBytes 2 c.fmtVer ++ leBytes 2 c.rsv0 ++ leBytes 4 c.gen ++ leBytes 4 c.bodyLen ++ leBytes 8 c.dieId ++ c.rsv1

/-- Bytes 0x0040 to 0xDFFB. -/
def Cask.body (c : Cask) : List Byte :=
  c.trims ++ c.base.flatMap (fun x => leBytes 2 (unsigned 16 x)) ++ leBytes 4 c.cfg0 ++ leBytes 4 c.cfg1 ++ leBytes 4 c.crc ++
    leBytes 4 c.thr ++ leBytes 4 c.throttle ++ leBytes 4 c.ctrl ++ leBytes 4 c.twn ++ c.rsv2

/-- The image. -/
def Cask.bytes (c : Cask) : List Byte := c.header ++ leBytes 4 c.hdrCrc ++ c.body ++ leBytes 4 c.bodyCrc

/-- The image with the CRCs of its header and body. -/
def Cask.signed (c : Cask) : Cask := { c with hdrCrc := crc32 c.header, bodyCrc := crc32 c.body }

/-- Magic, `FMT_VER` and both CRCs are correct (R578). -/
def Cask.valid (c : Cask) : Bool :=
  decide (c.magic = 0x4B53434B) && decide (c.fmtVer = 1) && decide (c.hdrCrc = crc32 c.header) && decide (c.bodyCrc = crc32 c.body)

/-- The SIU's configuration as the cask holds it, taken in `S_INIT` and `S_STOP` only, and only with the CRC that was sealed with it
(R492). -/
def State.caskSiu (s : State) (c : Cask) : State :=
  if (s.reg SIU_STATUS_STATE = 0 ∨ s.reg SIU_STATUS_STATE = 1) ∧ siuCrc c.cfg0 c.cfg1 = c.crc then
    let s := (s.setWord SIU_CFG0_T_DISC.off (BitVec.ofNat 32 c.cfg0)).setWord SIU_CFG1_DEGRADE_MIN.off (BitVec.ofNat 32 c.cfg1)
    let s := s.setReg SIU_CFG_CRC_CFG_CRC 0 (siuCrc c.cfg0 c.cfg1)
    ({ s with siu := { s.siu with cfg0 := c.cfg0, cfg1 := c.cfg1, crcSet := true } }).cfgPend
  else s

/-- The kiln's and the twin's registers as the cask holds them (R576). -/
def State.caskRegs (s : State) (c : Cask) : State :=
  let s := s.setWord KLN_THR_WARN.off (BitVec.ofNat 32 c.thr)
  let s := (s.setReg KLN_THROTTLE_K_SLOPE 0 (getBits c.throttle 0 8)).setReg KLN_THROTTLE_FLOOR 0 (getBits c.throttle 8 7)
  (s.setWord KLN_CTRL_CASK_WIN_EN.off (BitVec.ofNat 32 c.ctrl)).setWord TWN_CTRL_PAIRED.off (BitVec.ofNat 32 c.twn)

/-- The sealed values take effect (R492, R578). -/
def State.applyCask (s : State) (k : Nat) (c : Cask) : State :=
  let base : Tab Int := (c.base.zipIdx).foldl (fun (t : Tab Int) (p : Int × Nat) => t.write 0 p.2 p.1) []
  let s := { s with btu := { s.btu with trims := c.trims, senseCal := [] }, kln := { s.kln with base := base } }
  let s := (s.caskSiu c).caskRegs c
  ((s.setFlag BTU_STATE_CASK_VALID 0 true).setReg BTU_STATE_CASK_COPY 0 k).setReg BTU_CASK_GEN 0 c.gen

/-- The copies that are valid and that this device sealed (R578). -/
def State.caskCopies (s : State) : List (Nat × Cask) :=
  [(0, s.btu.cask0), (1, s.btu.cask1)].filterMap (fun p => match p.2 with
    | some c => if c.valid && decide (c.dieId = Config.dieId.toNat) then some (p.1, c) else none
    | none => none)

/-- The valid copy of highest `GEN`. -/
def State.newestCask (s : State) : Option (Nat × Cask) :=
  match s.caskCopies with
  | [] => none
  | [c] => some c
  | c :: d :: _ => if c.2.gen < d.2.gen then some d else some c

/-- Row 1 ends: the cask is restored, and row 2 begins (R578, R567). -/
def State.rowOne (s : State) : State :=
  let s := match s.newestCask with
    | some (k, c) => s.applyCask k c
    | none => (s.setFlag BTU_STATE_CASK_VALID 0 false).raise 869
  let s := ((s.setFlag KFI_STATUS_READING 0 true).setFlag TMU_TREE_CAL_BUSY 0 true).setFlag TMU_STATUS_PLL_LOCK 0 true
  { s with fab := { s.fab with rd := some {} }, btu := { s.btu with row := 2 } }

/-- Every tile of every domain runs this microcode. -/
def State.loadAll (s : State) (ver : Nat) (body : List Byte) : State :=
  s.forEach (fun s d => (s.setDomSt d { (s.domSt d) with live := some (ver, body) }).setReg DOM_UC_VER_IMG_VER d ver) allDoms

/-- Assert `OWN_Dd` for every domain that can be owned. -/
def State.ownAll (s : State) : State := s.forEach (fun s d => if s.canOwn d then s.assertOwn d else s) allDoms

/-- The conditions of R568, with every step of R567 complete. -/
def State.runReady (s : State) : Bool :=
  decide (s.startup = 3) && decide (s.btu.row = 4) && s.flag KFI_STATUS_DESC_VALID && !s.flag KLN_STATUS_SHUTDOWN &&
  allDoms.any s.canOwn && allTiles.all (fun t => !s.populated t || (s.domSt (domOf t)).live.isSome)

/-- Enter `RUN` when every condition holds: a domain that cannot be owned is `UNAVAILABLE` (R579), `SOLO` asserts its domains (R424). -/
def State.tryRun (s : State) : State :=
  if !s.runReady then s
  else
    let s := s.setReg BTU_STATE_STATE 0 4
    let s := s.forEach (fun s d => if s.canOwn d then s else s.setReg DOM_STATUS_STATE d 4) allDoms
    if s.role = roleSolo then s.ownAll.admFresh else s

/-- The role decision ends (R425). -/
def State.takeRole (s : State) (r : Nat) : State :=
  let s := (s.setReg TWN_STATUS_ROLE 0 r).setFlag TWN_SYNC_NEED_SYNC 0 (decide (r = roleStandby))
  ({ s with twn := { s.twn with deciding := none }, btu := { s.btu with row := 4 } }).tryRun

/-- The role decision begins: `PAIRED` and `TL_FEC` are sampled, and TL numbering starts (R425, R429, R433, R456). (DESIGN CHOICE, log 29.) -/
def State.beginDecision (s : State) : State :=
  let p := s.flag TWN_CTRL_PAIRED
  let s := { s with twn := { s.twn with paired := p, fec := s.flag TWN_CTRL_TL_FEC, txSeq := 0, cmdNum := 0, upAt := s.tick, heardDeciding := false } }
  if !p then s.takeRole roleSolo
  else if s.reg KFI_STATUS_OWNX ≠ 0 then s.takeRole roleStandby
  else { s with twn := { s.twn with deciding := some s.tick } }

/-- Row 2 has ended: descriptor read, sense calibration of every tile, and tree calibration. (DESIGN CHOICE, log 31.) -/
def State.rowTwoOver (s : State) : Bool :=
  s.fab.rd.isNone && s.flag TMU_TREE_DONE && allTiles.all (fun t => s.flag SNS_STATUS_CAL_DONE t)

/-- Row 2 ends with the microcode load of R574; row 3 begins. (DESIGN CHOICE, log 31.) -/
def State.rowTwo (s : State) : State :=
  let s := match s.pickImage 2 (slotOrder s.btu.ucA s.btu.ucB) with
    | some (k, b) => (s.loadAll (imgVer b) (imgBody b)).setReg BTU_STATE_UC_SLOT 0 k
    | none => s
  ({ s with btu := { s.btu with row := 3 } }).beginDecision

/-- R567: a row of `CONFIG` steps ends. (DESIGN CHOICE, log 31.) -/
def execConfigRowDone (s : State) : Host.Outcome State Fault Refusal :=
  .next (if s.inReset || decide (s.startup ≠ 3) then s
  else if s.btu.row = 1 then s.rowOne
  else if s.btu.row = 2 then (if s.rowTwoOver then s.rowTwo else s)
  else s.tryRun)

/-- R425: the join wait of 100 ms ends. (DESIGN CHOICE, log 29.) -/
def execJoinWaitEnd (s : State) : Host.Outcome State Fault Refusal :=
  .next (match s.twn.deciding with
    | none => s
    | some t =>
      let s := s.advance (t + tenthTicks - s.tick)
      s.takeRole (if s.twn.heardDeciding && s.flag KFI_STATUS_PORT_STRAP then roleStandby else roleSolo))

end Sys2Proof.Machine
end

