-- ==== Sys2Proof/Machine/Load.lean ====
section
/-! DEFINITION. OBJECT_LOAD: plans, edits, gain sets, the compensation table and images (R237 to R244, R276, R410, R519, R571 to
R575). -/

namespace Sys2Proof.Machine

open Reg

def HostCmd.otype (c : HostCmd) : Nat := u8 c.desc 20
def HostCmd.number (c : HostCmd) : Nat := le16 c.desc 22

/-- Domains that a list of global elements touches, as a mask. -/
def domMask (es : List Nat) : Nat := es.foldl (fun m g => withBit m (domOf (tileOf g)) true) 0

/-- Element g lies in a row that the accepted descriptor marks populated; false without a descriptor. -/
def State.elemPop (s : State) (g : Nat) : Bool := s.populated (tileOf g) && s.rowPop (tileOf g) (rowOf (elemOf g))

/-- The first reason of a list of (condition, reason) that holds; 0 when none does. -/
def firstReason : List (Bool × Nat) → Nat
  | [] => 0
  | (true, r) :: _ => r
  | (false, _) :: l => firstReason l

/-! ### Plans (R237, R238) -/

/-- Elements a plan object names with their setpoints, rising. -/
def planElems (b : List Byte) : List (Nat × Nat) :=
  let set := b.drop 0x40
  let named := (b.drop 0x6040).take 1536
  (named.zipIdx).flatMap (fun (m, k) => (bitsOf 8 m.toNat).map (fun j => (8 * k + j, le16 set (2 * (8 * k + j)))))

def Plan.ofBytes (b : List Byte) : Plan := { tag := le32 b 8, mask := u8 b 0xC, elems := planElems b }

/-- The reason of R276 for which a plan object is BAD_OBJECT, or 0. (DESIGN CHOICE, log 32.) -/
def State.planReason (s : State) (num : Nat) (b : List Byte) : Nat :=
  let p := Plan.ofBytes b
  firstReason [
    (decide (le32 b 0 ≠ 0x4E4C504B) || decide (le32 b 0xBFFC ≠ crc32 (b.take 0xBFFC)) || !zeros b 0xD 51 || !zeros b 0x6640 22972, 1),
    (decide (le16 b 6 ≠ num), 2),
    (s.fab.desc.isNone || decide (p.mask = 0) || p.elems.any (fun q => !bit p.mask (domOf (tileOf q.1)) || !s.elemPop q.1), 3)]

/-! ### Edits (R241 to R244) -/

def editElems (b : List Byte) : List (Nat × Nat) :=
  (List.range (le16 b 0xC)).map (fun k => (le32 b (0x20 + 4 * k) % 2 ^ 14, le16 b (0x20 + 4 * k + 2)))

def Edit.ofBytes (b : List Byte) : Edit := { tag := le32 b 8, mask := u8 b 0xE, elems := editElems b }

/-- Blocks of an edit of n entries. -/
def editBlocks (n : Nat) : Nat := (36 + 4 * n + 63) / 64

/-- Blocks that are taken: by the edits, and by the edits being stored. -/
def State.blocksUsed (s : State) : Nat :=
  (s.txn.edits.map (fun p => match p.2 with
    | some e => editBlocks e.elems.length
    | none => 0)).sum +
  (s.txn.loads.map (fun l => match l.kind with
    | .edit _ => if l.waiting then 0 else editBlocks (le16 l.cmd.data 0xC)
    | _ => 0)).sum

/-- Strictly rising. -/
def rising : List Nat → Bool
  | a :: b :: l => decide (a < b) && rising (b :: l)
  | _ => true

def State.editReason (s : State) (num : Nat) (b : List Byte) : Nat :=
  let n := le16 b 0xC
  let e := Edit.ofBytes b
  let gs := e.elems.map Prod.fst
  let resv := (List.range n).any (fun k => decide (2 ^ 14 ≤ le16 b (0x20 + 4 * k)))
  firstReason [
    (decide (le32 b 0 ≠ 0x5444454B) || decide (n = 0 ∨ 12288 < n) || decide (b.length ≠ 36 + 4 * n) ||
      decide (le32 b (0x20 + 4 * n) ≠ crc32 (b.take (0x20 + 4 * n))) || !zeros b 0xF 17 || resv, 1),
    (decide (le16 b 6 ≠ num), 2),
    (s.fab.desc.isNone || !rising gs || gs.any (fun g => decide (12287 < g) || !s.elemPop g) || decide (e.mask ≠ domMask gs), 3),
    (decide (32768 < s.blocksUsed + editBlocks n), 4)]

/-! ### The compensation table (R519) -/

def Comp.parse (b : List Byte) : Option Comp :=
  let row (j : Nat) : List Int := les16s b (0x10 + 64 * j) 32
  let rows := (List.range 16).map row
  if decide (le32 b 0 = 0x4343544B) && decide (le16 b 6 < 64) && zeros b 8 8 && decide (le32 b 0x410 = crc32 (b.take 0x410)) &&
      rows.all (fun r => r.all (fun x => decide (-2048 ≤ x) && decide (x ≤ 2047))) && (rows.drop 6).all (fun r => r.all (fun x => decide (x = 0)))
  then some { mask := le16 b 6, trims := rows.take 6 } else none

/-! ### Loads (R239, R244) -/

def State.setPlan (s : State) (n : Nat) (p : Option Plan) : State := { s with txn := { s.txn with plans := s.txn.plans.write none n p } }
def State.setEdit (s : State) (n : Nat) (e : Option Edit) : State := { s with txn := { s.txn with edits := s.txn.edits.write none n e } }
def State.pushLoad (s : State) (l : Load) : State := { s with txn := { s.txn with loads := s.txn.loads ++ [l] } }

/-- A transaction is being staged from the plan slot or the edit. -/
def State.stagingFrom (s : State) : LoadKind → Bool
  | .plan n => allSlots.any (fun i => decide ((s.slot i).st = TxnSt.staging) && decide ((s.slot i).plan.map Prod.fst = some n))
  | .edit n => allSlots.any (fun i => decide ((s.slot i).st = TxnSt.staging) && (s.slot i).edits.contains n)
  | _ => false

/-- Refuse a plan or edit; BAD_VERSION and BAD_OBJECT are recorded in `TXN_ERR`. -/
def State.loadRefused (s : State) (src : Src) (st : Status) (reason : Nat) : State :=
  let s := if st = .badObject ∨ st = .badVersion then s.txnErr none (if st = .badVersion then 1 else reason) 0x7F else s
  s.refuse src st 0

/-- Check the object of a plan or edit load, and begin to store it. A plan slot is not valid from now on. -/
def State.beginLoad (s : State) (k : LoadKind) (c : HostCmd) (src : Src) : State :=
  let reason := match k with
    | .plan n => s.planReason n c.data
    | .edit n => s.editReason n c.data
    | _ => 0
  let may := s.mayAct src
  let s := match k with
    | .plan n => if may then s.setPlan n none else s
    | _ => s
  match firstRefusal [(decide (le16 c.data 4 ≠ 1), .badVersion), (decide (reason ≠ 0), .badObject), (!may, .notActive)] with
  | some st => s.loadRefused src st reason
  | none => (s.forwardHost 0xFFFF c).pushLoad { kind := k, src := src, cmd := c }

/-- A load of a plan or an edit: it waits while a transaction is being staged from it. -/
def State.loadObject (s : State) (k : LoadKind) (c : HostCmd) (src : Src) : State :=
  if s.stagingFrom k then s.pushLoad { kind := k, src := src, cmd := c, waiting := true } else s.beginLoad k c src

/-- Release an edit (R410). -/
def State.releaseEdit (s : State) (n : Nat) (c : HostCmd) (src : Src) : State :=
  if !s.mayAct src then s.refuse src .notActive 0 else (((s.forwardHost 0xFFFF c).setEdit n none).healEdit n).reply src .done 0 true []

/-- Refuse the form of a plan or edit load. (DESIGN CHOICE, log 32.) (DEDUCED, log 91.) -/
def State.loadForm (s : State) (c : HostCmd) (src : Src) (field buffer : Bool) (reason : Nat) (f : State → State) : State :=
  let s' := if formDetail (field || !c.headerOk) buffer = none then s else s.txnErr none reason 0x7F
  s'.withForm c src field buffer f

/-- The compensation table (R519). -/
def State.loadComp (s : State) (c : HostCmd) (src : Src) : State :=
  match firstRefusal [(decide (le16 c.data 4 ≠ 1), .badVersion), ((Comp.parse c.data).isNone, .badObject), (!s.mayAct src, .notActive)] with
  | some st => s.refuse src st 0
  | none => (s.forwardHost 0xFFFF c).pushLoad { kind := .comp, src := src, cmd := c }

/-- Slot that an image goes to: of its kind, the one not in use (R575). -/
def State.imgSlot (s : State) (fw : Bool) : Nat := 1 - s.reg (if fw then BTU_STATE_FW_SLOT else BTU_STATE_UC_SLOT)

/-- The content of a flash slot; an empty one is not valid. -/
def State.setFlash (s : State) (fw : Bool) (k : Nat) (b : List Byte) : State :=
  { s with btu := if fw then (if k = 0 then { s.btu with fwA := b } else { s.btu with fwB := b })
                  else (if k = 0 then { s.btu with ucA := b } else { s.btu with ucB := b }) }

/-- An image (R575). -/
def State.loadImage (s : State) (fw : Bool) (c : HostCmd) (src : Src) : State :=
  let b := c.data
  let kind := if fw then 1 else 2
  let role := decide (s.startup = 2) && !fw
  match firstRefusal [(decide (le16 b 4 ≠ 1), .badVersion), (!imgForm kind b, .badObject), (!s.presence, .presenceNeeded),
      (!s.imgAuth b, .signatureFail), (role, .notActive)] with
  | some st => (if s.presence && !role then s.setFlash fw (s.imgSlot fw) [] else s).refuse src st 0
  | none => (s.setFlash fw (s.imgSlot fw) []).pushLoad { kind := .image fw, src := src, cmd := c }

/-- OBJECT_LOAD for `src`. -/
def State.objectLoad (s : State) (c : HostCmd) (src : Src) : State :=
  let n := c.number
  let tile := u8 c.desc 21
  let resv := !zeros c.desc 24 40
  let align := bufBad c.addr
  match c.otype with
  | 1 => s.loadForm c src (resv || decide (tile ≠ 0) || decide (n = 0 ∨ 255 < n)) (align || decide (c.len ≠ 49152))
      (if n = 0 then 2 else 1) (fun s => s.loadObject (.plan n) c src)
  | 2 => s.loadForm c src (resv || decide (tile ≠ 0) || decide (4095 < n))
      (align || decide (c.len ≠ 0 ∧ (c.len < 40 ∨ 49188 < c.len ∨ c.len % 4 ≠ 0))) 1
      (fun s => if c.len = 0 then s.releaseEdit n c src else s.loadObject (.edit n) c src)
  | 3 => s.withForm c src (resv || decide (95 < tile ∧ tile ≠ 0xFF) || decide (63 < n)) (align || decide (c.len ≠ 256))
      (fun s => s.tileWrite c src ((GainSet.parse c.data).map (fun g => [(n, some g)])) Tile.putGain)
  | 4 => s.withForm c src (resv || decide (tile ≠ 0) || decide (n ≠ 0)) (align || decide (c.len ≠ 1044)) (fun s => s.loadComp c src)
  | 5 => s.withForm c src (resv || decide (tile ≠ 0) || decide (n ≠ 0)) (align || decide (c.len < 513 ∨ 1573376 < c.len))
      (fun s => s.loadImage true c src)
  | 6 => s.withForm c src (resv || decide (tile ≠ 0) || decide (n ≠ 0)) (align || decide (c.len < 513 ∨ 12800 < c.len))
      (fun s => s.loadImage false c src)
  | _ => s.withForm c src true false id

/-- R238: OBJECT_LOAD. -/
def execObjectLoad (c : HostCmd) (s : State) : Host.Outcome State Fault Refusal := .next (s.hostRow c 0x01 (fun c s => s.objectLoad c c.src))

def State.dropLoad (s : State) (n : Nat) : State := { s with txn := { s.txn with loads := s.txn.loads.eraseIdx n } }

/-- R239: load n, which waited for a staging, proceeds. -/
def execObjectLoadResume (n : Nat) (s : State) : Host.Outcome State Fault Refusal :=
  .next (match s.txn.loads[n]? with
    | some l => if l.waiting && !s.stagingFrom l.kind then (s.dropLoad n).beginLoad l.kind l.cmd l.src else s
    | none => s)

/-- A verified image is in its slot (R575, R566, R568). (DESIGN CHOICE, log 30.) -/
def State.imageDone (s : State) (fw : Bool) (b : List Byte) (src : Src) : State :=
  let s := s.setFlash fw (s.imgSlot fw) b
  if fw then
    let s := s.reply src .done 0 true []
    if s.startup = 2 then s.resetN else s
  else
    let s := { s with btu := { s.btu with staged := some (imgVer b, imgBody b) } }
    let s := (s.setFlag BTU_STATE_UC_STAGED 0 true).setReg BTU_UC_VER_IMG_VER 0 (imgVer b)
    let none' := decide (s.startup = 3) && allDoms.all (fun d => (s.domSt d).live.isNone)
    let s := s.reply src .done 0 true []
    if none' then (s.loadAll (imgVer b) (imgBody b)).tryRun else s

/-- What a completed load makes valid. -/
def State.loadDone (s : State) (l : Load) (same : Bool) : State :=
  let b := l.cmd.data
  match l.kind with
  | .plan n => ((s.setPlan n (some (Plan.ofBytes b))).heal (planAddr n) 0xC000).reply l.src .done 0 true []
  | .edit n => ((s.setEdit n (some (Edit.ofBytes b))).healEdit n).reply l.src .done 0 true []
  | .comp => ({ s with kln := { s.kln with standby := Comp.parse b, pend := true } }).reply l.src .done 0 true []
  | .image fw => if same then s.imageDone fw b l.src else s.refuse l.src .internal 0

/-- R239, R575: load n completes; `same` tells that an image's slot read back as written. -/
def execObjectLoadDone (n : Nat) (same : Bool) (s : State) : Host.Outcome State Fault Refusal :=
  .next (match s.txn.loads[n]? with
    | some l => if l.waiting then s else (s.dropLoad n).loadDone l same
    | none => s)

end Sys2Proof.Machine
end

