-- ==== Sys2Proof/Machine/TimeUnit.lean ====
section
/-! DEFINITION. Device time: PTP sources, offset samples, the servo, steps, the tree calibration, pulse outputs and capture inputs
(chapter 6, R21 to R26). -/

namespace Sys2Proof.Machine

open Reg

/-- Nanoseconds in 2⁻¹⁶ ns. -/
def nsI (n : Nat) : Int := (n * 65536 : Nat)

/-- Ticks in 2^k s. -/
def logTicks (k : Int) : Nat := if 0 ≤ k then ticksPerSec * 2 ^ k.toNat else ticksPerSec / 2 ^ (-k).toNat

/-- Codes of the servo states (R204). -/
abbrev tmuFree : Nat := 0
abbrev tmuAcquire : Nat := 1
abbrev tmuLocking : Nat := 2
abbrev tmuLocked : Nat := 3
abbrev tmuPending : Nat := 4
abbrev tmuHold : Nat := 5

/-- A time as IEEE 1588 carries it: 48 bits of seconds (R193). -/
def ptpTime (x : Int) : Int := x % (2 ^ 48 * 1000000000 * 65536)

def State.servo (s : State) : Nat := s.reg TMU_STATUS_SERVO_STATE

/-- Put a signed 64-bit value into a pair of words (R232); one beyond them keeps its low 64 bits. (DESIGN CHOICE, log 121.) -/
def State.setPair (s : State) (lo hi : Fd) (x : Int) : State :=
  (s.setReg lo 0 (unsigned 64 x % 2 ^ 32)).setReg hi 0 (unsigned 64 x / 2 ^ 32)

/-- The signed 64-bit value of a pair. -/
def State.pair (s : State) (lo hi : Fd) : Int := signed 64 (s.reg lo + 2 ^ 32 * s.reg hi)

/-! ### Frequency (R203, R204, R212) -/

/-- One ppb and one ppm in the unit of `Tmu.adj`, 2⁻³³ ppb. -/
abbrev ppbUnit : Int := 8589934592
abbrev ppmUnit : Int := 8589934592000

/-- The held frequency: the mean of the last `HOLD_AVG` adjustments taken in `LOCKED`, or 0. -/
def State.heldFreq (s : State) : Int :=
  let l := s.tmu.adjs.take (s.effReg TMU_LIMITS_HOLD_AVG)
  if l.isEmpty then 0 else roundDiv (l.foldl (· + ·) 0) l.length

/-- The remainder that is not yet slewed, in 2⁻¹⁶ ns with its sign: it shrinks by `SLEW_MAX` ppm of the time that has passed, but not in
`STEP_PENDING`, which applies the held frequency alone (R204, R212). (DEDUCED, log 119.) -/
def State.slewLeft (s : State) : Int :=
  let gone := (if s.servo = tmuPending then 0 else s.tick - s.tmu.slewAt) * unitsPerTick * s.effReg TMU_LIMITS_SLEW_MAX / 1000000
  let left := s.tmu.slew.natAbs - gone
  if 0 ≤ s.tmu.slew then (left : Int) else -(left : Int)

/-- The slew counted down to the present. -/
def State.settleSlew (s : State) : State := { s with tmu := { s.tmu with slew := s.slewLeft, slewAt := s.tick } }

/-- The frequency in force without the slew (R204); `LOCKING` applies the last adj before its first sample too. (DEDUCED, log 143.) -/
def State.baseFreq (s : State) : Int :=
  if s.servo = tmuFree then 0 else if s.servo = tmuLocking ∨ s.servo = tmuLocked then s.tmu.adj else s.heldFreq

/-- `TMU_FREQ`, `SLEWING` and `TMU_SLEW_LEFT` follow. (DESIGN CHOICE, log 21; DESIGN CHOICE, log 26.) -/
def State.showFreq (s : State) : State :=
  let left := s.slewLeft
  let slew : Int := if left = 0 ∨ s.servo = tmuPending then 0 else if 0 < left then s.effReg TMU_LIMITS_SLEW_MAX * ppmUnit else -(s.effReg TMU_LIMITS_SLEW_MAX * ppmUnit)
  let s := s.setReg TMU_FREQ_FREQ 0 (unsigned 32 (roundDiv (s.baseFreq + slew) ppbUnit))
  (s.setReg TMU_SLEW_LEFT_SLEW_LEFT 0 (unsigned 32 (roundDiv left 65536))).setFlag TMU_STATUS_SLEWING 0 (decide (left ≠ 0 ∧ s.servo ≠ tmuPending))

/-- A step of R213 whose placement is not fixed goes with the pending step. (DEDUCED, log 119.) -/
def State.dropAuto (s : State) : State :=
  match s.tmu.step with
  | some st => if st.auto && !st.fixed then ({ s with tmu := { s.tmu with step := none } }).setFlag TMU_STATUS_STEP_PLACED 0 false else s
  | none => s

/-- Enter a servo state; leaving `STEP_PENDING` clears the pending step (R205), by applying it too. (DEDUCED, log 142.) -/
def State.setServo (s : State) (st : Nat) : State :=
  let s := s.settleSlew
  let s := if s.servo = tmuPending ∧ st ≠ tmuPending
    then s.dropAuto.setPair TMU_PEND_STEP_LO_PEND_STEP TMU_PEND_STEP_HI_PEND_STEP 0 else s
  let s := (s.setReg TMU_STATUS_SERVO_STATE 0 st).setFlag TMU_STATUS_TRACEABLE 0 (decide (st = tmuLocked))
  ({ s with tmu := { s.tmu with run := 0, withdraw := 0 } }).showFreq

/-- A step becomes pending, under a new identity (R207). (DESIGN CHOICE, log 23.) -/
def State.pendStep (s : State) (delta : Int) : State :=
  let s := (s.setServo tmuPending).setPair TMU_PEND_STEP_LO_PEND_STEP TMU_PEND_STEP_HI_PEND_STEP delta
  s.setReg TMU_STATUS_STEP_ID 0 ((s.reg TMU_STATUS_STEP_ID + 1) % 65536)

/-! ### Sources (R199, R200, R205) -/

/-- The message comes by the transport in use, to its group address, in the domain in use (R199). -/
def State.ptpOurs (s : State) (m : PtpMsg) : Bool :=
  m.group && decide (m.transport = s.reg TMU_CTRL_TRANSPORT) && decide (m.domain = s.reg TMU_CTRL_DOMAIN_NUM)

/-- The time receiver takes the message: it runs, on this port. -/
def State.ptpHere (s : State) (m : PtpMsg) : Bool := s.running && s.flag TMU_CTRL_PTP_EN && decide (m.port = s.reg TMU_CTRL_PORT)

/-- A message that R199 does not act upon is counted: another transport, domain or interval, or a unicast one. (DEDUCED, log 118.) -/
def State.ptpTake (s : State) (m : PtpMsg) (lo hi : Int) (f : State → State) : State :=
  if !s.ptpHere m then s
  else if !s.ptpOurs m || decide (m.logInt < lo) || decide (hi < m.logInt) then s.inc TMU_CNT_MSG_MSG_IGNORED
  else f s

/-- What a change of source, or the first source, starts over (R200 to R202). (DESIGN CHOICE, log 22.) -/
def State.newSource (s : State) : State :=
  { s with tmu := { s.tmu with eval := [], mpdFirst := true, waitFup := none, lastSync := none, delayReq := none, delayInt := none, reqAt := none, syncAt := s.tick } }

/-- The source changes (R200, R205). (DESIGN CHOICE, log 22.) -/
def State.changeSource (s : State) : State :=
  let s := s.newSource.raise 612
  if s.servo = tmuFree ∨ s.servo = tmuHold then s else s.setServo tmuAcquire

/-- The source is lost (R200, R205): its records go, so that its return counts as a change of source. -/
def State.loseSource (s : State) : State :=
  match s.tmu.sel with
  | none => s
  | some (i, p) =>
    let s := { s.newSource with tmu := { s.newSource.tmu with
      sel := none, lost := true, sources := s.tmu.sources.filter (fun x => decide ((x.id, x.port) ≠ (i, p))) } }
    if s.tmu.lockedOnce then (s.setServo tmuHold).raise 611 else s.setServo tmuFree

/-- The source has sent two Announce messages within four of its intervals, and none of three intervals has been missed since. -/
def State.qualified (s : State) (x : PtpSrc) : Bool :=
  (match x.prev with
   | some p => decide (x.last - p ≤ 4 * logTicks x.logInt)
   | none => false) && decide (s.tick - x.last ≤ 3 * logTicks x.logInt)

/-- Lexicographic comparison of lists. -/
def lexLess : List Nat → List Nat → Bool
  | a :: l, b :: r => decide (a < b) || (decide (a = b) && lexLess l r)
  | [], _ :: _ => true
  | _, [] => false

/-- Dataset comparison: the grandmaster's dataset, then the steps removed, then the sender. (PRESUMED, log 20.) -/
def PtpSrc.better (a b : PtpSrc) : Bool := lexLess (a.data ++ [a.steps, a.id, a.port]) (b.data ++ [b.steps, b.id, b.port])

/-- The best of the sources (R200). (PRESUMED, log 20.) -/
def bestSrc : List PtpSrc → Option PtpSrc
  | [] => none
  | a :: l => match bestSrc l with
    | none => some a
    | some b => if b.better a then some b else some a

/-- Select source x. -/
def State.selectSource (s : State) (x : PtpSrc) : State :=
  let s := (s.setReg TMU_SRC_ID_LO_CLOCK_ID 0 (x.id % 2 ^ 32)).setReg TMU_SRC_ID_HI_CLOCK_ID 0 (x.id / 2 ^ 32)
  let s := (s.setReg TMU_SRC_PORT_PORT_NUM 0 x.port).setReg TMU_SRC_PORT_CLOCK_CLASS 0 (x.data.getD 1 0)
  { s with tmu := { s.tmu with sel := some (x.id, x.port), selTs := x.ptpTimescale, annInt := x.logInt, annAt := x.last } }

/-- The dataset comparison after an Announce. -/
def State.chooseSource (s : State) : State :=
  match bestSrc (s.tmu.sources.filter s.qualified) with
  | none => s
  | some x =>
    match s.tmu.sel with
    | none =>
      let s := (s.selectSource x).newSource
      let s := if s.tmu.lost then s.raise 612 else s
      s.setServo tmuAcquire
    | some k =>
      let changed := decide (k ≠ (x.id, x.port)) || decide (s.tmu.selTs ≠ x.ptpTimescale)
      let s := s.selectSource x
      if changed then s.changeSource else s

/-- R200: an Announce message. `data` is its dataset in the order of the comparison. -/
def execAnnounceReceived (m : PtpMsg) (data : List Nat) (steps : Nat) (ts : Bool) (s : State) : Host.Outcome State Fault Refusal :=
  .next (s.ptpTake m (-3) 4 (fun s =>
    let old := s.tmu.sources.find? (fun x => decide (x.id = m.id ∧ x.port = m.idPort))
    let x : PtpSrc := { id := m.id, port := m.idPort, data := data, steps := steps, ptpTimescale := ts, logInt := m.logInt, last := s.tick,
                        prev := old.map PtpSrc.last }
    let rest := s.tmu.sources.filter (fun x => decide (x.id ≠ m.id ∨ x.port ≠ m.idPort))
    ({ s with tmu := { s.tmu with sources := rest ++ [x] } }).chooseSource))

/-- The instant at which the selected source is lost: three announce intervals, or `SYNC_LOSS` sync intervals once it has sent a Sync. (DESIGN CHOICE, log 22.) -/
def State.lossTick (s : State) : Nat :=
  let a := s.tmu.annAt + 3 * logTicks s.tmu.annInt
  if s.tmu.lastSync.isSome then min a (s.tmu.syncAt + s.effReg TMU_LOSS_SYNC_LOSS * logTicks s.tmu.syncInt) else a

/-- R200: Announce or Sync messages of the selected source have stopped for their limit. -/
def execSourceLost (s : State) : Host.Outcome State Fault Refusal :=
  .next (if s.running && s.tmu.sel.isSome then (s.advance (s.lossTick - s.tick)).loseSource else s)

/-- What follows a write of `TMU_CTRL` whose old word was `old` (R228). -/
def State.tmuCtrl (old : Nat) (s : State) : State :=
  let was (f : Fd) : Nat := getBits old f.lo f.wd
  if was TMU_CTRL_PTP_EN = 1 ∧ s.reg TMU_CTRL_PTP_EN = 0 then
    let s := s.loseSource
    { s with tmu := { s.tmu with sources := [] } }
  else if [TMU_CTRL_PORT, TMU_CTRL_TRANSPORT, TMU_CTRL_DELAY_MECH, TMU_CTRL_DOMAIN_NUM].any (fun f => decide (was f ≠ s.reg f)) then
    let s := { s with tmu := { s.tmu with sources := [] } }
    if s.tmu.sel.isSome then s.changeSource else s
  else s

/-- R228: a write of `TMU_CTRL`. -/
def execTmuCtrlWrite (v : Nat) (s : State) : Host.Outcome State Fault Refusal :=
  .next (s.hostWrite TMU_CTRL_PTP_EN.off v (State.tmuCtrl (s.word TMU_CTRL_PTP_EN.off).toNat))

/-! ### Steps (R210 to R213) -/

/-- Step in 2⁻¹⁶ ns as whole frames, halves away from zero. -/
def stepFrames (d : Int) : Int := roundDiv d (2500 * 65536)

/-- A commit DT that R211 counts meets the step interval of marker m. A commit that has taken place counts until its window has passed,
whether or not its transaction has ended. (DEDUCED, log 88.) -/
def State.stepBlocked (s : State) (m : Nat) (frames : Int) : Bool :=
  let lo := m - 12800
  let hi := (m + max (frames * 3200) 0 + nsDown s.margin : Int).toNat
  s.reservedIn lo hi || allTiles.any (fun t => match (s.tile t).lastTxn with
    | some c => decide (lo ≤ c ∧ c ≤ hi)
    | none => false) || allSlots.any (fun i => decide ((s.slot i).st ≠ TxnSt.free) && (match (s.slot i).commit with
    | some c => decide (lo ≤ c ∧ c ≤ hi)
    | none => false))

/-- The first marker at or after tick t. -/
def markerFrom (t : Nat) : Nat := (t + (ticksPerFrame - 1)) / ticksPerFrame * ticksPerFrame

/-- The last candidate marker of a step. -/
def State.stepLast (s : State) (st : Step) : Nat := markerBefore (st.accepted + s.effReg TMU_STEP_STEP_WAIT * usTicks 1000)

/-- Candidates from m on, at most n of them. -/
def State.findMarker (s : State) (frames : Int) (last : Nat) : Nat → Nat → Option Nat
  | 0, _ => none
  | n + 1, m => if last < m then none else if s.stepBlocked m frames then s.findMarker frames last n (m + ticksPerFrame) else some m

/-- The marker in hand: the first that qualifies under the commit DTs known now (R211). -/
def State.stepMarker (s : State) (st : Step) : Option Nat :=
  let first := markerFrom (max s.dt st.accepted + nsUp s.margin)
  let last := s.stepLast st
  s.findMarker st.frames last ((last - first) / ticksPerFrame + 1) first

/-- R213: an automatic step may be placed now: no transaction is staged or armed, and no list waits or runs. -/
def State.autoOk (s : State) : Bool :=
  !(allSlots.any (fun i => match (s.slot i).st with
    | .staged => true
    | .arming => true
    | .armed => true
    | _ => false)) && !(allLists.any s.listLive)

/-- Put a step in hand. -/
def State.putStep (s : State) (st : Step) : State :=
  let s := { s with tmu := { s.tmu with step := some st } }
  let m := s.stepMarker st
  ({ s with tmu := { s.tmu with step := some { st with marker := m } } }).setFlag TMU_STATUS_STEP_PLACED 0 true

/-- No step is in hand. -/
def State.dropStep (s : State) : State := ({ s with tmu := { s.tmu with step := none } }).setFlag TMU_STATUS_STEP_PLACED 0 false

/-- A step whose DT of acceptance plus Δ_F would be negative (R193). -/
def State.stepNegative (s : State) (d : Int) : Bool := decide ((s.dt : Int) + stepFrames d * 3200 < 0)

/-- TIME_STEP for `src` (R210, R410). -/
def State.timeStep (s : State) (c : HostCmd) (src : Src) : State :=
  let mode := u8 c.desc 8
  let id := le16 c.desc 10
  let ns := les32 c.desc 12
  let sec := signed 64 (le64 c.desc 16)
  let twin := match src with
    | .twin _ => true
    | _ => false
  let mixed := decide (0 < ns ∧ sec < 0) || decide (ns < 0 ∧ 0 < sec)
  let field := decide (mode ≠ 1 ∧ mode ≠ 2) || !zeros c.desc 9 1 || !zeros c.desc 24 40 ||
    (if mode = 1 then !zeros c.desc 12 12 else decide (id ≠ 0) || decide (999999999 < ns.natAbs) || mixed)
  s.withForm c src field false (fun s =>
    let pend := decide (s.servo = tmuPending)
    if twin && decide (mode = 1) && !pend then s.reply src .done 0 true []
    else
      let d := if mode = 1 then s.pair TMU_PEND_STEP_LO_PEND_STEP TMU_PEND_STEP_HI_PEND_STEP else (sec * 1000000000 + ns) * 65536
      let bad := (decide (mode = 1) && (!pend || (!twin && decide (s.reg TMU_STATUS_STEP_ID ≠ id)))) || s.tmu.step.isSome || s.stepNegative d
      match firstRefusal [(bad, .badObject), (!s.mayAct src, .notActive)] with
      | some st => s.refuse src st 0
      | none =>
        ((s.reply src .queued 0 false []).forwardHost 0xFFFF c).putStep { delta := d, frames := stepFrames d, src := src, accepted := s.dt, accept := decide (mode = 1) })

/-- A TIME_STEP row: its mode is `m`; a reserved mode is refused by the form check. -/
def State.stepRow (s : State) (c : HostCmd) : State := s.hostRow c 0x0C (fun c s => s.timeStep c c.src)

/-- R210. -/
def execTimeStepAccept (c : HostCmd) (s : State) : Host.Outcome State Fault Refusal :=
  .next (if u8 c.desc 8 = 2 then s else s.stepRow c)
/-- R210. -/
def execTimeStepExplicit (c : HostCmd) (s : State) : Host.Outcome State Fault Refusal :=
  .next (if u8 c.desc 8 = 1 then s else s.stepRow c)

/-- The tick at which the placement on marker m is fixed. -/
def State.fixTick (s : State) (m : Nat) : Nat := m - nsUp s.margin

/-- R211: DT reaches the marker in hand minus the arm margin. An automatic step is placed only under the conditions of R213;
while they fail, a later marker is tried. -/
def execStepPlacementFixed (s : State) : Host.Outcome State Fault Refusal :=
  .next (match s.tmu.step with
    | none => s
    | some st =>
      if st.fixed then s
      else match s.stepMarker st with
        | none => s
        | some m =>
          let s := s.advanceTo (s.fixTick m)
          -- The next marker may meet the conditions of R213.
          if st.auto && !s.autoOk then s.advance 1
          else { s with tmu := { s.tmu with step := some { st with marker := some m, fixed := true } } })

/-- R211: the fixing instant of the last candidate passes without a placement. -/
def execTimeStepAbort (s : State) : Host.Outcome State Fault Refusal :=
  .next (match s.tmu.step with
    | none => s
    | some st =>
      if st.fixed || (s.stepMarker st).isSome then s
      else ((s.advanceTo (s.fixTick (s.stepLast st))).dropStep).reply st.src .aborted 0 true [])

/-- A DT moved by `d` ticks. -/
def shift (d : Int) (t : Nat) : Nat := ((t : Int) + d).toNat

/-- Instants kept as DT from which durations are counted move with DT. -/
def Pend.shift (d : Int) (p : Pend) : Pend :=
  { p with endAt := Machine.shift d p.endAt, armAt := p.armAt.map (Machine.shift d), frozenAt := p.frozenAt.map (Machine.shift d), report := p.report.map (Machine.shift d) }

def Tile.shift (d : Int) (tl : Tile) : Tile :=
  { tl with lanes := tl.lanes.map (fun (p : Nat × Lane) => (p.1, if p.2.mode = .burst then { p.2 with burstTo := Machine.shift d p.2.burstTo } else p.2)),
            burstEnd := Machine.shift d tl.burstEnd, lastCommit := tl.lastCommit.map (Machine.shift d), lastTxn := tl.lastTxn.map (Machine.shift d),
            run := tl.run.map (fun r => { r with start := Machine.shift d r.start }),
            pend0 := tl.pend0.shift d, pend1 := tl.pend1.shift d,
            vers := tl.vers.map (fun v => { v with openAt := Machine.shift d v.openAt, closeAt := Machine.shift d v.closeAt }) }

/-- A step of DT by d moves with it the instants that the state holds on the scale of DT (R207), but not the timestamps of PTP exchanges that
have begun. (DEDUCED, log 79; DEDUCED, log 144.) -/
def State.shiftTime (s : State) (d : Int) : State :=
  let tiles : Tab Tile := s.tiles.map (fun (p : Nat × Tile) => (p.1, p.2.shift d))
  let own : Tab Nat := s.fab.ownAt.map (fun (p : Nat × Nat) => (p.1, Machine.shift d p.2))
  let rose : Tab Nat := s.fab.ownxRose.map (fun (p : Nat × Nat) => (p.1, Machine.shift d p.2))
  let fell : Tab Nat := s.fab.ownxFell.map (fun (p : Nat × Nat) => (p.1, if p.2 = 0 then 0 else Machine.shift d p.2))
  let stamp : Tab Nat := s.flt.stamp.map (fun (p : Nat × Nat) => (p.1, if p.2 = 0 then 0 else Machine.shift d p.2))
  let caps : Tab Nat := s.tmu.lastCap.map (fun (p : Nat × Nat) => (p.1, Machine.shift (d * unitsPerTick) p.2))
  { s with dt := Machine.shift d s.dt, marker := Machine.shift d s.marker, tiles := tiles
           fab := { s.fab with ownAt := own, ownxRose := rose, ownxFell := fell }
           flt := { s.flt with stamp := stamp }
           tmu := { s.tmu with lastCap := caps }
           txn := { s.txn with quenchAt := s.txn.quenchAt.map (Machine.shift d) }
           adm := { s.adm with reqs := s.adm.reqs.map (fun r => { r with arrival := Machine.shift d r.arrival }) }
           cal := { s.cal with energy := s.cal.energy.map (fun p => (Machine.shift d p.1, p.2)) } }

/-- The pin of output n: active or not, inverted by `POL`; a change of level is shown (R223). -/
def State.toutPin (s : State) (n : Nat) : State :=
  let high := match s.tmu.pulses.read none n with
    | some p => p.fallAt.isSome
    | none => false
  let level := high != s.flag TOUT_CTRL_POL n
  if level = s.tmu.tout.read false n then s
  else ({ s with tmu := { s.tmu with tout := s.tmu.tout.write false n level } }).send (.tout n level)

def State.setPulse (s : State) (n : Nat) (p : Option Pulse) : State :=
  (({ s with tmu := { s.tmu with pulses := s.tmu.pulses.write none n p } }).setFlag TOUT_CTRL_ACTIVE n p.isSome).toutPin n

/-- Pulse outputs after a step (R225): edges whose DT has passed are skipped and counted; a single pulse that is skipped does not come, and an output that is stopping has no edge to come but its fall. -/
def State.skipEdges (s : State) (n : Nat) : State :=
  match s.tmu.pulses.read none n with
  | none => s
  | some p =>
    if p.stopping then s else
    let now := s.dt * unitsPerTick
    let past := decide ((p.start + p.next * p.period) * 65536 < now)
    if p.period = 0 then
      if past && decide (p.next = 0) then (s.setPulse n none).inc TMU_CNT_MSG_TOUT_SKIPPED else s
    else
      let k := if past then (now - p.start * 65536 + (p.period * 65536 - 1)) / (p.period * 65536) else p.next
      let s := { s with tmu := { s.tmu with pulses := s.tmu.pulses.write none n (some { p with next := k }) } }
      s.count TMU_CNT_MSG_TOUT_SKIPPED 0 (k - p.next)

/-- R212: the step takes place at its marker, which is now; the event of an automatic one is marked (R213). (DEDUCED, log 119; DESIGN CHOICE, log 23.) -/
def State.applyStep (s : State) (st : Step) : State :=
  let before := s.now
  let s := s.settleSlew
  let rest := st.delta - st.frames * (2500 * 65536)
  let s := (s.shiftTime (st.frames * 3200)).forEach State.skipEdges (List.range 4)
  let s := { s with tmu := { s.tmu with slew := s.tmu.slew + rest, slewAt := s.tick, stepped := true } }
  let s := s.dropStep
  let s := if s.servo = tmuPending ∨ s.servo = tmuLocking ∨ s.servo = tmuLocked then s.setServo tmuLocking
    else if s.servo = tmuAcquire then { s.showFreq with tmu := { s.showFreq.tmu with eval := [] } } else s.showFreq
  let s := if st.auto then { (s.raise 608) with tmu := { (s.raise 608).tmu with autoMark := true } } else s
  s.reply st.src .done 0 true (leBytes 8 0 ++ dt12 before)

/-- The step, if its marker is now. -/
def State.stepAtMarker (s : State) : State :=
  match s.tmu.step with
  | some st => if st.fixed ∧ st.marker = some s.dt then s.applyStep st else s
  | none => s

/-- R212: the remainder has been slewed out. -/
def execSlewEnd (s : State) : Host.Outcome State Fault Refusal :=
  .next (if s.tmu.slew = 0 ∨ s.servo = tmuPending then s
  else
    let r := unitsPerTick * s.effReg TMU_LIMITS_SLEW_MAX
    let n := (s.tmu.slew.natAbs * 1000000 + (r - 1)) / r
    let s := s.advance (s.tmu.slewAt + n - s.tick)
    ({ s with tmu := { s.tmu with slew := 0, slewAt := s.tick } }).showFreq)

/-! ### Offset samples and the servo (R201 to R209) -/

/-- Registers of R231. -/
def servoRegs : List Nat :=
  [TMU_SERVO_KP.off, TMU_LIMITS_FREQ_MAX.off, TMU_JUMP_THR_JUMP_THR.off, TMU_LOCK_LOCK_THR.off, TMU_EVAL_EVAL_SAMPLES.off,
   TMU_STEP_STEP_WAIT.off, TMU_LOSS_SYNC_LOSS.off]

/-- o ÷ T in units of 2⁻¹⁷ ppb. (DESIGN CHOICE, log 21.) -/
def State.perInterval (s : State) (o : Int) : Int :=
  let k := s.tmu.syncInt
  if 0 ≤ k then roundDiv (2 * o) (2 ^ k.toNat : Nat) else 2 * o * (2 ^ (-k).toNat : Nat)

/-- The integrator at `i` and the steered frequency at `a`; `LOCKED` keeps it among the values of the held frequency. -/
def State.steerTo (s : State) (i a : Int) (locked : Bool) : State :=
  { s with tmu := { s.tmu with integ := i, adj := a, adjs := if locked then (a :: s.tmu.adjs).take 255 else s.tmu.adjs } }

/-- R203: the servo takes a sample. (DESIGN CHOICE, log 21.) -/
def State.steer (s : State) (o : Int) (locked : Bool) : State :=
  let e := s.perInterval o
  let lim := s.effReg TMU_LIMITS_FREQ_MAX * ppmUnit
  let i := clampI (s.tmu.integ - s.effReg TMU_SERVO_KI * e) (-lim) lim
  let a := clampI (i - s.effReg TMU_SERVO_KP * e) (-lim) lim
  s.steerTo i a locked

/-- R207: the sample is refused as a jump. -/
def State.refuseJump (s : State) (o : Int) : State :=
  let s := ((s.inc TMU_CNT_EVAL_REFUSED).pendStep (-o)).raise 608
  { s with tmu := { s.tmu with autoMark := false } }

/-- The count of samples towards lock or loss of lock. -/
def State.setRun (s : State) (n : Nat) : State := { s with tmu := { s.tmu with run := n } }

/-- The servo enters `LOCKED`. -/
def State.lock (s : State) : State := { (s.setServo tmuLocked) with tmu := { (s.setServo tmuLocked).tmu with lockedOnce := true } }

/-- What the count decides (R205). -/
def State.lockRun (s : State) (locked : Bool) (n : Nat) : State :=
  if !locked && decide (s.effReg TMU_LOCK_LOCK_CNT ≤ n) then (s.setRun n).lock
  else if locked && decide (s.effReg TMU_LOCK_UNLOCK_CNT ≤ n) then ((s.setRun n).setServo tmuLocking).raise 610
  else s.setRun n

/-- A sample in `LOCKING` or `LOCKED`, taken against the unslewed remainder. -/
def State.sampleSteering (s : State) (o : Int) : State :=
  let o' := o + s.slewLeft
  let locked := decide (s.servo = tmuLocked)
  if nsI (s.effReg TMU_JUMP_THR_JUMP_THR) < o'.natAbs then s.refuseJump o'
  else
    let s := (s.steer o' locked).showFreq
    let near := decide ((o'.natAbs : Int) ≤ nsI (s.effReg TMU_LOCK_LOCK_THR))
    s.lockRun locked (if near = locked then 0 else s.tmu.run + 1)

/-- A later sample replaces the pending step, and an automatic step in hand with it, until a step is placed (R208). -/
def State.newPending (s : State) (o : Int) : State :=
  match s.tmu.step with
  | some st =>
    if st.fixed then s
    else
      let s := s.setPair TMU_PEND_STEP_LO_PEND_STEP TMU_PEND_STEP_HI_PEND_STEP (-o)
      if st.auto then { s with tmu := { s.tmu with step := some { st with delta := -o, frames := stepFrames (-o) } } } else s
  | none => s.setPair TMU_PEND_STEP_LO_PEND_STEP TMU_PEND_STEP_HI_PEND_STEP (-o)

/-- A sample in `STEP_PENDING` (R208, R209): a TIME_STEP in Accept mode keeps it from the pending step and from the count. -/
def State.samplePending (s : State) (o : Int) : State :=
  let frozen := match s.tmu.step with
    | some st => st.accept
    | none => false
  if frozen then s
  else
    let s := s.newPending o
    let n := if (o.natAbs : Int) ≤ nsI (s.effReg TMU_JUMP_THR_JUMP_THR) then s.tmu.withdraw + 1 else 0
    if s.effReg TMU_EVAL_WITHDRAW_CNT ≤ n then (s.setServo tmuLocking).raise 609
    else { s with tmu := { s.tmu with withdraw := n } }

/-- The evaluation has passed with mean m (R205, R213). (DESIGN CHOICE, log 23; DEDUCED, log 119.) -/
def State.evaluated (s : State) (m : Int) : State :=
  if (m.natAbs : Int) ≤ nsI (s.effReg TMU_JUMP_THR_JUMP_THR) then s.setServo tmuLocking
  else
    let s := s.pendStep (-m)
    if s.flag TMU_CTRL_AUTO_FIRST && !s.tmu.stepped && s.tmu.step.isNone && !s.stepNegative (-m) then
      s.putStep { delta := -m, frames := stepFrames (-m), src := .nobody, accepted := s.dt, auto := true }
    else s

/-- A sample in `ACQUIRE` (R202). -/
def State.sampleEval (s : State) (o : Int) : State :=
  let l := o :: s.tmu.eval
  let hi := l.foldl max o
  let lo := l.foldl min o
  if l.length < s.effReg TMU_EVAL_EVAL_SAMPLES then { s with tmu := { s.tmu with eval := l } }
  else
    let s := { s with tmu := { s.tmu with eval := [] } }
    if hi - lo ≤ nsI (s.effReg TMU_EVAL_EVAL_SPREAD) then s.evaluated (roundDiv (l.foldl (· + ·) 0) l.length)
    else s.inc TMU_CNT_EVAL_EVAL_RESTART

/-- One offset sample. Registers of R231 take effect here. -/
def State.offsetSample (s : State) (o : Int) : State :=
  let s := ((s.settleSlew.takeEffects servoRegs).setPair TMU_OFFSET_LO_OFFSET TMU_OFFSET_HI_OFFSET o).showFreq
  if s.servo = tmuAcquire then s.sampleEval o
  else if s.servo = tmuLocking ∨ s.servo = tmuLocked then s.sampleSteering o
  else if s.servo = tmuPending then s.samplePending o
  else s

/-- Delay asymmetry of a port in 2⁻¹⁶ ns (R198). -/
def State.asym (s : State) (port : Nat) : Int :=
  roundDiv (signed 16 (s.reg (if port = 0 then TMU_ASYM_CP0_ASYM_PS else TMU_ASYM_CP1_ASYM_PS)) * 65536) 1000

def State.mpd (s : State) : Int := s.pair TMU_MPD_LO_MPD TMU_MPD_HI_MPD

/-- A Sync is complete: t2, t1 and the corrections of it and its Follow_Up. -/
def State.syncComplete (s : State) (t2 t1 corr : Int) : State :=
  let d := ptpTime t2 - ptpTime t1 - (corr + s.asym (s.reg TMU_CTRL_PORT))
  ({ s with tmu := { s.tmu with waitFup := none, lastSync := some d } }).offsetSample (d - s.mpd)

/-- The message comes from the selected source. -/
def State.fromSelected (s : State) (m : PtpMsg) : Bool := decide (s.tmu.sel = some (m.id, m.idPort))

/-- R201: a Sync of origin time t1; a two-step one waits for its Follow_Up. -/
def execSyncReceived (m : PtpMsg) (t1 : Int) (twoStep : Bool) (s : State) : Host.Outcome State Fault Refusal :=
  .next (s.ptpTake m (-7) 1 (fun s =>
    if !s.fromSelected m then s
    else
      let s := { s with tmu := { s.tmu with syncInt := m.logInt, syncAt := s.tick } }
      if twoStep then { s with tmu := { s.tmu with waitFup := some (m.seq, stampOf m.rx, m.corr) } } else s.syncComplete (stampOf m.rx) t1 m.corr))

/-- R201: a Follow_Up. -/
def execFollowUpReceived (m : PtpMsg) (t1 : Int) (s : State) : Host.Outcome State Fault Refusal :=
  .next (s.ptpTake m (-7) 1 (fun s =>
    match s.tmu.waitFup with
    | some (q, t2, corr) => if s.fromSelected m ∧ q = m.seq then s.syncComplete t2 t1 (corr + m.corr) else s
    | none => s))

/-- A path delay sample (R201). -/
def State.delaySample (s : State) (x : Int) : State :=
  let m := s.mpd
  let s := s.setPair TMU_MPD_LO_MPD TMU_MPD_HI_MPD
    (if s.tmu.mpdFirst then x else m + roundDiv (x - m) (2 ^ s.effReg TMU_LOSS_MPD_WEIGHT : Nat))
  { s with tmu := { s.tmu with mpdFirst := false } }

/-- The next Delay_Req is due: at the rate that the last Delay_Resp gave (R199). -/
def State.reqDue (s : State) : Nat :=
  match s.tmu.reqAt, s.tmu.delayInt with
  | some t, some k => t + logTicks k
  | _, _ => s.tick

/-- R201: a Delay_Req leaves at t3; its correction field carries the asymmetry. -/
def execDelayReqSend (t3 : Int) (s : State) : Host.Outcome State Fault Refusal :=
  .next (let p := s.reg TMU_CTRL_PORT
  if s.running && s.flag TMU_CTRL_PTP_EN && decide (s.reg TMU_CTRL_DELAY_MECH = 0) && s.tmu.sel.isSome && s.portUp p then
    let s := s.advance (s.reqDue - s.tick)
    let q := s.tmu.delaySeq
    ({ s with tmu := { s.tmu with delaySeq := (q + 1) % 65536, delayReq := some (q, s.egressAt t3), reqAt := some s.tick } }).sendPtp p 1 q
      [unsigned 64 (-(s.asym p))]
  else s)

/-- R201: a Delay_Resp with receive timestamp t4. -/
def execDelayRespReceived (m : PtpMsg) (t4 : Int) (s : State) : Host.Outcome State Fault Refusal :=
  .next (s.ptpTake m (-7) 5 (fun s =>
    match s.tmu.delayReq, s.tmu.lastSync with
    | some (q, t3), some d =>
      if s.fromSelected m ∧ q = m.seq ∧ s.reg TMU_CTRL_DELAY_MECH = 0 then
        ({ s with tmu := { s.tmu with delayReq := none, delayInt := some m.logInt } }).delaySample
          (roundDiv (d + (ptpTime t4 - ptpTime t3 - m.corr)) 2)
      else s
    | _, _ => s))

/-- Peer delay is measured on port p: by a receiver set for it, or by a peer-to-peer transparent clock on both ports (R214). -/
def State.peerPort (s : State) (p : Nat) : Bool :=
  s.running && ((s.flag TMU_CTRL_PTP_EN && decide (s.reg TMU_CTRL_DELAY_MECH = 1) && decide (p = s.reg TMU_CTRL_PORT)) ||
    (s.flag CPX_CTRL_CHAIN_LIVE && decide (s.reg TMU_CTRL_TC_MODE = 2) && decide (p < 2)))

/-- R201: a Pdelay_Req leaves port p at t1; each port runs its own exchange (R214). -/
def execPdelayReqSend (p : Nat) (t1 : Int) (s : State) : Host.Outcome State Fault Refusal :=
  .next (if s.peerPort p && s.portUp p then
    let q := s.tmu.peerSeq.read 0 p
    ({ s with tmu := { s.tmu with peerSeq := s.tmu.peerSeq.write 0 p ((q + 1) % 65536), peerReq := s.tmu.peerReq.write none p (some (q, s.egressAt t1)) } }).sendPtp
      p 2 q [unsigned 64 (-(s.asym p))]
  else s)

/-- A peer delay message on a port that measures none: on the receiver port it is not acted upon and counted (R199). (DEDUCED, log 118.) -/
def State.peerIgnored (s : State) (m : PtpMsg) : State := if s.ptpHere m then s.inc TMU_CNT_MSG_MSG_IGNORED else s

/-- R199: a Pdelay_Req is answered one-step: the response leaves at t3 and its correction carries the turnaround. -/
def execPdelayReqReceived (m : PtpMsg) (t3 : Int) (s : State) : Host.Outcome State Fault Refusal :=
  .next (if !s.peerPort m.port then s.peerIgnored m
  else if !s.ptpOurs m || decide (m.logInt < -7) || decide (5 < m.logInt) then s.inc TMU_CNT_MSG_MSG_IGNORED
  else s.sendPtp m.port 3 m.seq [m.id, m.idPort, unsigned 64 (m.corr + (s.egressAt t3 - stampOf m.rx))])

/-- R201: a Pdelay response; `turn` is the turnaround that a two-step responder reports in timestamps. -/
def execPdelayRespReceived (m : PtpMsg) (turn : Int) (s : State) : Host.Outcome State Fault Refusal :=
  .next (if !s.peerPort m.port then s.peerIgnored m
  else if !s.ptpOurs m then s.inc TMU_CNT_MSG_MSG_IGNORED
  else match s.tmu.peerReq.read none m.port with
    | some (q, t1) =>
      if q ≠ m.seq then s
      else
        let x := roundDiv (stampOf m.rx - t1 - turn - (m.corr + s.asym m.port)) 2
        let s := { s with tmu := { s.tmu with peerReq := s.tmu.peerReq.write none m.port none, peer := s.tmu.peer.write 0 m.port x } }
        if s.flag TMU_CTRL_PTP_EN && decide (s.reg TMU_CTRL_DELAY_MECH = 1) && decide (m.port = s.reg TMU_CTRL_PORT) then s.delaySample x else s
    | none => s)

/-! ### The tree (R217 to R221) -/

/-- The trim of a leaf: round((d_max − d_t) ÷ 12.5 ps). A leaf's delay is half the mean of 1,024 loop measurements, given here by their
sum in 6.25 ps (R218). -/
def leafTrimOf (sumMax sum : Nat) : Nat := (sumMax - sum + 2048) / 4096

/-- Mark tile t under R219: its leaf is calibrated no more, which its armed conditions miss (R255). -/
def State.markTile (s : State) (t : Nat) : State :=
  let s := s.setReg TMU_TREE_FAIL_TILE (t / 32) (withBit (s.reg TMU_TREE_FAIL_TILE (t / 32)) (t % 32) true)
  let s := s.modTile t (fun tl => { tl with leafOk := false })
  (s.setReg TMU_TREE_DOM_FAIL 0 (withBit (s.reg TMU_TREE_DOM_FAIL) (domOf t) true)).withdraw t

/-- The tree calibration marker: epochs and divergence windows start, and `DONE` is set (R138, R173, R218). (DESIGN CHOICE, log 25.) -/
def State.treeMarker (s : State) : State :=
  let s := ((s.setFlag TMU_TREE_DONE 0 true).setFlag TMU_TREE_CAL_BUSY 0 false)
  let s := { s with tmu := { s.tmu with calMarker := some s.tick, calPend := false } }
  s.forEach (fun s t => s.modTile t (fun tl => { tl with epoch := 0, epochs := 0, window := 0 })) allTiles

/-- R218, R219: every leaf has been measured, to a sum of 1,024 loop measurements (none: no echo), and its trim set. The tree calibration marker is the first from now on. -/
def execTreeCalDone (delays : List (Option Nat)) (s : State) : Host.Outcome State Fault Refusal :=
  .next (if s.inReset || decide (s.startup ≠ 3) || !s.flag TMU_TREE_CAL_BUSY then s
  else
    let dMax := (delays.filterMap id).foldl max 0
    let s := { s with tmu := { s.tmu with dMax := dMax } }
    let s := s.forEach (fun s t =>
      let trim := (delays.getD t none).map (fun d => (d, leafTrimOf dMax d))
      match trim with
      | some (d, k) =>
        if k ≤ 255 then
          let s := s.modTile t (fun tl => { tl with leafOk := true, leafTrim := (k : Nat) })
          { s with tmu := { s.tmu with leaf := s.tmu.leaf.write 0 t d } }
        else ({ s with tmu := { s.tmu with bad := withBit s.tmu.bad (domOf t) true } }).markTile t
      | none => ({ s with tmu := { s.tmu with bad := withBit s.tmu.bad (domOf t) true } }).markTile t) allTiles
    let s := (if s.tmu.bad = 0 then s else s.raiseCond 614).showUnavailable
    if s.started ∧ s.dt = s.marker then s.treeMarker else { s with tmu := { s.tmu with calPend := true } })

/-- R220: one leaf's error in 6.25 ps; none when its echo is lost. (DESIGN CHOICE, log 25.) -/
def State.remeasure (s : State) (t : Nat) (e : Option Int) : State :=
  let tl := s.tile t
  if !tl.leafOk then s
  else match e with
    | none => (s.markTile t).raiseCond 615
    | some e =>
      let move : Int := if 8 < e then -1 else if e < -8 then 1 else 0
      let trim := tl.leafTrim + move
      if move = 0 then s
      else if 0 ≤ trim ∧ trim ≤ 255 then s.modTile t (fun tl => { tl with leafMove := move })
      else if 80 < e.natAbs then (s.markTile t).raiseCond 615 else s

/-- R220: every leaf has been measured again. -/
def execTreeRemeasure (errs : List (Option Int)) (s : State) : Host.Outcome State Fault Refusal :=
  .next (if !s.running then s
  else
    let worst := (errs.filterMap id).foldl (fun m e => max m e.natAbs) 0
    (s.setReg TMU_TREE_MAX_ERR 0 (min 255 worst)).forEach (fun s t => s.remeasure t (errs.getD t (some 0))) allTiles)

/-- The trim moves that wait, on a marker outside every commit window. (DESIGN CHOICE, log 25.) -/
def State.moveTrims (s : State) : State :=
  if s.stepBlocked s.dt 0 then s
  else s.forEach (fun s t =>
    let m := (s.tile t).leafMove
    if m = 0 then s else (s.modTile t (fun tl => { tl with leafTrim := tl.leafTrim + m, leafMove := 0 })).inc TMU_TREE_TRIM_MOVES) allTiles

/-- A domain other than d returns and is still being calibrated (R233). -/
def State.othersReturn (s : State) (d : Nat) : Bool := allDoms.any (fun k => decide (k ≠ d) && decide (s.domState k = 3) && (s.domSt k).recal.isNone)

/-- R221: the leaves of returning domain d have been measured against d_max. -/
def execReturnCalDone (d : Nat) (delays : List (Option Nat)) (s : State) : Host.Outcome State Fault Refusal :=
  .next (if s.inReset || decide (8 ≤ d) || decide (s.domState d ≠ 3) || (s.domSt d).recal.isSome then s
  else
    let s := s.forEach (fun s k =>
      let t := 12 * d + k
      match delays.getD k none with
      | some x =>
        let trim := leafTrimOf s.tmu.dMax x
        if trim ≤ 255 then s.modTile t (fun tl => { tl with leafOk := true, leafTrim := (trim : Nat) })
        else s.modTile t (fun tl => { tl with leafOk := false })
      | none => s.modTile t (fun tl => { tl with leafOk := false })) (List.range 12)
    let ok := (List.range 12).all (fun k => (s.tile (12 * d + k)).leafOk)
    let s := (s.setDomSt d { (s.domSt d) with recal := some ok }).setFlag TMU_TREE_CAL_BUSY 0 (s.othersReturn d)
    if !ok then s.raiseCond 614
    else if allTiles.all (fun t => (s.tile t).leafOk) then (s.setCause 614 false).setCause 615 false else s)

/-! ### Pulse outputs (R223 to R225) -/

/-- The staged width fits the staged period. (DESIGN CHOICE, log 24.) -/
def State.toutOk (s : State) (n : Nat) : Bool :=
  let p := s.reg TOUT_PERIOD_PERIOD n
  let w := s.reg TOUT_WIDTH_WIDTH n
  decide (4 ≤ w) && (decide (p = 0) || decide (w + 4 ≤ p))

/-- `TOUTn_CTRL.ARM`; it replaces an output that runs, a pulse in progress with it. (DESIGN CHOICE, log 24; DESIGN CHOICE, log 120.) -/
def State.toutArm (s : State) (n : Nat) : State :=
  let s := s.setFlag TOUT_CTRL_ARM n false
  let start := (s.reg TOUT_START_SEC_LO_SEC n + 2 ^ 32 * s.reg TOUT_START_SEC_HI_SEC n) * 1000000000 + s.reg TOUT_START_NS_NS n
  let p := s.reg TOUT_PERIOD_PERIOD n
  let soon := s.dt * unitsPerTick + 1000 * 65536
  let pulse : Pulse := { start := start, period := p, width := s.reg TOUT_WIDTH_WIDTH n, next := 0 }
  if !s.toutOk n then s.badWrite (TOUT_CTRL_ARM.offAt n)
  else if soon ≤ start * 65536 then s.setPulse n (some pulse)
  else if p = 0 then (s.setFlag TOUT_CTRL_LATE n true).raise 616
  else s.setPulse n (some { pulse with next := (soon - start * 65536 + (p * 65536 - 1)) / (p * 65536) })

/-- `TOUTn_CTRL.STOP`. -/
def State.toutStop (s : State) (n : Nat) : State :=
  let s := s.setFlag TOUT_CTRL_STOP n false
  match s.tmu.pulses.read none n with
  | none => s
  | some p => if p.fallAt.isNone then s.setPulse n none else s.setPulse n (some { p with stopping := true })

/-- R224. -/
def execToutArm (n : Nat) (s : State) : Host.Outcome State Fault Refusal := .next (if s.windowOpen && decide (n < 4) then s.toutArm n else s)
/-- R224. -/
def execToutStop (n : Nat) (s : State) : Host.Outcome State Fault Refusal := .next (if s.windowOpen && decide (n < 4) then s.toutStop n else s)

/-- R223: the next edge of output n. -/
def execToutEdge (n : Nat) (s : State) : Host.Outcome State Fault Refusal :=
  .next (match s.tmu.pulses.read none n with
    | none => s
    | some p =>
      match p.fallAt with
      | some t =>
        let s := s.advance (t - s.tick)
        s.setPulse n (if p.stopping ∨ p.period = 0 then none else some { p with fallAt := none })
      | none =>
        let due := p.start + p.next * p.period
        let at' := nsUp due
        let s := s.advanceTo at'
        s.setPulse n (some { p with next := p.next + 1, fallAt := some (s.tick + (nsUp (due + p.width) - at')) }))

/-! ### Capture inputs (R226, R227) -/

def capDrop (n : Nat) : Fd := [TMU_CNT_CAP_CAP0, TMU_CNT_CAP_CAP1, TMU_CNT_CAP_CAP2, TMU_CNT_CAP_CAP3].getD n TMU_CNT_CAP_CAP0

/-- R226: an edge at DT `u`, in 2⁻¹⁶ ns, resolved to 6,400 units. -/
def execTcapEdge (n u : Nat) (fall : Bool) (s : State) : Host.Outcome State Fault Refusal :=
  let e := s.reg TCAP_CTRL_EDGE n
  .next (if s.inReset || decide (4 ≤ n) || !s.flag TCAP_CTRL_EN n || !bit e (b2n fall) then s
  else
    let t := (stampOf u).toNat
    let last := s.tmu.lastCap.read 0 n
    let l := s.tmu.caps.read [] n
    if last ≠ 0 ∧ t + 1 < last + 819200 then s.inc (capDrop n)
    else if 16 ≤ l.length then (s.setFlag TCAP_CTRL_OVF n true).inc (capDrop n)
    else
      let c : Cap := { dt := t, fall := fall }
      let s := { s with tmu := { s.tmu with caps := s.tmu.caps.write [] n (l ++ [c]), lastCap := s.tmu.lastCap.write 0 n (t + 1) } }
      (s.setReg TCAP_CTRL_LEVEL n (l.length + 1)).raise (617 + n))

end Sys2Proof.Machine
end

