-- ==== Sys2Proof/Machine/Fabric.lean ====
section
/-! DEFINITION. The fabric descriptor: its layout, its checks, and its reads over the FDI bus (R74 to R78, R239). -/

namespace Sys2Proof.Machine

open Reg

/-- Header of a descriptor, in bytes, and the length of the park table with its CRC. -/
abbrev descHeader : Nat := 512
abbrev parkTableLen : Nat := 49152

/-- `TILE_MASK` as a number. -/
def descTiles (b : List Byte) : Nat := le64 b 0x38 + 2 ^ 64 * le32 b 0x40

def Desc.ofBytes (b : List Byte) : Desc :=
  { tileMask := descTiles b, rowMask := le16s b 0x48 96, maxSpanPri := u8 b 0x108, maxSpanTrim := u8 b 0x109, cNode := le16 b 0x110,
    tempMin := signed 8 (u8 b 0x124), tempMax := signed 8 (u8 b 0x125), ntcMask := u8 b 0x126, ntcNominal := le16s b 0x128 8,
    ntcBeta := le16s b 0x138 8, parkPri := le16 b 0x10A, parkTrim := le16 b 0x10C,
    parkTable := if le32 b 0x148 = 0 then [] else le16s (b.drop 0x200) 0 24576, hdrCrc := le32 b 0x1FC }

/-- Checks 2 to 5 of R76 on the header: the code of the first that fails, or 0. -/
def headerErr (b : List Byte) : Nat :=
  if le32 b 0 ≠ 0x4449464B then 2
  else if le16 b 4 ≠ 1 ∨ le16 b 6 ≠ 0x200 then 3
  else if le32 b 0x1FC ≠ crc32 (b.take 0x1FC) then 4
  else if !zeros b 0x127 1 || !zeros b 0x14C 176 || decide (3 < le16 b 0x46) || decide (2 < u8 b 0x108) || decide (2 < u8 b 0x109) ||
      decide (le32 b 0x148 ≠ 0 ∧ le32 b 0x148 ≠ parkTableLen) then 8
  else 0

/-- Rows populated in tile t, by the masks. -/
def Desc.rows (d : Desc) (t : Nat) : Nat := (bitsOf 16 (d.rowMask.getD t 0)).length

/-- Check 7: the masks and `ELEMENTS` agree. -/
def Desc.masksOk (d : Desc) (elements : Nat) : Bool :=
  allTiles.all (fun t => decide (bit d.tileMask t = decide (d.rows t ≠ 0))) && decide (elements = 8 * (allTiles.map d.rows).sum)

/-- Check 8: every field lies within the limits of R74. -/
def limitsOk (b : List Byte) (d : Desc) : Bool :=
  let upTo (o n : Nat) : Bool := decide (le16 b o ≤ n)
  let within (o lo hi : Nat) : Bool := decide (lo ≤ le16 b o) && upTo o hi
  within 0x44 8 12288 && upTo 0x10A 20000 && upTo 0x10C 20000 && within 0x10E 600 1400 && within 0x110 1 2600 && upTo 0x112 20000 &&
  upTo 0x114 15000 && upTo 0x116 6000 && upTo 0x118 4000 && upTo 0x11A 1000 && upTo 0x11C 14000 && within 0x11E 1 2500 &&
  upTo 0x120 100 && upTo 0x122 150 && decide (d.tempMin < d.tempMax) && d.parkTable.all (fun v => decide (v ≤ 20000))

/-- Checks 6 to 8 on a descriptor read in full. -/
def descErr (b : List Byte) : Nat :=
  let d := Desc.ofBytes b
  if !d.parkTable.isEmpty && decide (le32 b 0xC200 ≠ crc32 ((b.drop 0x200).take parkTableLen)) then 5
  else if !d.masksOk (le16 b 0x44) then 6
  else if !limitsOk b d then 7
  else 0

/-- The read ends. (DESIGN CHOICE, log 28.) -/
def State.endRead (s : State) : State :=
  (({ s with fab := { s.fab with rd := none } }).setFlag KFI_STATUS_READING 0 false).setFlag KFI_CTRL_DESC_REREAD 0 false

/-- R77, R78: a descriptor is refused; an earlier one stays in force. -/
def State.descRefused (s : State) (code : Nat) : State := (s.endRead.setReg KFI_STATUS_DESC_ERR 0 code).raiseCond 930

/-- Every plan and edit becomes not valid (R239). -/
def State.dropObjects (s : State) : State := { s with txn := { s.txn with plans := [], edits := [] } }

/-- The park store as the descriptor gives it. -/
def Desc.parkStore (d : Desc) : Tab Nat := (d.parkTable.zipIdx.filter (fun p => decide (p.1 ≠ 0))).map (fun p => (p.2, p.1))

/-- The domains that hold a populated tile (R70, R74). -/
def Desc.doms (d : Desc) : Nat := (List.range 8).foldl (fun m k => withBit m k (decide (d.tileMask / 2 ^ (12 * k) % 4096 ≠ 0))) 0

/-- R77: a descriptor is accepted. Domains without a populated tile are `UNAVAILABLE` (R579). -/
def State.descAccepted (s : State) (d : Desc) : State :=
  let s := if s.fab.desc.isSome then s.dropObjects else s
  let s := s.endRead
  let def' := if d.parkTable.isEmpty then (d.parkPri, d.parkTrim) else (0, 0)
  let s := { s with fab := { s.fab with desc := some d, parkDef := def', parkStore := d.parkStore, parkLoaded := true, parkDoms := d.doms } }
  let s := ((s.setReg KFI_STATUS_DESC_ERR 0 0).setFlag KFI_STATUS_DESC_VALID 0 true).setFlag KFI_STATUS_PARK_TABLE 0 (!d.parkTable.isEmpty)
  let s := (s.setReg KFI_DESC_CRC_CRC 0 d.hdrCrc).setCause 930 false
  s.showUnavailable.tryRun

/-- Go on with the bytes read so far: the header is checked first, and the park table is read only when it announces one (R76). -/
def State.descBytes (s : State) (b : List Byte) : State :=
  let more := { s with fab := { s.fab with rd := some { bytes := b, retries := 0 } } }
  if b.length < descHeader then more
  else
    let h := headerErr b
    let total := descHeader + (if le32 b 0x148 = 0 then 0 else parkTableLen + 4)
    if h ≠ 0 then s.descRefused h
    else if b.length < total then more
    else
      let b := b.take total
      let e := descErr b
      if e ≠ 0 then s.descRefused e else s.descAccepted (Desc.ofBytes b)

/-- A block read has failed once more; after three retries the descriptor is refused (R75, R76). -/
def State.descRetry (s : State) : State :=
  match s.fab.rd with
  | none => s
  | some r => if r.retries < 3 then { s with fab := { s.fab with rd := some { r with retries := r.retries + 1 } } } else s.descRefused 1

/-- R75: a block of at most 256 bytes has been read, or its read has failed. -/
def execDescriptorBlockDone (block : List Byte) (ok : Bool) (s : State) : Host.Outcome State Fault Refusal :=
  .next (match s.fab.rd with
    | none => s
    | some r => if ok then s.descBytes (r.bytes ++ block.take 256) else s.descRetry)

/-- R75: `FDI_SDA` has been held low for 35 ms; the clearance counts as one retry. -/
def execFdiBusClear (s : State) : Host.Outcome State Fault Refusal := .next s.descRetry

/-- R78: `KFI_CTRL.DESC_REREAD`. (DESIGN CHOICE, log 28.) In RECOVERY it is dropped. (DESIGN CHOICE, log 123.) -/
def State.reread (s : State) : State :=
  if s.reg KFI_STATUS_OWN ≠ 0 then (s.setFlag KFI_CTRL_DESC_REREAD 0 false).inc KFI_STATUS_REREAD_IGN
  else if s.fab.rd.isSome then s.setFlag KFI_CTRL_DESC_REREAD 0 true
  else if s.startup < 3 then s.setFlag KFI_CTRL_DESC_REREAD 0 false
  else (({ s with fab := { s.fab with rd := some {} } }).setFlag KFI_STATUS_READING 0 true).setFlag KFI_CTRL_DESC_REREAD 0 true

def execDescReread (s : State) : Host.Outcome State Fault Refusal := .next (if s.windowOpen then s.reread else s)

end Sys2Proof.Machine
end

