-- ==== Sys2Proof/Machine/Gcrp.lean ====
section
/-! DEFINITION. The GCRP engine: the checks of a request, its sequence decision, sessions, the requests and their responses
(R361 to R378). -/

namespace Sys2Proof.Machine

open Reg

/-! ### The message (R362 to R364) -/

def GcrpReq.type (r : GcrpReq) : Nat := u8 r.msg 1
def GcrpReq.flags (r : GcrpReq) : Nat := be16 r.msg 2
def GcrpReq.tenant (r : GcrpReq) : Nat := be16 r.msg 4 % 4096
def GcrpReq.session (r : GcrpReq) : Nat := be16 r.msg 6 % 16384
def GcrpReq.isNew (r : GcrpReq) : Bool := bit (be16 r.msg 6) 15
def GcrpReq.seq (r : GcrpReq) : Nat := be32 r.msg 8
def GcrpReq.dtValid (r : GcrpReq) : Bool := bit r.flags 0
/-- Body of the message. -/
def GcrpReq.body (r : GcrpReq) : List Byte := r.msg.drop 24

/-- The requested DT, extended with the high seconds of the present DT. -/
def State.gcrpDt (s : State) (r : GcrpReq) : DtField :=
  { sec := 4294967296 * be16 r.msg 14 + be32 r.msg 16 + s.now.sec / 2 ^ 48 * 2 ^ 48, ns := be32 r.msg 20 % 2 ^ 30, frac := 0,
    resvZero := decide (be32 r.msg 20 < 2 ^ 30) }

/-- Body length of a type (R363); none for a reserved or device type. -/
def GcrpReq.bodyLen (r : GcrpReq) : Option Nat :=
  match r.type with
  | 1 => some ((8 + 2 * u8 r.body 3 + 3) / 4 * 4)
  | 2 => some ((8 + 2 * u8 r.body 3 + 3) / 4 * 4)
  | 3 => some (4 + 4 * be16 r.body 0)
  | 4 => some 8
  | 5 => some 8
  | 6 => some 4
  | 7 => some 4
  | _ => none

/-- A count that the type does not allow: claims above 8, circuits outside 1 to 256. -/
def GcrpReq.countBad (r : GcrpReq) : Bool :=
  match r.type with
  | 1 => decide (8 < u8 r.body 3)
  | 2 => decide (8 < u8 r.body 3)
  | 3 => decide (be16 r.body 0 = 0 ∨ 256 < be16 r.body 0)
  | _ => false

/-- Output claims of a PLAN_SELECT or EDIT_APPLY. -/
def GcrpReq.claims (r : GcrpReq) : List Nat := (List.range (u8 r.body 3)).map (fun k => be16 r.body (8 + 2 * k))

/-- The layouts of PLAN_SELECT and EDIT_APPLY hold what R364 admits, their `OBJECT` and `DOM_MASK` apart. -/
def GcrpReq.changeBad (r : GcrpReq) : Bool :=
  !zeros r.body 4 4 || r.claims.any (fun c => decide (4095 < c)) || !zeros r.body (8 + 2 * u8 r.body 3) 2

/-- A field of the body is outside its limit, or a reserved field is not 0 (R364). (DESIGN CHOICE, log 36.) -/
def GcrpReq.bodyBad (r : GcrpReq) : Bool :=
  let b := r.body
  match r.type with
  | 1 => r.changeBad || decide (255 < be16 b 0) || decide (u8 b 2 = 0)
  | 2 => r.changeBad || decide (4095 < be16 b 0) || decide (u8 b 2 ≠ 0)
  | 3 => !zeros b 2 2 || (List.range (be16 b 0)).any (fun k => decide (getBits (be32 b (4 + 4 * k)) 24 7 ≠ 0))
  | 4 =>
    let a := be32 b 4
    !zeros b 1 3 || (if u8 b 0 = 2 then decide (getBits a 14 2 ≠ 0) || decide (getBits a 25 7 ≠ 0) || decide (getBits a 16 9 = 0) ||
      decide (256 < getBits a 16 9) || decide (12288 < a % 16384 + getBits a 16 9) else decide (a ≠ 0))
  | 5 => !zeros b 2 2
  | 6 => !zeros b 0 4
  | _ => false

/-- A field of the header is outside its limit, or a reserved field is not 0 (R362). `NEW` belongs to SESSION_OPEN only. -/
def State.headerBad (s : State) (r : GcrpReq) : Bool :=
  decide (8 ≤ r.flags) || bit r.flags 1 || decide (4096 ≤ be16 r.msg 4) || bit (be16 r.msg 6) 14 || (r.isNew && decide (r.type ≠ 5)) ||
  (if r.dtValid then !(s.gcrpDt r).ok else !zeros r.msg 14 10)

/-- `DETAIL` of the first check of R365 that ends with BAD_OBJECT (R367). (DESIGN CHOICE, log 36.) -/
def State.gcrpDetail (s : State) (r : GcrpReq) : Option Nat :=
  match r.bodyLen with
  | none => some 3
  | some n =>
    if r.type = 4 ∧ 3 < u8 r.body 0 then some 3
    else if be16 r.msg 12 ≠ 24 + n ∨ r.msg.length ≠ 24 + n ∨ r.countBad then some 4
    else if s.headerBad r || r.bodyBad then some 5 else none

/-! ### Responses (R366) -/

/-- Role as QUERY and SESSION_OPEN give it. -/
def State.roleByte (s : State) : List Byte := leBytes 1 s.role

/-- Bytes after the prefix of the response to a request that carries no further data. (DESIGN CHOICE, log 38.) -/
def State.plainExtra (s : State) (r : GcrpReq) : List Byte :=
  match r.type with
  | 1 => txnExtra none 0 0xFFFF
  | 2 => txnExtra none 0 0xFFFF
  | 4 => leBytes 1 (u8 r.body 0) ++ leBytes 3 0
  | 5 => leBytes 2 0 ++ leBytes 1 (s.reg CPX_STATUS_LIVE_VER) ++ s.roleByte ++ (r.body.drop 4).take 4
  | 7 => r.body.take 4 ++ dt10 s.now ++ leBytes 2 0
  | _ => []

/-- Answer request r of session i. (DESIGN CHOICE, log 38.) -/
def State.answer (s : State) (i : Nat) (r : GcrpReq) (st : Status) (detail : Nat) (extra : List Byte) : State :=
  s.respond i r.seq (Nat.lor r.type 0x80 - 0x80) st detail 0xFFFF extra

/-- Request r as twin forwarding carries it (R433, origin 2). -/
def GcrpReq.fwdData (r : GcrpReq) : List Byte :=
  leBytes 1 r.port ++ leBytes 1 r.ntags ++ beBytes 4 r.tags ++ beBytes 6 r.srcMac ++ beBytes 16 r.srcAddr ++ beBytes 2 r.srcPort ++
    leBytes 2 0 ++ r.msg

/-- Forward a request that ends without having entered admission (R439). -/
def State.fwdGcrp (s : State) (r : GcrpReq) : State := s.forwardCmd 2 0 0xFFFF r.fwdData

/-- The request ends with a status at once. -/
def State.gcrpEnd (s : State) (i : Nat) (r : GcrpReq) (st : Status) (detail : Nat) : State :=
  (s.fwdGcrp r).answer i r st detail (s.plainExtra r)

/-! ### The sequence decision (R372) -/

/-- What the sequence decision says of a request. -/
inductive SeqDecision where
  | accepted (x : Sess)
  | duplicate
  | stale
  deriving DecidableEq, Repr

/-- The decision for sequence `seq` on record x, with the record after it. -/
def Sess.decideSeq (x : Sess) (seq : Nat) : SeqDecision :=
  let d := signed 32 (seq + (2 ^ 32 - x.rxLast % 2 ^ 32))
  if 0 < d then
    let n := d.toNat
    let win := if 32 < n then 0 else (x.rxWin * 2 ^ n + 2 ^ (n - 1)) % 2 ^ 32
    .accepted { x with rxLast := seq, rxWin := win }
  else if d < -32 then .stale
  else
    let k := (-d - 1).toNat
    if d = 0 ∨ bit x.rxWin k then .duplicate else .accepted { x with rxWin := withBit x.rxWin k true }

/-- An accepted request refreshes its record from its frame. -/
def Sess.refresh (x : Sess) (r : GcrpReq) (tick : Nat) : Sess :=
  { x with port := r.port, ntags := r.ntags, tags := r.tags, srcMac := r.srcMac, ageAt := tick }

/-! ### Sessions (R370, R371, R373) -/

/-- The index that a SESSION_OPEN reuses. -/
def State.reuseIndex (s : State) (r : GcrpReq) : Option Nat :=
  (s.cpx.sessions.find? (fun p => p.2.isOpen && decide (p.2.srcAddr = r.srcAddr) && decide (p.2.srcPort = r.srcPort) &&
    decide (p.2.tenant = r.tenant))).map Prod.fst

/-- The lowest index with no valid record, in a table sorted by index. -/
def lowestFree : Nat → Tab Sess → Nat
  | n, [] => n
  | n, (k, x) :: t => if k = n ∧ x.valid then lowestFree (n + 1) t else n

/-- `IDLE_AGE` of a record. (DESIGN CHOICE, log 49.) -/
def Sess.idleAge (x : Sess) (tick : Nat) : Nat := min 65535 ((tick - x.ageAt) / tenthTicks)

/-- The granted idle time. -/
def State.grantIdle (s : State) (req : Nat) : Nat :=
  let top := s.reg CPX_GCRP_SESS_IDLE_MAX
  if 1 ≤ req ∧ req ≤ top then req else top

/-- Answer an open on its session. -/
def State.openDone (s : State) (i : Nat) (r : GcrpReq) : State :=
  s.answer i r .done 0 (beBytes 2 (s.sess i).idle ++ leBytes 1 (s.reg CPX_STATUS_LIVE_VER) ++ s.roleByte ++ (r.body.drop 4).take 4)

/-- A refused open is answered with `SESSION` = 0x8000, to where it came from. It has no session, so its `SEQ` is 0. (DESIGN CHOICE, log 37.) -/
def State.openRefused (s : State) (r : GcrpReq) (st : Status) (detail : Nat) : State :=
  let x : Sess := { srcAddr := r.srcAddr, srcPort := r.srcPort, port := r.port, ntags := r.ntags, tags := r.tags, srcMac := r.srcMac, ipv6 := r.ipv6 }
  let msg := gcrpMsg 0x85 2 r.tenant 0x8000 0 (respPrefix r.seq st detail 0xFFFF ++ s.plainExtra r)
  if s.role = roleStandby then s
  else
    let s := (s.fwdGcrp r).emitGcrp x msg
    if s.forwards then s.sendTl 5 (beBytes 2 0x8000 ++ leBytes 2 0 ++ msg) else s

/-- The cause of source 639 follows the sessions open (R536). -/
def State.sessFull (s : State) : State :=
  s.setCause 639 (decide ((s.cpx.sessions.filter (fun p => p.2.isOpen)).length = 16384))

/-- Write the record of an open. (DESIGN CHOICE, log 37.) -/
def State.openAt (s : State) (i : Nat) (r : GcrpReq) (tx : Nat) : State :=
  let x : Sess := { srcAddr := r.srcAddr, srcPort := r.srcPort, tenant := r.tenant, cls := 0, rxLast := r.seq, rxWin := 0, txSeq := tx,
                    valid := true, port := r.port, ipv6 := r.ipv6, ntags := r.ntags, tags := r.tags, srcMac := r.srcMac,
                    idle := s.grantIdle (be16 r.body 0), ageAt := s.tick }
  ((((s.fwdGcrp r).setSess i x).inc GCRP_CNT3_OPENS).sessPeak.sessFull).openDone i r

/-- A SESSION_OPEN that passes R365 (R371). -/
def State.openSession (s : State) (r : GcrpReq) : State :=
  if !(s.tenant r.tenant).en then s.openRefused r .badObject 6
  else match s.reuseIndex r with
    | some i => if (s.sess i).rxLast = r.seq then s.openDone i r else s.openAt i r (s.sess i).txSeq
    | none =>
      let i := lowestFree 0 s.cpx.sessions
      if 16384 ≤ i then (((s.setFlag CPX_SESS_FULL 0 true).sessFull).raise 639).openRefused r .badObject 1 else s.openAt i r 0

/-! ### QUERY (R366, R378) -/

/-- Bits of a list of numbers as bytes, bit n in byte n ÷ 8. -/
def bitmap (n : Nat) (f : Nat → Bool) : List Byte :=
  (List.range n).map (fun i => BitVec.ofNat 8 ((List.range 8).foldl (fun a b => a + 2 ^ b * b2n (f (8 * i + b))) 0))

/-- Data of a QUERY of session i. -/
def State.queryData (s : State) (i : Nat) (r : GcrpReq) : List Byte :=
  let a := be32 r.body 4
  match u8 r.body 0 with
  | 0 => s.roleByte ++ leBytes 1 (s.reg TMU_STATUS_SERVO_STATE) ++
      leBytes 1 (s.reg TMU_STATUS_TRACEABLE + 2 * s.reg TXN_STATUS_SAFETY_HOLD + 4 * s.reg TXN_STATUS_QUENCH_BUSY) ++
      leBytes 1 (s.reg CPX_STATUS_LIVE_VER) ++ leBytes 1 (s.reg KFI_STATUS_OWN) ++
      leBytes 1 (allDoms.foldl (fun m d => withBit m d (s.domHeld d)) 0) ++ leBytes 2 0 ++ dt10 s.now ++ leBytes 2 0
  | 1 =>
    let x := s.sess i
    beBytes 4 x.rxLast ++ beBytes 4 x.rxWin ++ beBytes 4 x.txSeq ++ beBytes 2 (x.idleAge s.tick) ++ leBytes 1 x.cls ++ leBytes 1 0
  | 2 => (List.range (getBits a 16 9)).flatMap (fun k =>
      let g := a % 16384 + k
      let l := (s.tile (tileOf g)).lane (elemOf g)
      beBytes 2 l.rT ++ leBytes 1 (l.mode.code + 8 * b2n l.tgtValid + 16 * b2n l.reacq) ++ leBytes 1 0)
  | _ => bitmap 32 (fun n => decide (n = 0) || (s.plan n).isSome) ++ bitmap 512 (fun n => (s.edit n).isSome)

/-! ### The engine (R365, R372, R375 to R378) -/

/-- PLAN_SELECT or EDIT_APPLY of session i enters admission (R376). -/
def State.changeRequest (s : State) (i : Nat) (r : GcrpReq) : State :=
  let d := s.gcrpDt r
  let obj := be16 r.body 0
  s.admArrive { src := .partner i r.seq r.type, tenant := r.tenant, cls := r.setClass.getD (s.sess i).cls, order := i,
                plan := if r.type = 1 then some (obj, u8 r.body 2) else none, edits := if r.type = 1 then [] else [obj], claims := r.claims,
                commit := if r.dtValid then some (d.units, d.tick) else none, fwd := (2, r.fwdData) }

/-- CIRCUIT of session i (R377). -/
def State.circuit (s : State) (i : Nat) (r : GcrpReq) : State :=
  if s.recvRoom r.ring then ((s.fwdGcrp r).postRecv r.ring 0 r.result r.frame).answer i r .queued 0 []
  else (s.raiseOut 638 .internal).gcrpEnd i r .internal 2

/-- A request of session i that passes R365 and the role check. -/
def State.gcrpDo (s : State) (i : Nat) (r : GcrpReq) : State :=
  match r.type with
  | 1 => s.changeRequest i r
  | 2 => s.changeRequest i r
  | 3 => s.circuit i r
  | 4 => (s.fwdGcrp r).answer i r .done 0 (leBytes 1 (u8 r.body 0) ++ leBytes 3 0 ++ s.queryData i r)
  | 6 => ((s.fwdGcrp r).answer i r .done 0 []).endSession i
  | _ => (s.fwdGcrp r).answer i r .done 0 (s.plainExtra r)

/-- Types that a `RESIGNED` device serves (R375). -/
def servedResigned (type : Nat) : Bool := decide (type = 4 ∨ type = 6 ∨ type = 7)

/-- Check a request in the order of R18 (R365, R375). -/
def State.gcrpCheck (s : State) (r : GcrpReq) : Option (Status × Nat) :=
  if u8 r.msg 0 ≠ 1 then some (.badVersion, 0)
  else match s.gcrpDetail r with
    | some d => some (.badObject, d)
    | none => if s.role = roleResigned ∧ !servedResigned r.type then some (.notActive, 0) else none

/-- A request with `SRES` HIT (R372). -/
def State.gcrpHit (s : State) (r : GcrpReq) : State :=
  let i := r.session
  let x := s.sess i
  if !x.isOpen then s.inc GCRP_CNT1_SESS_GONE
  else match x.decideSeq r.seq with
    | .duplicate => s.inc GCRP_CNT0_DUPLICATE
    | .stale => s.inc GCRP_CNT0_STALE
    | .accepted x =>
      let s := s.setSess i (x.refresh r s.tick)
      match s.gcrpCheck r with
      | some (st, d) => s.gcrpEnd i r st d
      | none => s.gcrpDo i r

/-- A SESSION_OPEN (R371). (DESIGN CHOICE, log 37.) -/
def State.gcrpOpen (s : State) (r : GcrpReq) : State :=
  match s.gcrpCheck r with
  | some (st, d) => s.openRefused r st d
  | none => s.endQuarantine.openSession r

/-- The GCRP engine takes a request. In label mode, and outside `RUN`, none reaches it (R356, R375). -/
def State.gcrpTake (s : State) (r : GcrpReq) : State :=
  if !s.running || !s.flag CPX_CTRL_MODE_LIVE then s
  else if r.sres = 2 then
    let s := s.inc GCRP_CNT1_SESS_MISS
    if u8 r.msg 0 = 1 then s else s.inc GCRP_CNT2_BAD_VER
  else if s.role = roleStandby then s.inc GCRP_CNT2_STBY_DISCARD
  else if r.sres = 0 then s
  else if s.holdsSessions then s.holdReq (.partner r)
  -- Stage 3 matched a session that has ended since (R373).
  else if r.sres = 1 ∧ !(s.sess r.session).isOpen then s.inc GCRP_CNT1_SESS_GONE
  else if r.type = 5 then s.gcrpOpen r
  else if r.sres = 1 then s.gcrpHit r
  else s

/-- A row of one type: a request of another type is not this row's. (DEDUCED, log 35.) -/
def State.gcrpRow (s : State) (type : Nat) (r : GcrpReq) : State := if r.type = type then s.gcrpTake r else s

/-- R376. -/
def execPlanSelect (r : GcrpReq) (s : State) : Host.Outcome State Fault Refusal := .next (s.gcrpRow 1 r)
/-- R376. -/
def execEditApply (r : GcrpReq) (s : State) : Host.Outcome State Fault Refusal := .next (s.gcrpRow 2 r)
/-- R377. -/
def execCircuit (r : GcrpReq) (s : State) : Host.Outcome State Fault Refusal := .next (s.gcrpRow 3 r)
/-- R378. -/
def execQuery (r : GcrpReq) (s : State) : Host.Outcome State Fault Refusal := .next (s.gcrpRow 4 r)
/-- R371. -/
def execSessionOpen (r : GcrpReq) (s : State) : Host.Outcome State Fault Refusal := .next (s.gcrpRow 5 r)
/-- R373. -/
def execSessionClose (r : GcrpReq) (s : State) : Host.Outcome State Fault Refusal := .next (s.gcrpRow 6 r)
/-- R378. -/
def execHeartbeat (r : GcrpReq) (s : State) : Host.Outcome State Fault Refusal := .next (s.gcrpRow 7 r)

/-! ### Idle expiry (R373) -/

/-- Session i closes for idle expiry (R373). -/
def State.idleClose (s : State) (i : Nat) : State := (((s.forwardClose i 1).closeNotice i 1).endSession i).sessFull

/-- R373: session i has been idle for its granted time. A standby waits for its active. -/
def execSessionIdleExpiry (i : Nat) (s : State) : Host.Outcome State Fault Refusal :=
  .next (let x := s.sess i
    if s.inReset || !x.isOpen || decide (s.role = roleStandby) then s
    else
      let s := s.advance (x.ageAt + 10 * x.idle * tenthTicks - s.tick)
      if s.holdsSessions then s.holdReq (.closure i 1) else s.idleClose i)

end Sys2Proof.Machine
end

