-- ==== Sys2Proof/Machine/ControlPlane.lean ====
section
/-! DEFINITION. The control ports: links, ingress, the classification stages, reordering, rule versions, actions, the transparent clock,
and ARP and neighbour answers (R343 to R360, R214 to R216). -/

namespace Sys2Proof.Machine

open Reg

/-! ### Links (R343, R346, R379) -/

/-- Send a frame of a class out of port n. -/
def State.txFrame (s : State) (n cls : Nat) (event : Bool) (b : List Byte) : State :=
  s.transmit { port := n, cls := cls, len := b.length, since := s.tick, event := event, what := .frame n b }

/-- What waits for port n leaves from now on. -/
def State.flushEgress (s : State) (n : Nat) : State :=
  ({ s with cpx := { s.cpx with busy := s.cpx.busy.write 0 n (max (s.cpx.busy.read 0 n) s.tick) } }).egress n

/-- The PCS conditions of port n; `UP` and what follows from its change. -/
def State.setLink (s : State) (n : Nat) (lock ber fec : Bool) : State :=
  let s := s.egress n
  let s := ((s.setFlag CP_STATUS_BLOCK_LOCK n lock).setFlag CP_STATUS_HI_BER n ber).setFlag CP_STATUS_FEC_LOCK n fec
  let up := s.flag CP_CTRL_EN n && lock && !ber && (!s.flag CP_CTRL_FEC_EN n || fec)
  if up = s.portUp n then s
  else
    let s := (s.setFlag CP_STATUS_UP n up).setFlag CP_STATUS_UP_CHG n true
    if up then (s.setCause (632 + n) false).flushEgress n else s.raiseCond (632 + n)

/-- R343: port n comes up. -/
def execLinkUp (n : Nat) (s : State) : Host.Outcome State Fault Refusal :=
  .next (if s.inReset || decide (2 ≤ n) then s else s.setLink n true false (s.flag CP_CTRL_FEC_EN n))

/-- R343: port n goes down, with the PCS conditions that it then shows. -/
def execLinkDown (n : Nat) (lock ber fec : Bool) (s : State) : Host.Outcome State Fault Refusal :=
  .next (if s.inReset || decide (2 ≤ n) || (lock && !ber && (!s.flag CP_CTRL_FEC_EN n || fec)) then s else s.setLink n lock ber fec)

/-- What follows a write of `CPn_CTRL`: a port that is disabled, or whose `FEC_EN` changes, loses its link; one that is enabled is up
with the conditions that its PCS has. (DESIGN CHOICE, log 43.) -/
def State.cpCtrl (fecBefore : Bool) (n : Nat) (s : State) : State :=
  if !s.flag CP_CTRL_EN n || decide (s.flag CP_CTRL_FEC_EN n ≠ fecBefore) then s.setLink n false false false
  else s.setLink n (s.flag CP_STATUS_BLOCK_LOCK n) (s.flag CP_STATUS_HI_BER n) (s.flag CP_STATUS_FEC_LOCK n)

/-! ### The transparent clock and FORWARD (R214 to R216, R347) -/

/-- Correct the PTP header at o of a frame by `x` and repair its UDP checksum; counts a saturation. (DESIGN CHOICE, log 41.) -/
def State.tcCorrect (s : State) (f : List Byte) (p : Parsed) (o : Nat) (x : Int) : State × List Byte :=
  let sum := signed 64 (be64 f (o + 8)) + x
  let sat := decide (0x7FFFFFFFFFFFFFFF < sum)
  let new := beBytes 8 (unsigned 64 (if sat then 0x7FFFFFFFFFFFFFFF else sum))
  let old := (f.drop (o + 8)).take 8
  let f' := f.take (o + 8) ++ new ++ f.drop (o + 16)
  let f' := match p.udp with
    | some u =>
      let c := be16 f (u + 6)
      if p.l3 = 1 ∧ c = 0 then f' else f'.take (u + 6) ++ beBytes 2 (csumUpdate c (sum16 old) (sum16 new)) ++ f'.drop (u + 8)
    | none => f'
  (if sat then s.inc TMU_CNT_TC_TC_SAT else s, f')

/-- What the transparent clock makes of a frame that is forwarded; none when it is not forwarded. -/
def State.tcForward (s : State) (w : InFlight) : State × Option (List Byte) :=
  let f := noFcs w.frame
  let mode := s.reg TMU_CTRL_TC_MODE
  let p := parseFrame f (s.reg CPX_GCRP_GCRP_PORT)
  if mode = 0 then (s, some w.frame)
  else match p.ptp with
    | none => (if p.deep && p.udp.isNone then s.inc TMU_CNT_TC_TC_UNPARSED else s, some w.frame)
    | some o =>
      let ty := u8 f o % 16
      if f.length < o + 34 then (s.inc TMU_CNT_TC_TC_UNPARSED, some w.frame)
      else if mode = 1 then
        if ty = 0 ∨ ty = 1 then
          let (s, f') := s.tcCorrect f p o (s.egressAt w.tx - w.rx)
          (s, some (withFcs f'))
        else (s, some w.frame)
      else if ty = 2 ∨ ty = 3 ∨ ty = 10 then (s, none)
      else if ty = 0 then
        let (s, f') := s.tcCorrect f p o (s.egressAt w.tx - w.rx + s.tmu.peer.read 0 w.port)
        (s, some (withFcs f'))
      else (s, some w.frame)

/-- A PTP event message that the transparent clock forwards: it leaves ahead of other traffic (R215). -/
def State.tcEvent (s : State) (w : InFlight) : Bool :=
  let f := noFcs w.frame
  decide (s.reg TMU_CTRL_TC_MODE ≠ 0) && (match (parseFrame f (s.reg CPX_GCRP_GCRP_PORT)).ptp with
    | some o => decide (u8 f o % 16 < 4)
    | none => false)

/-- FORWARD out of the other port: in class 1 a PTP event message, in class 3 any other frame that its queue has room for (R346, R347). -/
def State.forward (s : State) (w : InFlight) : State :=
  if !s.flag CPX_CTRL_CHAIN_LIVE then s.inc CPX_CNT3_FWD_OFF
  else
    let n := 1 - w.port
    let event := s.tcEvent w
    let (s, b) := s.tcForward w
    match b with
    | none => s
    | some b =>
      let s := s.egress n
      if event then s.txFrame n 1 true b
      else if s.egressRoom n b.length then s.txFrame n 3 false b
      else s.txDrop n

/-- R215: a forwarded event message has waited 20 µs for port p and is dropped. -/
def State.eventTimeout (s : State) (p : Nat) : State :=
  match s.cpx.egress.find? (fun o => decide (o.port = p) && o.event) with
  | some o =>
    let s := (s.advance (o.since + usTicks 20 - s.tick)).egress p
    if o ∈ s.cpx.egress then ({ s with cpx := { s.cpx with egress := s.cpx.egress.erase o } }).txDrop p else s
  | none => s

/-- R215: a forwarded event message could not leave port p within 20 µs. -/
def execTcEgressTimeout (p : Nat) (s : State) : Host.Outcome State Fault Refusal :=
  .next (if s.inReset || decide (2 ≤ p) then s else s.eventTimeout p)

/-! ### Copies (R355, R356, R417) -/

/-- An instant in 2⁻¹⁶ ns as a DT. -/
def dtOfUnits (u : Int) : DtField :=
  let n := u.toNat
  { sec := n / 65536000000000, ns := n / 65536 % 1000000000, frac := n % 65536 }

/-- `RESULT` of a receive completion. -/
def Waiting.result (w : Waiting) (lClass lColour lQueue : Nat) (mirror label : Bool) : List Byte :=
  leBytes 2 w.frame.frame.length ++ leBytes 1 w.proto ++ leBytes 1 (w.frame.port + 2 * w.sres + 8 * lClass + 64 * lColour) ++
  leBytes 1 w.frame.ver ++ leBytes 1 (lQueue + 16 * b2n mirror + 32 * b2n label + 64 * b2n w.malformed + 128 * b2n w.deep) ++ leBytes 2 0 ++
  dt12 (dtOfUnits w.frame.rx) ++ leBytes 4 0

/-- Status of a receive completion. -/
def Waiting.status (w : Waiting) : Nat := if w.malformed then Status.malformed.code else if w.deep then Status.parseDeep.code else Status.done.code

/-- Copy to a host ring; a full destination drops the copy. (DESIGN CHOICE, log 42.) -/
def State.copyRing (s : State) (w : Waiting) (r : Nat) (result : List Byte) : State :=
  if s.recvRoom r then s.postRecv r w.status result w.frame.frame
  else
    let s := s.inc CPX_CNT3_COPY_DROP
    if r ∈ s.cpx.full then s else ({ s with cpx := { s.cpx with full := r :: s.cpx.full } }).raiseCond 637

/-- Copy to the supervisor's inbound queue of 256 frames, with all that a host ring's copy carries. (DESIGN CHOICE, log 42.) -/
def State.copySuper (s : State) (w : Waiting) : State :=
  if s.cpx.superQ.length < 256 then { s with cpx := { s.cpx with superQ := s.cpx.superQ ++ [(w.status, w.result 0 0 0 false false, w.frame.frame)] } }
  else
    let s := s.inc CPX_CNT3_COPY_DROP
    if s.cpx.superFull then s else ({ s with cpx := { s.cpx with superFull := true } }).raise 931

/-- A frame reaches the GCRP engine, when its protocol entry had `GCRP` = 1. (DEDUCED, log 35.) -/
def State.copyEngine (s : State) (w : Waiting) (a : Act) : State :=
  match w.req with
  | some r =>
    if w.gcrp then s.gcrpTake { r with sres := w.sres, setClass := if a.setClass then some a.cls else none, ring := a.ring,
                                       frame := w.frame.frame, result := w.result 0 0 0 false false }
    else s.inc CPX_CNT3_COPY_DROP
  | none => s.inc CPX_CNT3_COPY_DROP

/-- What the stages decided takes place (R355, R356). (DESIGN CHOICE, log 41.) -/
def State.frameAct (s : State) (w : Waiting) : State :=
  match w.what with
  | .drop => s
  | .supervisor => s.copySuper w
  | .label a =>
    let r := s.reg CPX_LQ_RING a.lQueue
    if r = 0 then s.inc CPX_CNT3_COPY_DROP else s.copyRing w r (w.result a.lClass a.lColour a.lQueue false true)
  | .act a =>
    let s := match a.action, a.dest with
      | 0, _ => s
      | 1, _ => s.forward w.frame
      | _, 0 => s.copyEngine w a
      | _, 1 => s.copyRing w a.ring (w.result a.lClass a.lColour a.lQueue false false)
      | _, _ => s.copySuper w
    if a.mirror then s.copyRing w a.mirrorRing (w.result a.lClass a.lColour a.lQueue true false) else s

/-! ### Stages 2 to 4 (R351 to R354) -/

def ternary (key k m : Nat) : Bool := decide (Nat.land key m = Nat.land k m)

/-- Count a hit of entry i. -/
def hit (t : Tab Nat) (i : Nat) : Tab Nat := t.write 0 i (min (2 ^ 32 - 1) (t.read 0 i + 1))
def State.hitProto (s : State) (i : Nat) : State := { s with cpx := { s.cpx with protoHits := hit s.cpx.protoHits i } }
def State.hitAct (s : State) (i : Nat) : State := { s with cpx := { s.cpx with actHits := hit s.cpx.actHits i } }

/-- The bank of the version that a frame carries. -/
def State.rulesOf (s : State) (ver : Nat) : Rules := if ver = s.reg CPX_STATUS_LIVE_VER then s.cpx.live else s.cpx.standby

/-- The request that a frame carries; its fields read 0 beyond the point where parsing stopped. -/
def InFlight.request (h : InFlight) (f : List Byte) (p : Parsed) : GcrpReq :=
  { port := h.port, ntags := p.ntags, tags := p.tags, srcMac := be48 f 6, srcAddr := p.srcAddr, srcPort := p.sport, ipv6 := decide (p.l3 = 2)
    msg := match p.gcrp, p.udp with
      | some g, some u => (f.drop g).take (be16 f (u + 4) - 8)
      | _, _ => [] }

/-- `SRES` (R352). -/
def State.sresOf (s : State) (r : GcrpReq) : Nat :=
  let x := s.sess r.session
  if r.isNew then 3 else if x.isOpen && decide (x.srcAddr = r.srcAddr) && decide (x.srcPort = r.srcPort) && decide (x.tenant = r.tenant) then 1 else 2

/-- The action key (R353). -/
def State.actKey (s : State) (h : InFlight) (p : Parsed) (pr : Proto) (sres : Nat) (r : GcrpReq) : Nat :=
  h.port + 2 * pr.protoId + 2 ^ 9 * pr.mdata + 2 ^ 25 * sres + (if p.gcrp.isSome then 2 ^ 27 * r.type + 2 ^ 35 * r.tenant else 0) +
  (if sres = 1 then 2 ^ 47 * (s.sess r.session).cls + 2 ^ 55 * r.session else 0) + 2 ^ 50 * b2n p.malformed + 2 ^ 51 * b2n p.deep +
  2 ^ 52 * b2n p.frag + 2 ^ 53 * b2n s.leads + 2 ^ 54 * s.reg CPX_CTRL_CHAIN_LIVE

/-- What an action entry does in the mode in force. -/
def State.inMode (s : State) (a : Act) : FrameDo := if s.flag CPX_CTRL_MODE_LIVE then .act a else .label a

/-- A PARSE_DEEP frame (R354). -/
def State.classifyDeep (s : State) (w : Waiting) : State × Waiting :=
  let s := s.inc CPX_CNT0_PARSE_DEEP
  if s.flag CPX_DEEP_USE_RULE then
    let i := s.reg CPX_DEEP_RULE
    (s.hitAct i, { w with what := s.inMode ((s.rulesOf w.frame.ver).acts.read {} i) })
  else (s, { w with what := .supervisor })

/-- Stages 2 to 4 for any other frame. -/
def State.classifyKey (s : State) (w : Waiting) (f : List Byte) (p : Parsed) : State × Waiting :=
  let h := w.frame
  let rules := s.rulesOf h.ver
  let key := p.key f h.port (s.portId h.port)
  let pe := rules.protos.find? (fun e => e.2.valid && ternary key e.2.key e.2.mask)
  let (s, pr) := match pe with
    | some (i, e) => (s.hitProto i, e)
    | none => (s, ({} : Proto))
  let r := h.request f p
  let sres := if pr.gcrp && !p.malformed && !p.frag then s.sresOf r else 0
  let k := s.actKey h p pr sres r
  let w := { w with proto := pr.protoId, gcrp := pr.gcrp, sres := sres, req := some r }
  match rules.acts.find? (fun e => e.2.valid && ternary k e.2.key e.2.mask && (!p.malformed || (bit e.2.mask 50 && bit e.2.key 50))) with
  | some (i, a) => (s.hitAct i, { w with what := s.inMode a })
  | none => (s.inc (if p.malformed then CPX_CNT0_MALFORMED else CPX_CNT1_NO_MATCH), w)

/-- Classification of a frame (R348 to R354). -/
def State.classify (s : State) (h : InFlight) : State × Waiting :=
  let f := noFcs h.frame
  let p := parseFrame f (s.reg CPX_GCRP_GCRP_PORT)
  let w : Waiting := { frame := h, what := .drop, since := s.tick, malformed := p.malformed, deep := p.deep }
  if !p.malformed && p.own (s.portId h.port) && p.csumBad f then (s.inc CPX_CNT1_CSUM_ERR, w)
  else if p.deep then s.classifyDeep w
  else s.classifyKey w f p

/-! ### Reordering and versions (R357, R360) -/

/-- The older version has drained: what waited for it proceeds. -/
def State.drainCheck (s : State) : State :=
  let v := s.reg CPX_STATUS_OLD_VER
  if s.flag CPX_STATUS_DRAINING && !(s.cpx.inside.any (fun f => decide (f.ver = v))) && !(s.cpx.reorder.any (fun w => decide (w.frame.ver = v) && !w.gone))
  then
    let s := s.setFlag CPX_STATUS_DRAINING 0 false
    (State.clsRun s.cpx.waitq s).commitWait
  else s

def State.releaseAt (s : State) (n : Nat) : Nat := s.cpx.release.read 0 n
def State.setRelease (s : State) (n v : Nat) : State := { s with cpx := { s.cpx with release := s.cpx.release.write 0 n (v % 65536) } }

/-- Release frames of port n in stamp order while the next one is there. -/
def State.releaseRun (n : Nat) : Nat → State → State
  | 0, s => s
  | k + 1, s =>
    let next := s.releaseAt n
    match s.cpx.reorder.find? (fun w => decide (w.frame.port = n) && decide (w.frame.stamp = next)) with
    | none => s
    | some w =>
      let s := ({ s with cpx := { s.cpx with reorder := s.cpx.reorder.erase w } }).setRelease n (next + 1)
      State.releaseRun n k (s.frameAct w)

/-- Release what can be released on port n. -/
def State.releasePort (s : State) (n : Nat) : State := (State.releaseRun n (s.cpx.reorder.length + 1) s).drainCheck

/-- A frame enters the reorder stage of its port; one whose stamp has been skipped is dropped. -/
def State.enterReorder (s : State) (w : Waiting) : State :=
  let n := w.frame.port
  if 32768 ≤ (w.frame.stamp + 65536 - s.releaseAt n) % 65536 then (s.inc CPX_CNT2_REORDER_SKIP).drainCheck
  else ({ s with cpx := { s.cpx with reorder := s.cpx.reorder ++ [w] } }).releasePort n

/-- A frame leaves its stages. -/
def State.frameOut (s : State) (h : InFlight) : State :=
  let (s, w) := s.classify h
  s.enterReorder w

/-- The frames that wait on port n, dropped ones apart. -/
def State.waitingOn (s : State) (n : Nat) : List Waiting := s.cpx.reorder.filter (fun w => decide (w.frame.port = n) && !w.gone)

/-- How many stamps lie before frame w on its port. -/
def State.behind (s : State) (w : Waiting) : Nat := (w.frame.stamp + 65536 - s.releaseAt w.frame.port) % 65536

/-- R357: the stamps before the lowest one that waits on port n are skipped 10 µs after the oldest frame there entered. (DESIGN CHOICE, log 41.) -/
def execReorderTimeout (n : Nat) (s : State) : Host.Outcome State Fault Refusal :=
  .next (match s.waitingOn n with
    | [] => s
    | w :: _ =>
      let s := s.advance (w.since + usTicks 10 - s.tick)
      let all := s.cpx.reorder.filter (fun w => decide (w.frame.port = n))
      let k := (all.map s.behind).foldl min 65536
      (((s.count CPX_CNT2_REORDER_SKIP 0 k).raise 635).setRelease n (s.releaseAt n + k)).releasePort n)

/-- Frames of a version leave the device undone; their stamps are released. -/
def State.dropVersion (s : State) (v : Nat) : State :=
  let inn := s.cpx.inside.filter (fun f => decide (f.ver = v))
  let re := s.cpx.reorder.filter (fun w => decide (w.frame.ver = v) && !w.gone)
  let ghosts : List Waiting := inn.map (fun f => { frame := f, what := .drop, since := s.tick })
  -- A stamp that was skipped has been released already.
  let ghosts := ghosts.filter (fun w => decide (s.behind w < 32768))
  let dead : List Waiting := s.cpx.reorder.map (fun w => if w.frame.ver = v then { w with what := .drop } else w)
  let s := { s with cpx := { s.cpx with inside := s.cpx.inside.filter (fun f => decide (f.ver ≠ v)), reorder := dead ++ ghosts } }
  let n := inn.length + re.length
  let s := s.count CPX_CNT2_VER_DROP 0 n
  if n = 0 then s else s.raise 636

/-- R360: the older version drains, or 20 µs pass after its commit. -/
def execVersionDrain (s : State) : Host.Outcome State Fault Refusal :=
  .next (if !s.flag CPX_STATUS_DRAINING then s
  else
    let s := s.advance (s.cpx.commitAt + usTicks 20 - s.tick)
    ((s.dropVersion (s.reg CPX_STATUS_OLD_VER)).releasePort 0).releasePort 1)

/-! ### Ingress (R344, R348, R358) -/

/-- The parser engine that the round robin deals the next frame to. -/
def State.nextEngine (s : State) : Option Nat :=
  ((List.range 4).map (fun k => (s.cpx.engine + k) % 4)).find? (fun e => bit (s.reg CPX_STATUS_ENG_OK) e)

/-- An accepted frame takes its two stamps. -/
def State.stampFrame (s : State) (f : RxFrame) : State × InFlight :=
  let n := s.cpx.stamp.read 0 f.port
  let h : InFlight := { port := f.port, stamp := n, ver := s.reg CPX_STATUS_LIVE_VER, frame := f.bytes, rx := stampOf f.rx, tx := f.tx }
  (({ s with cpx := { s.cpx with stamp := s.cpx.stamp.write 0 f.port ((n + 1) % 65536) } }).inc CP_CNT_RX_RX_FRAMES f.port, h)

/-- A frame leaves the stages in which it was held. -/
def State.heldOut (s : State) (n stamp : Nat) : State :=
  match s.cpx.inside.find? (fun h => decide (h.port = n) && decide (h.stamp = stamp)) with
  | some h => ({ s with cpx := { s.cpx with inside := s.cpx.inside.erase h } }).frameOut h
  | none => s

/-- An accepted frame is dealt to a parser engine. (DESIGN CHOICE, log 41.) -/
def State.dealFrame (s : State) (f : RxFrame) (h : InFlight) : State :=
  let none' (s : State) : State := (s.inc CP_CNT_DROP_ING_DROP f.port).enterReorder { frame := h, what := .drop, since := s.tick }
  match s.nextEngine with
  | none => none' s
  | some e =>
    let t := { s with cpx := { s.cpx with engine := (e + 1) % 4 } }
    match f.stage with
    | .noEngine => none' s
    | .held => { t with cpx := { t.cpx with inside := t.cpx.inside ++ [h] } }
    | .lost => (t.setReg CPX_STATUS_ENG_OK 0 (withBit (t.reg CPX_STATUS_ENG_OK) e false)).raiseCond 634
    | _ => t.frameOut h

/-- A PTP message of a type that the time receiver does not act upon: management, signalling, another receiver's Delay_Req, a reserved
type (R199). The other types come as commands of their own. (DEDUCED, log 118.) -/
def State.ptpOther (s : State) (n : Nat) (f : List Byte) : State :=
  match (parseFrame f (s.reg CPX_GCRP_GCRP_PORT)).ptp with
  | some o =>
    if s.running && s.flag TMU_CTRL_PTP_EN && decide (n = s.reg TMU_CTRL_PORT) && !decide (u8 f o % 16 ∈ [0, 2, 3, 8, 9, 10, 11])
    then s.inc TMU_CNT_MSG_MSG_IGNORED else s
  | none => s

/-- A port accepts the frame: its FCS is correct and it is not too long; otherwise it is counted (R344). -/
def State.acceptable (s : State) (n : Nat) (b : List Byte) : Bool × State :=
  if b.length < 18 ∨ le32 b (b.length - 4) ≠ crc32 (noFcs b) then (false, s.inc CP_CNT_ERR_FCS_ERR n)
  else if 2048 < b.length then (false, s.inc CP_CNT_ERR_OVERSIZE n)
  else (true, s)

/-- A frame arrives at a port that is up. (DEDUCED, log 35; DESIGN CHOICE, log 40; DESIGN CHOICE, log 44.) -/
def State.frameIn (s : State) (f : RxFrame) : State :=
  let s := if s.flag CP_CTRL_FEC_EN f.port
    then (s.count CP_CNT_FEC_FEC_CORR f.port f.fecCorr).count CP_CNT_FEC_FEC_UNCORR f.port f.fecBad else s
  let (ok, s) := s.acceptable f.port f.bytes
  if !ok then s
  else
    let (s, h) := (s.ptpOther f.port (noFcs f.bytes)).stampFrame f
    s.dealFrame f h

/-- R344. -/
def execFrameReceived (f : RxFrame) (s : State) : Host.Outcome State Fault Refusal :=
  .next (if s.inReset || decide (2 ≤ f.port) || !s.portUp f.port then s
  else match f.stage with
    | .left n => s.heldOut f.port n
    | _ => s.frameIn f)

/-! ### ARP and neighbour answers (R345) -/

/-- The tags of a frame as its answer repeats them. -/
def tagBytes (f : List Byte) (p : Parsed) : List Byte := (f.drop 12).take (4 * p.ntags)

/-- Send an answer to the sender of a frame, with its tags. -/
def State.sendAnswer (s : State) (n : Nat) (f : List Byte) (p : Parsed) (etype : Nat) (body : List Byte) : State :=
  let h := (f.drop 6).take 6 ++ beBytes 6 (s.portId n).mac ++ tagBytes f p ++ beBytes 2 etype ++ body
  s.txFrame n 2 false (withFcs (if h.length < 60 then padTo 60 h else h))

/-- The port answers: it is up, and `ND_EN` is 1. -/
def State.ndOn (s : State) (n : Nat) : Bool := !s.inReset && decide (n < 2) && s.portUp n && s.flag CPX_CTRL_ND_EN

/-- A frame that asks for an address arrives: the port accepts it as any other (R344, R385), and where it asks for an address of the port
it is answered. Every other frame goes on to the rules. (DESIGN CHOICE, log 43.) -/
def State.answered (s : State) (n : Nat) (b : List Byte) (asks : Bool) (f : State → State) : State :=
  if s.inReset || decide (2 ≤ n) || !s.portUp n then s
  else if (s.acceptable n b).1 && asks then f (s.inc CP_CNT_RX_RX_FRAMES n)
  else s.frameIn { port := n, bytes := b, rx := (s.dt * unitsPerTick : Nat), tx := (s.dt * unitsPerTick : Nat) }

/-- R345: an ARP request for the port's IPv4 address. (DESIGN CHOICE, log 43.) -/
def execArpRequest (n : Nat) (b : List Byte) (s : State) : Host.Outcome State Fault Refusal :=
  .next (
    let f := noFcs b
    let p := parseFrame f 0
    let o := p.l3off
    let ip := (s.portId n).v4
    let asks := s.ndOn n && !p.deep && decide (p.etype = 0x0806) && decide (be32 f o = 0x00010800) && decide (be32 f (o + 4) = 0x06040001) &&
      decide (ip ≠ 0) && decide (be32 f (o + 24) = ip)
    s.answered n b asks (fun s => s.sendAnswer n f p 0x0806 (beBytes 4 0x00010800 ++ beBytes 4 0x06040002 ++ beBytes 6 (s.portId n).mac ++
      beBytes 4 ip ++ (f.drop (o + 8)).take 10)))

/-- A neighbour advertisement: flags, target and its link-layer address, with the ICMPv6 checksum. (DESIGN CHOICE, log 43.) -/
def advertisement (src dst flags mac : Nat) : List Byte :=
  let m (c : Nat) : List Byte := leBytes 1 136 ++ leBytes 1 0 ++ beBytes 2 c ++ beBytes 4 flags ++ beBytes 16 src ++ leBytes 1 2 ++ leBytes 1 1 ++ beBytes 6 mac
  let sum := foldSum (sum16 (beBytes 16 src ++ beBytes 16 dst) + 32 + 58 + sum16 (m 0))
  beBytes 4 0x60000000 ++ beBytes 2 32 ++ leBytes 1 58 ++ leBytes 1 255 ++ beBytes 16 src ++ beBytes 16 dst ++ m (65535 - sum)

/-- The all-nodes group, to which a solicitation from the unspecified address is answered. -/
abbrev allNodes : Nat := 0xFF02 * 2 ^ 112 + 1

/-- R345: an IPv6 neighbour solicitation for the port's IPv6 address. (DESIGN CHOICE, log 43.) -/
def execNeighbourSolicitation (n : Nat) (b : List Byte) (s : State) : Host.Outcome State Fault Refusal :=
  .next (
    let f := noFcs b
    let p := parseFrame f 0
    let o := p.l3end
    let ip := (s.portId n).v6
    let asks := s.ndOn n && !p.deep && decide (p.l3 = 2) && decide (p.nxt = 58) && decide (u8 f (p.l3off + 7) = 255) && decide (be16 f o = 0x8700) &&
      decide (ip ≠ 0) && decide (be64 f (o + 8) * 2 ^ 64 + be64 f (o + 16) = ip)
    s.answered n b asks (fun s =>
      if p.src = 0 then s.sendAnswer n f p 0x86DD (advertisement ip allNodes 0x20000000 (s.portId n).mac)
      else s.sendAnswer n f p 0x86DD (advertisement ip p.src 0x60000000 (s.portId n).mac)))

end Sys2Proof.Machine
end

