-- ==== Sys2Proof/Machine/Txn.lean ====
section
/-! DEFINITION. Commands of the transaction controller: the end of STAGE, ARM, ABORT, reports, deadline, COMMIT, the end of bursts,
QUENCH and settle verification (chapter 7). -/

namespace Sys2Proof.Machine

open Reg

/-! ### STAGE, ARM and ABORT (R249 to R253) -/

/-- R252: the copy of the transaction in slot i is complete. -/
def execStageCopyDone (i : Nat) (s : State) : Host.Outcome State Fault Refusal :=
  .next (if i < 63 then s.stageCopied i else s)

/-- The checks of TXN_ARM in the order of R18; the reason when one is recorded. -/
def State.armChecks (s : State) (src : Src) (h : Nat) (d : DtField) : Option (Status × Nat) :=
  let c := d.tick
  let twin : Bool := match src with
    | .twin _ => true
    | _ => false
  match s.findHandle h with
  | none => some (.badObject, 2)
  | some i =>
    let t := s.slot i
    let rs := (if t.st = .staged then [] else [2]) ++ s.armReasons (some i) c t.tiles false
    (firstRefusal [(!rs.isEmpty, .badObject), (!s.mayAct src, .notActive), (!twin && s.late d.units c s.dt, .lateReject)]).map
      (fun st => (st, rs.headD 0))

/-- TXN_ARM for `src` (R253, R412). -/
def State.txnArm (s : State) (c : HostCmd) (src : Src) : State :=
  let h := le16 c.desc 8
  let d := s.dtArg c.desc 10
  s.withForm c src (!zeros c.desc 22 42 || !d.ok) false (fun s =>
    match s.armChecks src h d with
    | some (st, r) =>
      let s := if st = .badObject then s.txnErr (some h) r 0x7F else s
      s.refuse src st 0
    | none =>
      match s.findHandle h with
      | none => s
      | some i =>
        let s := s.modSlot i (fun t => { t with st := .arming, commit := some d.tick, deadline := d.tick - nsUp s.margin, reportSrc := src })
        let s := s.reply src .done 0 false (leBytes 2 h ++ leBytes 6 0 ++ dt12 (dtOf d.tick))
        let s := if s.role = roleStandby then s else s.armTiles i d.tick
        s.forwardHost h c)

/-- R253. -/
def execTxnArm (c : HostCmd) (s : State) : Host.Outcome State Fault Refusal :=
  .next (s.hostRow c 0x03 (fun c s => s.txnArm c c.src))

/-! ### Armed reports and the deadline (R254 to R258) -/

/-- R254, R255: the report of bank k of tile t registers in the time island, when every condition holds. -/
def execArmedReport (t k : Nat) (s : State) : Host.Outcome State Fault Refusal :=
  .next (
    let p := (s.tile t).pend k
    if t < 96 ∧ k < 2 ∧ p.st = .frozen ∧ s.condFail t k = none
    then s.modTile t (fun tl => tl.setPend k { p with st := .armed, report := some s.dt }) else s)

/-- The lowest tile of transaction i that is not armed at its deadline, with the reason (R257). -/
def State.notArmed (s : State) (i : Nat) : Option (Nat × Nat) :=
  let t := s.slot i
  let h := s.handle i
  t.tiles.findSome? (fun k => match (s.tile k).bankOf h with
    | none => some (k, 9)
    | some b => (s.armFail k b t.deadline).map (fun r => (k, r)))

/-! ### A commit in a tile (R258 to R260) -/

/-- Lane e of tile t is changed by a transaction that names it with a setpoint (R167). -/
def State.laneChanged (s : State) (t e : Nat) : Bool :=
  let tl := s.tile t
  match (tl.lane e).mode with
  | .feedback => true
  | .burst => true
  | .park => decide (s.effReg LOOP_CTRL_RUN t = 1) && (tl.lcfg.live.read {} e).loopEn && !s.parkHold t && decide (s.role ≠ roleResigned)
  | _ => false

/-- A lane takes the commit of a new setpoint (R161, R167, R259); one under a clear goes to `PARK` when its bursts would have ended (R99). -/
def Lane.commit (l : Lane) (r : Nat) (changed clr : Bool) (cP cT : Nat) (frame : Nat) : Lane :=
  if changed then
    { l with mode := .burst, reacq := false, rT := r, r := r, tgtValid := true, dark := false, uaP := cP, uaT := cT,
             cleared := clr || (decide (l.mode = .burst) && l.cleared),
             fbTo := if l.mode = .feedback then frame else l.fbTo, handover := false, freeze := false }
  else { l with rT := r, tgtValid := true }

/-- A lane takes the dark plan (R167, R240, R267); leaving `HOLD` clears the drift flag (R137). -/
def Lane.darken (l : Lane) (frame : Nat) : Lane :=
  { l with mode := .burst, reacq := false, freeze := false, dark := true, drift := false, driftRaised := false, fbTo := if l.mode = .feedback then frame else l.fbTo, handover := false }

/-- Element e of the tile takes the dark plan; a capture of R137 ends with its `HOLD`. -/
def Tile.darken (tl : Tile) (e : Nat) : Tile :=
  let was := (tl.lane e).mode
  let tl := tl.modLane e (fun l => l.darken tl.frame)
  if was = .hold then (tl.clearTap (2 * e)).clearTap (2 * e + 1) else tl

/-- Elements of the populated rows of tile t. -/
def State.popElems (s : State) (t : Nat) : List Nat := if s.populated t then allElems.filter (fun e => s.rowPop t (rowOf e)) else []

/-- The lanes of bank k of tile t as the commit leaves them, and the lanes to be verified (R167, R259, R261). -/
def State.commitLanes (s : State) (t k : Nat) : State × List Nat :=
  let s := if ((s.tile t).pend k).dark then s.abortSweep t else s
  let tl := s.tile t
  let p := tl.pend k
  if p.dark then
    (s.modTile t (fun tl => ((s.popElems t).foldl Tile.darken tl).takeCodes p.target), [])
  else
    let changed := (p.named.map Prod.fst).filter (s.laneChanged t)
    let held := (p.named.map Prod.fst).filter (fun e => tl.clr && decide ((tl.lane e).mode = .park) && !changed.contains e)
    let codes := p.target.filter (fun q => changed.contains (q.1 / 2))
    let tl' := p.named.foldl (fun tl q =>
      let old := tl.lane q.1
      tl.setLane q.1 (old.commit q.2 (changed.contains q.1) tl.clr (burstCode tl codes (2 * q.1))
        (burstCode tl codes (2 * q.1 + 1)) tl.frame)) tl
    let tl' := tl'.setPend k { p with target := codes, steep := p.steep.filter (fun q => changed.contains (q.1 / 2)) }
    (s.setTile t (tl'.takeCodes codes), changed ++ held)

/-- A clear or a QUENCH has the tile's sequencer: the bursts of a commit are suppressed (R31, R99). -/
def Tile.overridden (tl : Tile) : Bool := tl.clr || decide (tl.seq = .quench)

/-- Bank k of tile t commits at tick c (R259). A tile under a clear runs its slots on (R97, R125). -/
def State.commitTile (s : State) (c t k : Nat) : State :=
  let s := if (s.tile t).clr then s else s.truncateSlot t c true
  let before := s.tile t
  let steep := (before.pend k).steep
  let (s, todo) := s.commitLanes t k
  let reached := if (before.pend k).dark then s.popElems t else ((before.pend k).named.map Prod.fst)
  let s := s.modTile t (fun tl =>
    let p := tl.pend k
    let others := tl.vers.map (fun v => { v with todo := v.todo.filter (fun e => !reached.contains e) })
    let mine : Verify := { bank := k, handle := p.handle, todo := todo, cleared := tl.clr, unowned := !s.ownsTile t }
    let tl := { tl with lastCommit := some c, lastTxn := some c, vers := if p.dark then others else others ++ [mine] }
    let tl := reached.foldl (fun tl e => tl.modLane e (fun l => if l.mode = .burst then { l with burstTo := c + p.span } else l)) tl
    tl.setPend k { p with st := .bursting, endAt := c + p.span, ended := false })
  if before.overridden then s
  else
    let p := (s.tile t).pend k
    let s := s.modTile t (fun tl => { tl with burstEnd := c + p.span, seq := if p.steepEn then .steep k else .target k })
    let s := if p.steepEn
      then s.burstColumns t c p.addrs (burstCode before (steep.filter (fun q => p.target.any (fun r => decide (r.1 = q.1)))))
      else s.burstColumns t c p.addrs (burstCode (s.tile t) p.target)
    s.refreshBurst t

/-- In `SHADOW` a lane takes a committed setpoint with its target codes (R175, R271). -/
def State.shadowLane (s : State) (g r : Nat) : State :=
  s.modTile (tileOf g) (fun tl =>
    let e := elemOf g
    (tl.modLane e (fun l => { l with rT := r, r := r, tgtValid := true, uaP := tl.targetCode e 0 r, uaT := tl.targetCode e 1 r })).takeUa e)

/-- The dark plan in a `SHADOW` lane: it will stand in `PARK` without a valid target (R168, R267). -/
def State.shadowDark (s : State) (g : Nat) : State :=
  s.modTile (tileOf g) (fun tl => tl.modLane (elemOf g) (fun l => { l with snapMode := .park, tgtValid := false }))

/-- A standby applies a forwarded transaction at the commit DT that the active reported by note 2 (R271, R440). -/
def State.shadowCommit (s : State) (i c : Nat) : State :=
  let t := s.slot i
  let s := s.advanceTo c
  let s := if t.dark then (match t.plan with
      | some (_, m) => (s.darkElems m).foldl State.shadowDark s
      | none => s)
    else t.named.foldl (fun s q => s.shadowLane q.1 q.2) s
  let s := s.forEach (fun s k => s.modTile k (fun tl => { tl with lastCommit := some c, lastTxn := some c })) t.tiles
  s.modSlot i (fun t => { t with applied := true })

/-! ### Settle verification (R261 to R263) -/

/-- Every involved tile has decided: the settle records are written and the transaction ends (R249, R262, R263). -/
def State.verifyEnd (s : State) (i : Nat) : State :=
  let t := s.slot i
  let h := s.handle i
  let mine (k : Nat) : List (Nat × Verify) := ((s.tile k).vers.filter (fun v => decide (v.handle = h))).map (fun v => (k, v))
  let all := t.tiles.flatMap mine
  if t.st ≠ .verifying ∨ all.any (fun q => !q.2.decided) then s
  else
    let s := s.forEach (fun s k => s.modTile k (fun tl =>
      match tl.vers.find? (fun v => decide (v.handle = h)) with
      | none => tl
      | some v =>
        { (tl.setSettle v.bank { handle := h, nVerified := v.done.length, late := v.late, valid := true, quenched := v.quenched,
                                 cleared := v.cleared, fenced := v.fenced, unowned := v.unowned }) with
          vers := tl.vers.filter (fun v => decide (v.handle ≠ h)) })) t.tiles
    let late := all.flatMap (fun q => q.2.late.map (fun e => 128 * q.1 + e))
    let s := s.modSlot i (fun t => { t with nLate := late.length, firstLate := late.foldl min 0xFFFF })
    s.endTxn i (if late.isEmpty then .done else .settleLate)

/-- Tile t decides the outcome of the window of handle h: its lanes still to be verified are late (R261, R262). A QUENCH is noted also where it has decided before (R268). -/
def State.decideWindow (s : State) (t h : Nat) (quenched : Bool) : State :=
  let n := (((s.tile t).vers.filter (fun v => decide (v.handle = h ∧ !v.decided))).flatMap (fun v => v.todo)).length
  let s := s.modTile t (fun tl => { tl with vers := tl.vers.map (fun v =>
    if v.handle ≠ h then v
    else if v.decided then { v with quenched := v.quenched || quenched }
    else { v with decided := true, late := v.todo, todo := [], quenched := v.quenched || quenched }) })
  s.count TXN_TCNT_LATE_ELEM t n

/-- R261: the verify window of handle h in tile t closes. -/
def execVerifyWindowClose (t h : Nat) (s : State) : Host.Outcome State Fault Refusal :=
  .next (match (s.tile t).vers.find? (fun v => decide (v.handle = h) && v.opened) with
    | some v => s.advanceTo v.closeAt
    | none => s)

/-- R262: the tile engine has processed the last frame sampled in the window of handle h in tile t, or every lane is verified. -/
def execVerifyOutcome (t h : Nat) (s : State) : Host.Outcome State Fault Refusal :=
  .next (match (s.tile t).vers.find? (fun v => decide (v.handle = h)) with
    | some v =>
      if (v.opened && decide (v.closeAt ≤ s.dt)) || (v.waiting || v.opened) && v.todo.isEmpty then
        let s := s.decideWindow t h false
        match s.findHandle h with
        | some i => s.verifyEnd i
        | none => s
      else s
    | none => s)

/-! ### The end of bursts (R249, R264) -/

/-- The bursts of handle h run in the tile. -/
def Tile.stillBursts (tl : Tile) (h : Nat) : Bool :=
  match tl.bankOf h with
  | some k => !(tl.pend k).ended
  | none => false

/-- The last burst of transaction i has ended in every involved tile: its banks are released (R264), and it enters `VERIFYING`, or ends
DONE under plan 0. -/
def State.burstsOver (s : State) (i : Nat) : State :=
  let t := s.slot i
  let h := s.handle i
  if t.st = .bursting ∧ t.tiles.all (fun k => !(s.tile k).stillBursts h) then
    if t.dark then s.endTxn i .done
    else ((s.releaseBanks t.tiles h).modSlot i (fun t => { t with st := .verifying })).verifyEnd i
  else s

/-- The bank of the tile whose last burst ends next. -/
def Tile.ending (tl : Tile) : Option Nat :=
  let run (p : Pend) : Bool := decide (p.st = .bursting) && !p.ended
  if run tl.pend0 && (!run tl.pend1 || decide (tl.pend0.endAt ≤ tl.pend1.endAt)) then some 0
  else if run tl.pend1 then some 1 else none

/-- The QUENCH bursts of the tile end before, or with, those of its banks (R31). -/
def Tile.quenchEnds (tl : Tile) : Bool :=
  decide (tl.seq = .quench) && (match tl.ending with
    | some k => decide (tl.burstEnd ≤ (tl.pend k).endAt)
    | none => true)

/-- Some burst of a commit or of a QUENCH in the tile has ended by tick m. -/
def Tile.endsBy (tl : Tile) (m : Nat) : Bool :=
  (decide (tl.seq = .quench) && decide (tl.burstEnd ≤ m)) || (match tl.ending with
    | some k => decide ((tl.pend k).endAt ≤ m)
    | none => false)

/-- The sequencer after the bursts of bank k: idle, unless a burst of lower rank number has replaced them (R31, R58). -/
def Seq.after (q : Seq) (k : Nat) : Seq := if q = .steep k ∨ q = .dwell k ∨ q = .target k then .idle else q

/-- The QUENCH bursts of tile t end (R267): it idles until the next marker, with a commit that they suppressed still in its span. -/
def State.quenchEnd (s : State) (t : Nat) : State :=
  let s := (s.advanceTo (s.tile t).burstEnd).targetBurst t
  ((s.modTile t (fun tl => { tl with seq := .idle })).refreshBurst t).refreshQuench

/-- The last burst of bank k of tile t ends (R249, R259 step 6). -/
def State.bankEnd (s : State) (t k : Nat) : State :=
  let tl := s.tile t
  let p := tl.pend k
  let s := s.advanceTo p.endAt
  let s := if tl.seq = .steep k ∨ tl.seq = .dwell k then s.targetBurst t else s
  let s := s.modTile t (fun tl =>
    { (tl.setPend k { (tl.pend k) with ended := true }) with
      seq := tl.seq.after k, vers := tl.vers.map (fun v => if v.handle = p.handle then { v with waiting := true } else v) })
  let s := s.refreshBurst t
  match s.findHandle p.handle with
  | some i => s.burstsOver i
  | none => s

/-- The last burst of a commit, or of a QUENCH, ends in tile t: the one that ends first. -/
def State.burstsEnd (s : State) (t : Nat) : State :=
  if (s.tile t).quenchEnds then s.quenchEnd t
  else match (s.tile t).ending with
    | some k => s.bankEnd t k
    | none => s

/-- Every burst of tile t that ends by tick m: at most those of two banks and of a QUENCH. -/
def State.burstsBy (s : State) (t m : Nat) : State :=
  (List.range 3).foldl (fun s _ => if (s.tile t).endsBy m then s.burstsEnd t else s) s

def execBurstsEnd (t : Nat) (s : State) : Host.Outcome State Fault Refusal := .next (if t < 96 then (s.burstsEnd t).releaseDue else s)

/-! ### QUENCH (R267 to R269) -/

/-- R267 step 1: a demand reaches the time island. While a QUENCH is committing it is ignored (R268). (DESIGN CHOICE, log 81.) -/
def State.quenchDemand (s : State) : State :=
  let s := { s with txn := { s.txn with demands := s.txn.demands - 1 } }
  if s.inReset || s.txn.quenchAt.isSome || s.flag TXN_STATUS_QUENCH_BUSY then s
  else { s with txn := { s.txn with quenchAt := some (s.dt + 64) } }

def execQuenchDemand (s : State) : Host.Outcome State Fault Refusal := .next s.quenchDemand

/-- The dark-plan bursts of QUENCH in an owned tile: they begin at its first strobe-free tick, with steep codes from the codes of the
frame just completed (R267). Under a clear they are suppressed, its slots run on, and the lanes take the state all the same (R268). -/
def State.quenchTile (s : State) (q t : Nat) : State :=
  let s := s.abortSweep t
  let start := (s.tile t).strobeFree q
  let s := if (s.tile t).clr then s else s.truncateSlot t start
  let steepEn := s.flag DRV_CTRL_STEEP_EN t
  let dwell := s.reg DRV_CTRL_STEEP_DWELL t
  let before := s.tile t
  let codes := (s.popElems t).flatMap (fun e => [(2 * e, s.parkOf t e 0), (2 * e + 1, s.parkOf t e 1)])
  let dark (tl : Tile) (e : Nat) : Tile := if (tl.lane e).mode = .shadow then tl else tl.darken e
  let s := s.modTile t (fun tl => ((s.popElems t).foldl dark tl).takeCodes codes)
  let ends := start + (if steepEn then 2048 + 32 * dwell else 1024)
  let s := s.modTile t (fun tl => { (tl.modLanes (fun _ l => if l.mode = .burst then { l with burstTo := ends } else l)) with
    lastCommit := some q })
  if (s.tile t).clr then s
  else
    let s := s.modTile t (fun tl => { tl with seq := .quench, burstEnd := ends })
    let s := s.burstColumns t start fullBurst (fun n =>
      let park := s.parkOf t (n / 2) (n % 2)
      if steepEn then s.steepCode t (n % 2) park (before.prev.read 0 n) else park)
    s.refreshBurst t

/-- What the QUENCH tick does to the transaction in slot i (R249, R267, R268). -/
def State.quenchTxn (s : State) (i : Nat) : State :=
  let t := s.slot i
  let h := s.handle i
  match t.st with
  | .free => s
  | .bursting =>
    let s := s.forEach (fun s k => s.modTile k (fun tl => match tl.bankOf h with
      | some b => { (tl.setPend b {}) with seq := tl.seq.after b }
      | none => tl)) t.tiles
    let s := s.forEach State.refreshBurst t.tiles
    if t.dark then s.endTxn i .done
    else
      let s := s.forEach (fun s k => s.decideWindow k h true) t.tiles
      (s.modSlot i (fun t => { t with st := .verifying })).verifyEnd i
  | .verifying => (s.forEach (fun s k => s.decideWindow k h true) t.tiles).verifyEnd i
  | _ => s.endTxn i .aborted

/-- R267, R268: the QUENCH tick. -/
def State.quenchTick (s : State) : State :=
  match s.txn.quenchAt with
  | none => s
  | some q =>
    let s := { (s.advanceTo q) with txn := { s.txn with quenchAt := none } }
    let s := s.forEach State.quenchTxn allSlots
    let s := (s.forEach (fun s t => if s.ownsTile t && s.populated t then s.quenchTile q t else s) allTiles).refreshQuench
    let s := (s.setDtRegs TXN_QDT_NS_NS TXN_QDT_FRAC_FRAC TXN_QDT_SEC_LO_SEC_LO TXN_QDT_SEC_HI_SEC_HI (dtOf q)).inc TXN_CNT2_QUENCHES
    let s := s.forEach State.refreshModes allTiles
    s.note 0xFFFF 4 0 (some q) 0 0xFFFF 0 0 0

def execQuenchTick (s : State) : Host.Outcome State Fault Refusal := .next s.quenchTick

/-! ### The deadline, ABORT and COMMIT (R249, R250, R257 to R260) -/

/-- The QUENCH tick comes first when it lies at or before tick c (R250). -/
def State.quenchFirst (s : State) (c : Nat) : State :=
  match s.txn.quenchAt with
  | some q => if q ≤ c then s.quenchTick else s
  | none => s

/-- Fences that take effect at a marker no later than tick c come first (R250): the involved domains of transaction i that wait for one. -/
def State.fenceBefore (s : State) (i c : Nat) : Bool :=
  decide (s.nextMarker ≤ c) && (s.slot i).tiles.any (fun t => decide (s.domState (domOf t) = 0) && (s.domSt (domOf t)).fence.isSome)

/-- `TXN_ERR` and `ARM_MISS` of a transaction that was not armed in tile k for reason r (R257, R276). -/
def State.armMiss (s : State) (h k r : Nat) : State :=
  let s := (s.setReg TXN_ERR_HANDLE 0 h).setFlag TXN_ERR_NO_HANDLE 0 false
  ((s.setReg TXN_ERR_REASON 0 r).setReg TXN_ERR_TILE 0 k).inc TXN_TCNT_ARM_MISS k

/-- The judgement of the deadline (R257): a transaction still in `STAGING` has no armed tile. -/
def State.judge (s : State) (i : Nat) : State :=
  let t := s.slot i
  match t.st, s.notArmed i with
  | .arming, none => (s.modSlot i (fun t => { t with st := .armed })).note (s.handle i) 2 0 t.commit 0 0xFFFF 0 0 0
  | _, some (k, r) => (s.armMiss (s.handle i) k r).endTxn i .notArmed
  | _, none => s.endTxn i .notArmed

/-- R257: the deadline tick of the transaction in slot i. A standby judges no deadline (R271). A QUENCH or a fence that falls no later
comes first (R250). -/
def State.armDeadline (s : State) (i : Nat) : State :=
  let due (s : State) : Bool := decide ((s.slot i).st = .arming) || (decide ((s.slot i).st = .staging) && (s.slot i).commit.isSome)
  if !due s then s
  else
    let d := (s.slot i).deadline
    let s := s.quenchFirst d
    if !due s then s
    else if s.fenceBefore i d then s.endTxn i .aborted
    else (s.advanceTo d).judge i

def execArmDeadline (i : Nat) (s : State) : Host.Outcome State Fault Refusal :=
  .next (if i < 63 ∧ s.role ≠ roleStandby then s.armDeadline i else s)

/-- A deadline that lies before now has been judged before what comes now (R250). -/
def State.passedDeadline (s : State) (h : Nat) : State :=
  match s.findHandle h with
  | some i => if decide ((s.slot i).deadline < s.dt) && decide (s.role ≠ roleStandby) then s.armDeadline i else s
  | none => s

/-- A QUENCH, or a fence of a domain of handle h, that falls no later than now comes before a TXN_ABORT (R250). -/
def State.beforeAbort (s : State) (h : Nat) : State :=
  let s := (s.passedDeadline h).quenchFirst s.dt
  match s.findHandle h with
  | some i => if (s.slot i).st ≠ .verifying ∧ (s.slot i).st ≠ .bursting ∧ s.fenceBefore i s.dt then s.endTxn i .aborted else s
  | none => s

/-- TXN_ABORT for `src` (R249, R250, R412). -/
def State.txnAbort (s : State) (c : HostCmd) (src : Src) : State :=
  let h := le16 c.desc 8
  s.withForm c src (!zeros c.desc 10 54) false (fun s =>
    let s := s.beforeAbort h
    let found := match s.findHandle h with
      | some i => if (s.slot i).st = TxnSt.staging ∨ (s.slot i).st = TxnSt.staged ∨ (s.slot i).st = TxnSt.arming then some i else none
      | none => none
    match found with
    | none => (s.txnErr (some h) 2 0x7F).refuse src .badObject 0
    | some i =>
      if !s.mayAct src then s.refuse src .notActive 0
      else
        let bare := decide ((s.slot i).reportSrc = Src.nobody)
        let s := s.reply src .done 0 (!bare) []
        let s := if bare then s.modSlot i (fun t => { t with reportSrc := src }) else s
        let s := s.forwardHost h c
        s.endTxn i .aborted)

/-- R250. -/
def execTxnAbort (c : HostCmd) (s : State) : Host.Outcome State Fault Refusal :=
  .next (s.hostRow c 0x04 (fun c s => s.txnAbort c c.src))

/-- The commit of the transaction in slot i at tick c in every involved tile (R258 to R260). -/
def State.commitNow (s : State) (i c : Nat) : State :=
  let t := s.slot i
  let h := s.handle i
  let s := s.advanceTo c
  let s := s.forEach (fun s k => match (s.tile k).bankOf h with
    | some b => s.commitTile c k b
    | none => s) t.tiles
  let s := (s.modSlot i (fun t => { t with st := .bursting, applied := true })).inc TXN_CNT0_COMMITS
  let s := s.forEach State.refreshModes t.tiles
  if t.tiles.isEmpty then s.endTxn i .done else s

/-- R258 to R260: the commit tick of the transaction with handle h; a QUENCH or a fence that falls no later aborts it (R250, R270). -/
def State.commit (s : State) (h : Nat) : State :=
  match s.findHandle h with
  | none => s
  | some i =>
    match (s.slot i).st, (s.slot i).commit with
    | .armed, some c =>
      let s := s.quenchFirst c
      if (s.slot i).st ≠ .armed ∨ s.handle i ≠ h then s
      else if s.fenceBefore i c then s.endTxn i .aborted
      else s.commitNow i c
    | _, _ => match (s.slot i).note2 with
      | some c => if s.role = roleStandby ∧ !(s.slot i).applied then s.shadowCommit i c else s
      | none => s

def execCommit (h : Nat) (s : State) : Host.Outcome State Fault Refusal := .next (s.commit h)

end Sys2Proof.Machine
end

