-- ==== Sys2Proof/Machine/Twin.lean ====
section
/-! DEFINITION. Twin operation: resignation, takeover, switchover and rejoin, and the roles (chapter 12, R72, R271, R304). -/

namespace Sys2Proof.Machine

open Reg

/-! ### Commands that a sync held (R445) -/

/-- Carry out a host command for `src`, whatever its kind; only kinds that write a store can be held or forwarded. -/
def State.hostExec (s : State) (c : HostCmd) (src : Src) : State :=
  match c.kind with
  | 0x01 => s.objectLoad c src
  | 0x03 => s.txnArm c src
  | 0x04 => s.txnAbort c src
  | 0x05 => s.calLoad c src
  | 0x07 => s.calSwapCmd c src
  | 0x08 => s.tableWrite c src
  | 0x09 => s.tableCommit c src
  | 0x0A => s.sessionCmd c src
  | 0x0C => s.timeStep c src
  | _ => s

/-- Run the held commands of which `f` holds; the others stay held. -/
def State.runHeld (s : State) (f : Nat → Bool) : State :=
  let l := s.twn.heldCmds
  let s := { s with twn := { s.twn with heldCmds := l.filter (fun p => !f p.1) } }
  (l.filter (fun p => f p.1)).foldl (fun s p => s.hostExec p.2 p.2.src) s

/-- Carry out a request or a closure that was held for the session table; one whose session has ended meanwhile does nothing. -/
def State.doReq (s : State) : HeldReq → State
  | .partner r => s.gcrpTake r
  | .closure i k => if !(s.sess i).isOpen then s else if k = 1 then s.idleClose i else s.tenantClose i

/-- Run what waits for the session table. -/
def State.runReqs (s : State) : State :=
  let l := s.twn.heldReqs
  l.foldl State.doReq { s with twn := { s.twn with heldReqs := [] } }

/-- The sender stops a sync. -/
def State.stopSync (s : State) : State :=
  if s.twn.sending then
    let s := s.setReg TWN_SYNC_STORE 0 0
    (({ s with twn := { s.twn with sending := false, mustEnd := [], image := [] } }).runHeld (fun _ => true)).runReqs
  else s

/-! ### Roles -/

def State.setRole (s : State) (r : Nat) : State := s.setReg TWN_STATUS_ROLE 0 r

/-- A role other than `STANDBY` is not a synchronised standby, and needs no sync. -/
def State.noSync (s : State) : State :=
  let s := (s.setFlag TWN_STATUS_SYNCED 0 false).setFlag TWN_SYNC_NEED_SYNC 0 false
  ((s.setReg TWN_SYNC_STORE 0 0).runHeld (fun _ => true)).runReqs

/-- `ACTIVE` loses its synchronised standby (R426); a RESIGN that falls together with it comes first (R427). -/
def State.toSolo (s : State) : State := if s.role = roleActive ∧ s.twn.switch.isNone ∧ !s.resignWaits then s.setRole roleSolo else s

/-- `ACTIVE` becomes `SOLO` without a synchronised standby that it hears (R426). -/
def State.judgeTwin (s : State) : State := if s.twn.lost || !s.twn.twinSynced || s.twn.twinResigned then s.toSolo else s

/-- The device enters `STANDBY`: nothing is owned, and a sync is needed (R424, R454). (DESIGN CHOICE, log 49.) -/
def State.toStandby (s : State) : State :=
  let s := (s.stopSync.releaseDoms 0xFF).setRole roleStandby
  let s := (s.setFlag TWN_STATUS_SYNCED 0 false).setFlag TWN_SYNC_NEED_SYNC 0 true
  { s with twn := { s.twn with got := [], image := [], kept := [], round := none, switch := none }, fab := { s.fab with releasing := 0 } }

/-! ### Resignation (R437, R446, R447) -/

/-- Announce the release of every owned domain, and release each once its bursts have ended. -/
def State.releaseAll (s : State) (cause next : Nat) : State :=
  let own := s.reg KFI_STATUS_OWN
  let s := s.sendTl 2 (leBytes 1 cause ++ leBytes 1 next ++ leBytes 1 own ++ leBytes 1 0 ++ dt10 s.now ++ leBytes 2 0)
  ({ s with fab := { s.fab with releasing := own } }).releaseDue

/-- A switchover in progress ends ABORTED. -/
def State.dropSwitch (s : State) : State :=
  match s.twn.switch with
  | some (_, src, _) => ({ s with twn := { s.twn with switch := none } }).reply src .aborted 0 true []
  | none => s

/-- The device resigns with a cause (R446, R447); outside `RUN` no role is held, and a `RESIGNED` device has resigned. (DEDUCED, log 101.) -/
def State.resign (s : State) (cause : Nat) : State :=
  if !s.running || decide (s.role = roleResigned) then s
  else
    let role := s.role
    let s := (((s.setReg TWN_STATUS_CAUSE 0 cause).inc TWN_CNT0_RESIGNS).dropSwitch.setRole roleResigned).stopSync
    if role = roleActive then s.releaseAll cause 3
    else if role = roleStandby then s.noSync
    else s

/-- R446: the lockstep supervisor pair detects a mismatch. -/
def execSupervisorLockstepMismatch (s : State) : Host.Outcome State Fault Refusal := .next (if s.inReset then s else s.raiseCond 928)

/-- R536: the time-base PLL loses lock. -/
def execTimeBasePllUnlock (s : State) : Host.Outcome State Fault Refusal :=
  .next (if s.inReset || !s.flag TMU_STATUS_PLL_LOCK then s else (s.setFlag TMU_STATUS_PLL_LOCK 0 false).raiseCond 613)

/-- R229: the time-base PLL regains lock. -/
def execTimeBasePllRelock (s : State) : Host.Outcome State Fault Refusal :=
  .next (if s.inReset || decide (s.startup < 3) then s else (s.setFlag TMU_STATUS_PLL_LOCK 0 true).setCause 613 false)

/-! ### What a frame marker does for the twin (R441, R452) -/

/-- The next group of 32 records of a populated tile from group k on, in the order of the round. -/
def State.nextGroup (s : State) (k : Nat) : Option Nat :=
  ((List.range 384).map (fun j => (k + j) % 384)).find? (fun g => s.populated (g / 4))

/-- The lanes of the tile whose snapshot comes next, as they stand at the marker (R441). (DESIGN CHOICE, log 149.) -/
def State.captureSnap (s : State) : State :=
  if !s.forwards then s
  else
    let t := (s.nextGroup s.twn.snapAt).map (· / 4)
    { s with twn := { s.twn with snapTile := t, snapLanes := match t with
      | some t => (s.tile t).lanes
      | none => [] } }

/-! ### Takeover (R448 to R452) -/

/-- The twin has announced the release of domain d. -/
def State.announced (s : State) (d : Nat) : Bool := bit s.twn.released d || s.twn.twinResigned

/-- Heartbeats have been lost with every filtered `OWNX_Dd` low. -/
def State.beatsLost (s : State) : Bool := s.twn.lost && decide (s.reg KFI_STATUS_OWNX = 0)

/-- The conditions of R448 for domain d, its 200 ns apart. (DEDUCED, log 47.) -/
def State.mayTake (s : State) (d : Nat) : Bool :=
  s.running && decide (s.role = roleStandby ∨ s.role = roleSolo) && !s.resignWaits && s.twn.paired && !s.owns d && !s.ownx d && s.canOwn d &&
    (s.announced d || s.beatsLost)

/-- Filtered `OWNX_Dd` has been low for at least 200 ns. -/
def State.lowLong (s : State) (d : Nat) : Bool :=
  let f := s.fab.ownxFell.read 0 d
  decide (f = 0) || decide (f - 1 + 256 ≤ s.dt)

/-- The takeover is stale (R451); a domain that is taken later is judged by what the first takeover found. (DEDUCED, log 47.) -/
def State.stale (s : State) : Bool :=
  !(if s.role = roleStandby then s.flag TWN_STATUS_SYNCED else s.twn.tookSynced) || (match s.twn.rxAt with
    | some t => decide (t + usTicks (1000 * s.reg TWN_CTRL_STALE_MS) < s.tick)
    | none => true)

/-- `TX_SEQ` of every valid session rises by 65,536 (R450 step 1). -/
def State.bumpSessions (s : State) : State :=
  s.forEach (fun s i => s.setSess i { (s.sess i) with txSeq := ((s.sess i).txSeq + 65536) % 2 ^ 32 })
    ((s.cpx.sessions.filter (fun p => p.2.valid)).map Prod.fst)

/-- A lane of a domain taken stale will stand in `PARK` without a target (R451). -/
def Lane.stale (l : Lane) : Lane := { l with snapMode := .park, tgtValid := false }

/-- The elements that a transaction names, those of the dark plan included (R240). -/
def State.txnElems (s : State) (t : Txn) : List Nat := if t.dark then s.namedElems t.plan t.edits else t.named.map Prod.fst

/-- Setpoints of a committed transaction go into the records of their lanes: named ones, and elements of the dark plan. -/
def State.putSetpoints (s : State) (named : List (Nat × Nat)) (dark : List Nat) : State :=
  named.foldl (fun s q => s.shadowLane q.1 q.2) (dark.foldl State.shadowDark s)

/-- The setpoints of the transaction in slot i apply at commit tick c: now, or when it comes (R452). -/
def State.applyShadow (s : State) (i c : Nat) : State :=
  let t := s.slot i
  let dark := if t.dark then s.txnElems t else []
  let named := if t.dark then [] else t.named
  if t.applied then s
  else if c ≤ s.dt then s.putSetpoints named dark
  else { s with twn := { s.twn with ahead := s.twn.ahead ++ [(c, named, dark)] } }

/-- A lane takes a setpoint whose commit tick came after the takeover: one that has left `SHADOW` regulates to it from then on. (DEDUCED, log 47.) -/
def Lane.ahead (l : Lane) (r : Nat) : Lane := { l with rT := r, r := r, tgtValid := true }

/-- Setpoints of R452 whose commit tick has come. (DEDUCED, log 47.) -/
def State.putAhead (s : State) : State :=
  let due := s.twn.ahead.filter (fun q => decide (q.1 ≤ s.dt))
  let shadow (s : State) (g : Nat) : Bool := decide (((s.tile (tileOf g)).lane (elemOf g)).mode = .shadow)
  let s := { s with twn := { s.twn with ahead := s.twn.ahead.filter (fun q => decide (s.dt < q.1)) } }
  due.foldl (fun s q =>
    let s := q.2.1.foldl (fun (s : State) (e : Nat × Nat) => if shadow s e.1 then s.shadowLane e.1 e.2
      else s.modTile (tileOf e.1) (fun tl => tl.modLane (elemOf e.1) (fun l => l.ahead e.2))) s
    q.2.2.foldl (fun (s : State) (e : Nat) => if shadow s e then s.shadowDark e
      else s.modTile (tileOf e) (fun tl => tl.modLane (elemOf e) (fun l => { l with mode := .park, tgtValid := false }))) s) s

/-- The new owner ends the transaction in slot i, which has no note 3 (R452). (DEDUCED, log 47.) -/
def State.takeTxn (s : State) (i : Nat) : State :=
  let t := s.slot i
  if t.st = .free then s
  else match t.note2 with
    | some c =>
      let s := s.applyShadow i c
      let es := s.txnElems t
      let s := s.modSlot i (fun t => { t with nLate := es.length, firstLate := es.foldl min 0xFFFF })
      (s.inc TXN_CNT0_COMMITS).endTxn i .settleLate
    | none => s.endTxn i .aborted

/-- What the first takeover does before ownership: the role, sessions, calendar, admission and transactions. -/
def State.firstTake (s : State) : State :=
  let synced := s.flag TWN_STATUS_SYNCED
  let s := (s.setRole roleSolo).noSync
  let s := { s with twn := { s.twn with got := [], image := [], kept := [], round := none, frag := none, tookSynced := synced, guarded := false } }
  let s := s.setCause 748 false
  let s := s.admFresh.forEach State.calResume allLists
  s.bumpSessions.forEach State.takeTxn allSlots

/-- Take the domains of a mask over (R450, R451). -/
def State.takeDoms (s : State) (m : Nat) : State :=
  let stale := s.stale
  let first := decide (s.role = roleStandby)
  let s := if first then s.firstTake else s
  let s := s.forEach State.assertOwn (bitsOf 8 m)
  let s := if stale then s.forEach (fun s t => s.modTile t (fun tl => tl.modLanes (fun _ => Lane.stale))) (tilesOfDoms m) else s
  let s := (s.setReg TWN_STATUS_TAKEN 0 m).inc TWN_CNT0_TAKEOVERS
  let s := s.setDtRegs TWN_TAKE_NS_NS TWN_TAKE_FRAC_FRAC TWN_TAKE_SEC_LO_SEC_LO TWN_TAKE_SEC_HI_SEC_HI s.now
  let s := s.raise 746 m
  if stale then (s.setFlag TWN_STATUS_STALE_TAKE 0 true).raise 747 else s

/-- R450: domain d is taken 200 ns after the fall of its `OWNX_Dd`, with every other domain whose conditions then hold. (DEDUCED, log 47.) -/
def execTakeover (d : Nat) (s : State) : Host.Outcome State Fault Refusal :=
  .next (if 8 ≤ d ∨ !s.mayTake d then s
  else
    let f := s.fab.ownxFell.read 0 d
    let s := if f = 0 then s else s.advanceTo (f - 1 + 256)
    s.takeDoms (allDoms.foldl (fun m k => withBit m k (s.mayTake k && s.lowLong k)) 0))

/-! ### `OWNX_Dd` (R72, R425, R449, R454) -/

/-- The split-brain guard (R449): at a standby that hears no TL frame while some `OWNX_Dd` is asserted, the guard event, once in an episode;
its cause lasts as long (R536). -/
def State.guard (s : State) : State :=
  if s.running && decide (s.role = roleStandby) && s.twn.lost && decide (s.reg KFI_STATUS_OWNX ≠ 0) then
    if s.twn.guarded then s.setCause 748 true
    else (({ s with twn := { s.twn with guarded := true } }).inc TWN_CNT3_GUARD).raiseCond 748
  else s.setCause 748 false

/-- A switchover completes once every released `OWNX_Dd` is asserted. -/
def State.switchDone (s : State) : State :=
  match s.twn.switch with
  | some (m, src, _) => if Nat.land (s.reg KFI_STATUS_OWNX) m = m then s.toStandby.reply src .done 0 true [] else s
  | none => s

/-- The filtered `OWNX_Dd` rises. -/
def State.ownxRise (s : State) (d : Nat) : State :=
  let s := { s with twn := { s.twn with released := withBit s.twn.released d false } }
  let s := if s.twn.deciding.isSome then s.takeRole roleStandby else s
  s.guard.switchDone

/-- It falls. The first row of R449: the twin still beats in `ACTIVE` or `SOLO` and has announced nothing. -/
def State.ownxFall (s : State) (d : Nat) : State :=
  let s := { s with fab := { s.fab with ownxFell := s.fab.ownxFell.write 0 d (s.dt + 1) } }
  let s := (s.setCause (srcDom d 0) false).guard
  let owner := decide (s.reg TWN_STATUS_TWIN_ROLE = roleActive ∨ s.reg TWN_STATUS_TWIN_ROLE = roleSolo)
  if s.running && decide (s.role = roleStandby) && s.twinSeen && owner && !s.announced d then s.raise 749 else s

/-- R72: a change of `OWNX_Dd` has passed its filter. -/
def execOwnxChange (d : Nat) (level : Bool) (s : State) : Host.Outcome State Fault Refusal :=
  .next (if 8 ≤ d ∨ s.ownx d = level then s
  else
    let s := { s with fab := { s.fab with ownxRaw := withBit s.fab.ownxRaw d level } }
    let s := s.setReg KFI_STATUS_OWNX 0 (withBit (s.reg KFI_STATUS_OWNX) d level)
    let s := if level then { s with fab := { s.fab with ownxRose := s.fab.ownxRose.write 0 d s.dt } } else s
    if s.inReset then s else if level then s.ownxRise d else s.ownxFall d)

/-! ### TWIN_OP (R454) -/

def HostCmd.op (c : HostCmd) : Nat := u8 c.desc 8

/-- Some held source has severity RESIGN or higher (R549). -/
def State.severeHeld (s : State) : Bool :=
  s.heldList.any (fun n => decide (sevResign ≤ s.severity n))

/-- The twin has been heard in one of these roles. -/
def State.twinIn (s : State) (l : List Nat) : Bool := s.twinSeen && l.contains (s.reg TWN_STATUS_TWIN_ROLE)

/-- The condition of an operation. -/
def State.opOk (s : State) (op : Nat) : Bool :=
  s.running && (match op with
  | 1 => decide (s.role = roleActive) && s.twn.switch.isNone && s.twinIn [roleStandby] && s.twn.twinSynced
  | 2 => decide (s.role ≠ roleResigned)
  | _ => decide (s.role = roleResigned) && !s.severeHeld && s.twinIn [roleActive, roleSolo])

/-- A TWIN_OP: form, condition and presence, then its effect. (DESIGN CHOICE, log 49.) -/
def State.twinOp (s : State) (c : HostCmd) (src : Src) (f : State → State) : State :=
  let op := c.op
  s.withForm c src (decide (op < 1 ∨ 3 < op) || !zeros c.desc 9 55) false (fun s =>
    match firstRefusal [(!s.opOk op, .badObject), (!s.presence, .presenceNeeded), (!s.mayServe, .notActive)] with
    | some st => s.refuse src st 0
    | none => f s)

/-- SWITCHOVER. (DESIGN CHOICE, log 49.) -/
def State.switchover (s : State) (src : Src) : State :=
  let own := s.reg KFI_STATUS_OWN
  let s := ((s.setReg TWN_STATUS_CAUSE 0 0x0A).inc TWN_CNT0_RESIGNS).reply src .queued 0 false []
  let s := { s with twn := { s.twn with switch := some (own, src, s.tick) } }
  (s.releaseAll 0x0A 1).switchDone

/-- A TWIN_OP row: a descriptor of another operation is refused or carried out under its own rule. -/
def State.twinCmd (s : State) (c : HostCmd) (src : Src) : State :=
  match c.op with
  | 1 => s.twinOp c src (fun s => s.switchover src)
  | 2 => s.twinOp c src (fun s => (s.resign 0x09).reply src .done 0 true [])
  | 3 => s.twinOp c src (fun s => s.toStandby.reply src .done 0 true [])
  | _ => s.twinOp c src id

def execTwinOpSwitchover (c : HostCmd) (s : State) : Host.Outcome State Fault Refusal :=
  .next (s.hostRow c 0x0D (fun c s => if c.op = 1 then s.twinOp c c.src (fun s => s.switchover c.src) else s.twinCmd c c.src))

def execTwinOpResign (c : HostCmd) (s : State) : Host.Outcome State Fault Refusal :=
  .next (s.hostRow c 0x0D (fun c s => if c.op = 2 then s.twinOp c c.src (fun s => (s.resign 0x09).reply c.src .done 0 true []) else s.twinCmd c c.src))

def execTwinOpRejoin (c : HostCmd) (s : State) : Host.Outcome State Fault Refusal :=
  .next (s.hostRow c 0x0D (fun c s => if c.op = 3 then s.twinOp c c.src (fun s => s.toStandby.reply c.src .done 0 true []) else s.twinCmd c c.src))

/-- R454: the twin has not taken over within 100 µs; what became of it meanwhile is judged now (R426). -/
def execSwitchoverTimeout (s : State) : Host.Outcome State Fault Refusal :=
  .next (match s.twn.switch with
    | none => s
    | some (m, src, t) =>
      let s := s.advance (t + usTicks 100 - s.tick)
      let s := { s with twn := { s.twn with switch := none }, fab := { s.fab with releasing := 0 } }
      let s := (s.forEach (fun s d => if s.ownx d then s else s.assertOwn d) (bitsOf 8 m)).judgeTwin
      (s.reply src .aborted 0 true []).raiseEv { src := 753, status := Status.aborted.code, orphan := src.isOrphan })

end Sys2Proof.Machine
end

