-- ==== Sys2Proof/Machine/SyncImage.lean ====
section
/-! DEFINITION. The bytes of a store image (R438, R444). The manual gives the stores' content and no layout: a number is a count of bytes
and its bytes, little-endian; a list is its length and its members; a table lists its entries by key. (DESIGN CHOICE, log 48.) -/

namespace Sys2Proof.Machine

open Reg

/-! ### Numbers, lists and tables -/

def natImg (n : Nat) : List Byte := leBytes 1 (Nat.log2 n / 8 + 1) ++ leBytes (Nat.log2 n / 8 + 1) n
/-- Even numbers are those from 0 on, odd ones the negative. -/
def intImg (x : Int) : List Byte := natImg (if x < 0 then 2 * x.natAbs - 1 else 2 * x.natAbs)
def boolImg (b : Bool) : List Byte := leBytes 1 (b2n b)
def natsImg (l : List Nat) : List Byte := l.flatMap natImg
def boolsImg (l : List Bool) : List Byte := l.flatMap boolImg
def listImg {α : Type} (f : α → List Byte) (l : List α) : List Byte := natImg l.length ++ l.flatMap f
def optImg {α : Type} (f : α → List Byte) : Option α → List Byte
  | none => boolImg false
  | some x => boolImg true ++ f x
def tabImg {α : Type} (f : α → List Byte) (t : Tab α) : List Byte := listImg (fun (p : Nat × α) => natImg p.1 ++ f p.2) t

/-! ### Entries of the stores -/

def elemsImg (l : List (Nat × Nat)) : List Byte := listImg (fun (p : Nat × Nat) => natImg p.1 ++ natImg p.2) l
def Plan.img (p : Plan) : List Byte := natsImg [p.tag, p.mask] ++ elemsImg p.elems
def Edit.img (e : Edit) : List Byte := natsImg [e.tag, e.mask] ++ elemsImg e.elems

def GainSet.img (g : GainSet) : List Byte :=
  [g.a, g.b, g.c, g.l, g.k, g.ki, g.n, [g.zmin0, g.zmax0, g.zmin1, g.zmax1, g.innovMax]].flatMap (listImg intImg) ++ natImg g.nbrUse

def LaneCfg.img (c : LaneCfg) : List Byte := listImg natImg c.nbr ++ natsImg [c.sRef, c.ramp, c.gsFix] ++ boolsImg [c.gsFixEn, c.loopEn]
def Curve.img (c : Curve) : List Byte := listImg natImg c.pri ++ listImg natImg c.trim

def HeldOp.img {α : Type} (f : α → List Byte) : HeldOp α → List Byte
  | .write es => boolImg true ++ listImg (fun (p : Nat × α) => natImg p.1 ++ f p.2) es
  | .commit => boolImg false

def Banked.img {α : Type} (f : α → List Byte) (b : Banked α) : List Byte :=
  tabImg f b.live ++ tabImg f b.standby ++ natImg b.bank ++ boolImg b.pend ++ listImg (HeldOp.img f) b.held

def TileImg.img (t : TileImg) : List Byte :=
  t.gain.img (optImg GainSet.img) ++ t.lcfg.img LaneCfg.img ++ t.curves.img Curve.img ++ t.firefly.img natImg

def ListDesc.img (d : ListDesc) : List Byte := natsImg [d.base.sec, d.base.ns, d.base.frac, d.first, d.count, d.cycle, d.tag]

def Tenant.img (t : Tenant) : List Byte :=
  natsImg [t.rate, t.cir, t.cbs, t.ebs, t.hi, t.prio, t.profile] ++ boolsImg [t.redDefer, t.police, t.en]
def ClassProf.img (c : ClassProf) : List Byte := natsImg [c.share, c.hi, c.qmax, c.maxWait]
def Proto.img (p : Proto) : List Byte := natsImg [p.key, p.mask, p.protoId, p.mdata] ++ boolsImg [p.gcrp, p.valid]
def Act.img (a : Act) : List Byte :=
  natsImg [a.key, a.mask, a.action, a.cls, a.dest, a.ring, a.mirrorRing, a.lClass, a.lColour, a.lQueue] ++ boolsImg [a.mirror, a.setClass, a.valid]
def Rules.img (r : Rules) : List Byte := tabImg Proto.img r.protos ++ tabImg Act.img r.acts

def Sess.img (x : Sess) : List Byte :=
  natsImg [x.srcAddr, x.srcPort, x.tenant, x.cls, x.rxLast, x.rxWin, x.txSeq, x.port, x.ntags, x.tags, x.srcMac, x.idle, x.ageAt] ++
    boolsImg [x.valid, x.ipv6, x.host, x.quar]

/-! ### Images -/

/-- The bytes of a store image. -/
def StoreImg.bytes : StoreImg → List Byte
  | .plans t => tabImg (optImg Plan.img) t
  | .edits t => tabImg (optImg Edit.img) t
  | .tiles ts => tabImg TileImg.img ts
  | .calendar pool ls => tabImg (optImg natImg) pool ++ tabImg (fun (i : CalImg) => optImg ListDesc.img i.desc) ls
  | .admission ts ps => ts.img Tenant.img ++ ps.img ClassProf.img
  | .classifier live standby ver mode chain modeLive chainLive => live.img ++ standby.img ++ natImg ver ++ boolsImg [mode, chain, modeLive, chainLive]
  | .sessions t => tabImg Sess.img t

/-- The state of a list as it follows the SYNC_END of store 0x04 (R438): its state, the four flags, the live base, q and the next instance. -/
def CalImg.state (i : CalImg) : List Byte :=
  padTo 64 (leBytes 1 i.st ++ boolsImg [i.late, i.swapPend, i.stopPend] ++ leBytes 4 i.swapWith ++ dtBytes (dtOf i.base) ++ leBytes 8 i.q ++
    leBytes 4 i.cycle ++ leBytes 4 i.next)

/-- What follows the SYNC_END of a store: 64 bytes a list for store 0x04. -/
def StoreImg.tail : StoreImg → List Byte
  | .calendar _ ls => ls.flatMap (fun p => p.2.state)
  | _ => []

/-- A list of the calendar as a sync carries it; of a one-shot list with no instance left, the index past its entries. -/
def State.calImg (s : State) (n : Nat) : CalImg :=
  let l := s.calList n
  { desc := l.desc, st := s.listSt n, late := s.flag CAL_L_STATE_LATE n, swapPend := s.flag CAL_L_STATE_SWAP_PEND n
    stopPend := s.flag CAL_L_STATE_STOP_PEND n, swapWith := s.reg CAL_L_STATE_SWAP_WITH n, base := l.base, q := l.q, cycle := l.cycle
    next := if l.spent then s.reg CAL_L_POS_NEXT n + 1 else s.reg CAL_L_POS_NEXT n }

/-- A session record as a sync carries it: with its `IDLE_AGE`. -/
def Sess.aged (x : Sess) (tick : Nat) : Sess := { x with ageAt := if x.quar then 0 else x.idleAge tick }

/-- The content of a store as it stands (R444). -/
def State.storeImg (s : State) (store : Nat) : StoreImg :=
  match store with
  | 1 => .plans s.txn.plans
  | 2 => .edits s.txn.edits
  | 3 => .tiles (s.tiles.map (fun (p : Nat × Tile) => (p.1, { gain := p.2.gain, lcfg := p.2.lcfg, curves := p.2.curves, firefly := p.2.firefly })))
  | 4 => .calendar s.cal.pool (allLists.map (fun n => (n, s.calImg n)))
  | 5 => .admission s.adm.tenants s.adm.profiles
  | 6 => .classifier s.cpx.live s.cpx.standby (s.reg CPX_STATUS_LIVE_VER) (s.flag CPX_CTRL_MODE) (s.flag CPX_CTRL_CHAIN) (s.flag CPX_CTRL_MODE_LIVE)
      (s.flag CPX_CTRL_CHAIN_LIVE)
  | _ => .sessions (s.cpx.sessions.map (fun (p : Nat × Sess) => (p.1, p.2.aged s.tick)))

/-- The sender reads the image of a store, and goes on to stream it (R438, R444). -/
def State.readStore (s : State) (store : Nat) : State :=
  { s.setReg TWN_SYNC_STORE 0 store with twn := { s.twn with
      image := (s.storeImg store).bytes, tail := (s.storeImg store).tail, sent := 0, lastCmd := s.twn.lastOf.read 0 store - 1 } }

end Sys2Proof.Machine
end

