-- ==== Sys2Proof/Machine/TwinLink.lean ====
section
/-! DEFINITION. The twin link: heartbeats, notes, forwarded commands and messages, snapshots and the synchronisation of a standby
(chapter 12). -/

namespace Sys2Proof.Machine

open Reg

/-! ### The link (R428, R431, R457, R461) -/

/-- TL runs from the role decision on, in a pair. -/
def State.tlOn (s : State) : Bool := !s.inReset && s.twn.paired && decide (3 ≤ s.startup)

/-- What TL's status shows: block lock and FEC alignment; of a high error rate, and of FEC alignment while TL is down, no command
tells. (DESIGN CHOICE, log 148.) -/
def State.setTl (s : State) (lock fec : Bool) : State :=
  let up := lock && (!s.twn.fec || fec)
  let s := { s with twn := { s.twn with berFree := some s.free }, free := s.free + 1 }
  let s := (s.setFlag TWN_TL_STATUS_BLOCK_LOCK 0 lock).setFlag TWN_TL_STATUS_FEC_LOCK 0 fec
  if up = s.flag TWN_STATUS_TL_UP then s else (s.setFlag TWN_STATUS_TL_UP 0 up).setFlag TWN_TL_STATUS_UP_CHG 0 true

/-- R457: TL gains block lock. -/
def execTwinLinkUp (s : State) : Host.Outcome State Fault Refusal :=
  .next (if s.tlOn then (s.setTl true s.twn.fec).setCause 744 false else s)

/-- The twin's state is lost to a standby (R431). -/
def State.twinGap (s : State) : State :=
  if s.running && decide (s.role = roleStandby) then (s.inc TWN_CNT1_TL_GAPS).needSync else s

/-- R431: TL loses block lock; frames that wait to be sent are gone. -/
def execTlLinkDown (s : State) : Host.Outcome State Fault Refusal :=
  .next (if s.inReset || !s.flag TWN_STATUS_TL_UP then s
  else
    let s := s.tlGo
    ((({ s with twn := { s.twn with txq := [] } }).setTl false false).raiseCond 744).twinGap)

/-- R428: a TL frame that the receiver drops, whatever its bytes. -/
def execTlFrameRejected (s : State) : Host.Outcome State Fault Refusal :=
  .next (if s.inReset || !s.flag TWN_STATUS_TL_UP then s else s.inc TWN_CNT3_TL_DROP)

/-- Body of a TL message. -/
def tlBody (m : List Byte) : List Byte := m.drop 16

/-- Whole nanoseconds of a DT of ten bytes (R432), which carries no fraction. -/
def ns10 (b : List Byte) (o : Nat) : Nat := (2 ^ 32 * be16 b o + be32 b (o + 2)) * 1000000000 + be32 b (o + 6) % 2 ^ 30

/-- The whole nanosecond in which tick c falls. -/
def nsOfTick (c : Nat) : Nat := c * unitsPerTick / 65536

/-- A DT of ten bytes as a tick: the first of the nanosecond. (DEDUCED, log 145.) -/
def tick10 (b : List Byte) (o : Nat) : Nat := (ns10 b o * 65536 + (unitsPerTick - 1)) / unitsPerTick

/-- The tick that a note means: `known`, where the device holds it and it falls in the note's nanosecond. (DEDUCED, log 145.) -/
def noteTick (known : Option Nat) (b : List Byte) (o : Nat) : Nat :=
  match known with
  | some c => if nsOfTick c = ns10 b o then c else tick10 b o
  | none => tick10 b o

/-- A TL frame has arrived: its sequence is followed, and the loss of the twin is over (R429, R431, R536). -/
def State.tlFrame (s : State) (m : List Byte) : State :=
  let seq := be64 m 4
  let gap := match s.twn.rxSeq with
    | some n => decide (seq ≠ n + 1)
    | none => false
  let s := { s with twn := { s.twn with rxSeq := some seq, rxAt := some s.tick, lost := false, guarded := false } }
  let s := (s.setCause 745 false).setCause 748 false
  if gap then s.twinGap else s

/-- The message that a TL frame carries, from its header on, as long as `LENGTH` says. -/
def tlMsg (f : List Byte) : List Byte := ((noFcs f).drop 14).take (be16 f 16)

/-- The receiver takes the frame: its FCS is right, it is not too long, and its EtherType, destination address and `VERSION` are TL's (R428). -/
def State.tlGood (s : State) (f : List Byte) : Bool :=
  decide (18 ≤ f.length) && decide (f.length ≤ 2048) && decide (le32 f (f.length - 4) = crc32 (noFcs f)) && decide (be16 f 12 = 0x88B5) &&
    decide (be48 f 0 = 0x025A4B000000 + s.reg KFI_STATUS_PORT_STRAP) && decide (u8 f 14 = 1)

/-- A TL frame with a message of type `ty` arrives; one that R428 turns away is dropped and counted. -/
def State.tlReceive (s : State) (ty : Nat) (f : List Byte) (act : List Byte → State → State) : State :=
  let m := tlMsg f
  if !s.tlOn || !s.flag TWN_STATUS_TL_UP then s
  else if !s.tlGood f then s.inc TWN_CNT3_TL_DROP
  else if u8 m 1 ≠ ty ∨ be16 m 2 ≠ m.length then s
  else act (tlBody m) (s.tlFrame m)

/-- The device is a running standby. -/
def State.isStandby (s : State) : Bool := s.running && decide (s.role = roleStandby)

/-! ### Heartbeats (R426, R427, R430, R432, R444) -/

/-- Body of this device's heartbeat. (DESIGN CHOICE, log 50.) -/
def State.beat (s : State) : List Byte :=
  leBytes 1 (if s.twn.deciding.isSome then 4 else s.role) ++
  leBytes 1 (s.reg TWN_STATUS_SYNCED + 2 * s.reg TWN_SYNC_NEED_SYNC + 4 * s.reg TXN_STATUS_QUENCH_BUSY + 8 * s.reg TXN_STATUS_SAFETY_HOLD +
    16 * s.reg KFI_STATUS_PORT_STRAP) ++
  leBytes 1 (s.reg KFI_STATUS_OWN) ++ leBytes 1 (allDoms.foldl (fun m d => withBit m d (s.canOwn d)) 0) ++ beBytes 8 (s.twn.rxSeq.getD 0) ++
  dt10 s.now ++ leBytes 1 (s.reg TWN_STATUS_CAUSE) ++ leBytes 1 0

/-- R430: a heartbeat is sent, from the role decision on; none after a loss of the tree clock (R21). -/
def execHeartbeatSend (s : State) : Host.Outcome State Fault Refusal :=
  .next (if s.tlOn && !s.fab.treeLost && (s.twn.deciding.isSome || decide (s.btu.row = 4)) then s.sendTl 1 s.beat else s)

/-- The sender begins a sync with store 1 (R444). (DEDUCED, log 46.) -/
def State.beginSync (s : State) : State :=
  let busy := (allSlots.filter (fun i => decide ((s.slot i).st ≠ .free))).map s.handle
  let s := (s.readStore 1).inc TWN_CNT1_RESYNCS
  { s with twn := { s.twn with sending := true, mustEnd := busy, syncSeq := 0 } }

/-- The dual-owner rule (R427). -/
def State.dualOwner (s : State) : State :=
  if s.leads && s.twinIn [roleActive, roleSolo] then
    let s := { s with twn := { s.twn with dual := s.twn.dual + 1 } }
    if s.twn.dual = 3 then
      let s := s.raiseCond 752
      if s.flag KFI_STATUS_PORT_STRAP then s.resign 0x0B else s
    else s
  else ({ s with twn := { s.twn with dual := 0 } }).setCause 752 false

/-- What a heartbeat changes in a device that leads; a RESIGN that falls together with it comes first (R426, R427, R444). -/
def State.beatRoles (s : State) (rxSeq : Nat) : State :=
  let stby := decide (s.reg TWN_STATUS_TWIN_ROLE = roleStandby)
  let s := s.judgeTwin
  if s.resignWaits then s
  else if decide (s.role = roleSolo) && stby && s.twn.twinSynced then
    ({ s with twn := { s.twn with sending := false, mustEnd := [] } }).setRole roleActive
  else if decide (s.role = roleSolo) && stby && s.twn.twinNeeds &&
      (!s.twn.sending || (decide (s.reg TWN_SYNC_STORE = 0) && decide (s.twn.syncSeq ≤ rxSeq + 1))) then s.beginSync
  else s

/-- A heartbeat's content. -/
def State.heardBeat (s : State) (b : List Byte) : State :=
  let role := u8 b 0
  if 4 < role then s
  else
    let f := u8 b 1
    let s := s.setReg TWN_STATUS_TWIN_ROLE 0 role
    let s := { s with twn := { s.twn with hbAt := some s.tick, twinSynced := bit f 0, twinNeeds := bit f 1, twinResigned := decide (role = roleResigned)
                                          heardDeciding := s.twn.heardDeciding || (s.twn.deciding.isSome && decide (role = 4)) } }
    if s.twn.deciding.isSome then (if role = roleActive ∨ role = roleSolo then s.takeRole roleStandby else s)
    else
      let s := s.dualOwner
      if s.leads then s.beatRoles (be64 b 4) else s

/-- R432. -/
def execTlHeartbeat (m : List Byte) (s : State) : Host.Outcome State Fault Refusal :=
  .next (s.tlReceive 1 m (fun b s => s.heardBeat b))

/-- R426, R449, R455: no TL frame has arrived for `HB_MISS` × 10 µs, since the last one or since TL was brought up. -/
def execHeartbeatLost (s : State) : Host.Outcome State Fault Refusal :=
  .next (if !s.tlOn || s.twn.lost then s
  else
    let s := s.advance (s.twn.rxAt.getD s.twn.upAt + usTicks (10 * s.reg TWN_CTRL_HB_MISS) - s.tick)
    let s := { s with twn := { s.twn with lost := true, dual := 0 } }
    let s := ((s.setCause 752 false).raiseCond 745).toSolo.stopSync
    (if s.isStandby then ({ s with twn := { s.twn with image := [] } }).setReg TWN_SYNC_STORE 0 0 else s).guard)

/-! ### RESIGN and TXN_NOTE (R434, R437) -/

/-- R437: the twin announces the release of its domains. -/
def execResign (m : List Byte) (s : State) : Host.Outcome State Fault Refusal :=
  .next (s.tlReceive 2 m (fun b s => { s with twn := { s.twn with released := Nat.lor s.twn.released (u8 b 2) } }))

/-- Stage a forwarded transaction with the active's handle (R271, R440). While the plans or the edits of a sync are still lacking, one whose
objects the standby does not hold as the active does is no divergence. -/
def State.stageTwin (s : State) (r : StageReq) (h : Nat) : State :=
  let i := h % 64
  let room := decide (i < 63) && decide ((s.slot i).st = .free) && (s.tilesOf r.plan r.edits).all (fun t => (s.freeBank t).isSome)
  let lacks := s.flag TWN_SYNC_NEED_SYNC && !(s.twn.got.contains 1 && s.twn.got.contains 2)
  if !(s.actionReasons r.plan r.edits).isEmpty && lacks then s
  else if !(s.actionReasons r.plan r.edits).isEmpty || !room then s.diverge
  else
    let s := (s.setSlot i { gen := h / 64 }).allocTxn i r
    let s := s.modSlot i (fun t => { t with stageSrc := .nobody, reportSrc := r.src })
    s.stageCopied i

/-- The commit tick of an instance of list n that lies `off` after its base and in the note's nanosecond: from the base that the standby
holds, or that the list's descriptor gives, moved by whole cycles (R289), where one of them fits. (DEDUCED, log 145.) -/
def State.instanceTick (s : State) (n off : Nat) (b : List Byte) : Nat :=
  let held := (s.calList n).base + off
  if nsOfTick held = ns10 b 4 then held
  else match (s.calList n).desc with
    | some d =>
      let t := s.listCycle n
      let c := tick10 b 4
      let late := d.base.tick + off + (if t = 0 then 0 else (c - (d.base.tick + off)) / t * t)
      if nsOfTick late = ns10 b 4 then late else if t ≠ 0 ∧ nsOfTick (late + t) = ns10 b 4 then late + t else c
    | none => tick10 b 4

/-- The base of list n as an instance of its entry i in cycle k with commit tick c shows it; a list that n replaces stops there (R297,
R304). (DEDUCED, log 112.) -/
def State.noteBase (s : State) (n i k c : Nat) : State :=
  let b := c - (k * s.listCycle n + (s.listEnt n i).rel)
  let late := match (s.calList n).desc with
    | some d => s.flag CAL_L_STATE_LATE n && decide (d.base.tick ≠ b)
    | none => s.flag CAL_L_STATE_LATE n
  let s := if (s.calList n).base = b then s else (s.modCalList n (fun l => { l with base := b })).setFlag CAL_L_STATE_LATE n late
  s.forEach (fun s a => if s.flag CAL_L_STATE_SWAP_PEND a && decide (s.reg CAL_L_STATE_SWAP_WITH a = n)
    then s.modCalList a (fun l => { l with stopAt := some b }) else s) allLists

/-- Notes 1 and 5 of the calendar move the list on (R289, R304, R434). (DEDUCED, log 112.) -/
def State.calNote (s : State) (b : List Byte) : State :=
  let n := u8 b 18
  let st := u8 b 3
  let issued := decide (u8 b 2 = 1)
  if 16 ≤ n then s
  else
    let i := be32 b 20
    let e := s.listEnt n i
    let c := s.instanceTick n (be32 b 24 * s.listCycle n + e.rel) b
    let s := s.noteBase n i (be32 b 24) c
    let s := (s.setReg CAL_L_POS_NEXT n i).modCalList n (fun l => { l with cycle := be32 b 24 })
    let s := if issued then s.setListSt n calRunning else s
    let s := if !e.ess && (issued || decide (st = Status.throttled.code)) then s.modCalList n (fun l => { l with q := l.q + 1 }) else s
    let h := be16 b 0
    let s := if issued && decide (h ≠ 0xFFFF)
      then s.stageTwin { src := .nobody, plan := e.plan, edits := e.edits, commit := some (c * unitsPerTick, c), arrival := s.dt } h else s
    let s := s.nextInstance n
    let s := if issued && (s.calList n).spent && (s.findHandle h).isSome then s.modCalList n (fun l => { l with lastHandle := some h }) else s
    s.endOneShot n

/-- Note 4: the QUENCH tick of the active (R267, R271). -/
def State.quenchNote (s : State) (q : Nat) : State :=
  let s := s.advanceTo q
  s.forEach (fun s t => s.modTile t (fun tl => { (tl.modLanes (fun _ => Lane.stale)) with lastCommit := some q })) (allTiles.filter s.populated)

/-- A note (R434). A note about a transaction that the standby does not hold changes nothing. -/
def State.txnNote (s : State) (b : List Byte) : State :=
  let held := match s.findHandle (be16 b 0) with
    | some i => (s.slot i).commit
    | none => none
  let c := noteTick held b 4
  match u8 b 2, s.findHandle (be16 b 0) with
  | 2, some i => s.modSlot i (fun t => { t with note2 := some c, commit := some c })
  | 3, some i =>
    let st := (statusOf (u8 b 3)).getD .aborted
    let s := if (st = .done ∨ st = .settleLate) ∧ (s.slot i).note2.isSome ∧ !(s.slot i).applied
      then s.shadowCommit i ((s.slot i).commit.getD s.dt) else s
    let s := s.modSlot i (fun t => { t with nLate := be16 b 14, firstLate := be16 b 16 })
    s.endTxn i st
  | 4, _ => s.quenchNote c
  | 1, _ => if s.flag TWN_SYNC_NEED_SYNC && !s.twn.got.contains 4 then s else s.calNote b
  | 5, _ => if s.flag TWN_SYNC_NEED_SYNC && !s.twn.got.contains 4 then s else s.calNote b
  | _, _ => s

/-- R434. -/
def execTxnNote (m : List Byte) (s : State) : Host.Outcome State Fault Refusal :=
  .next (s.tlReceive 3 m (fun b s => if s.isStandby then s.txnNote b else s))

/-! ### Forwarded commands (R433, R439, R440, R445) -/

/-- The host command that a forwarded command carries. -/
def TlCmd.host (c : TlCmd) : HostCmd := { ring := 0, desc := c.data.take 64, data := c.data.drop 64 }

/-- The partner request that it carries. -/
def TlCmd.request (c : TlCmd) : GcrpReq :=
  let d := c.data
  { port := u8 d 0, ntags := u8 d 1, tags := be32 d 2, srcMac := be48 d 6, srcAddr := be64 d 12 * 2 ^ 64 + be64 d 20, srcPort := be16 d 28
    ipv6 := decide (be64 d 12 ≠ 0 ∨ be32 d 20 ≠ 0xFFFF), msg := d.drop 32 }

def TlCmd.admitted (c : TlCmd) : Bool := bit c.flags 0

/-- Store of R444 that a forwarded command writes. -/
def TlCmd.store (c : TlCmd) : Nat := if c.origin = 1 then c.host.store else 7

/-- Stage what an admitted command carries. -/
def State.stageFwd (s : State) (c : TlCmd) : State :=
  if !c.admitted then s
  else if c.origin = 1 then
    let h := c.host
    s.stageTwin { src := .twin c.num, plan := h.stagePlan, edits := h.stageEdits, commit := s.stageCommitArg h, answer := h.stageAnswer,
                  arrival := s.dt } c.handle
  else
    let r := c.request
    let d := s.gcrpDt r
    let obj := be16 r.body 0
    s.stageTwin { src := .partner r.session r.seq r.type, plan := if r.type = 1 then some (obj, u8 r.body 2) else none,
                  edits := if r.type = 1 then [] else [obj], commit := if r.dtValid then some (d.units, d.tick) else none, arrival := s.dt } c.handle

/-- What a forwarded partner request does to the session table: the standby answers nothing itself. -/
def State.sessionFwd (s : State) (r : GcrpReq) : State :=
  if r.type = 5 then match s.gcrpCheck r with
    | some _ => s
    | none => s.endQuarantine.openSession r
  else
    let x := s.sess r.session
    if !x.isOpen then s.diverge
    else match x.decideSeq r.seq with
      | .accepted x =>
        let s := s.setSess r.session (x.refresh r s.tick)
        if r.type = 6 ∧ s.gcrpCheck r = none then s.endSession r.session else s
      | _ => s.diverge

/-- Apply a forwarded command. (DESIGN CHOICE, log 48.) -/
def State.applyTl (s : State) (c : TlCmd) : State :=
  match c.origin with
  | 1 => if c.host.kind = 2 then s.stageFwd c else s.hostExec c.host (.twin c.num)
  | 2 => (s.sessionFwd c.request).stageFwd c
  | 3 => s.endSession (be16 c.data 0)
  | _ => s

/-- The store that a command writes is still lacking. (DESIGN CHOICE, log 48.) -/
def State.lacks (s : State) (store : Nat) : Bool := s.flag TWN_SYNC_NEED_SYNC && decide (store ≠ 0) && !s.twn.got.contains store

/-- A complete command arrives: it is applied, or kept for its store. What it stages is staged at once. -/
def State.takeTl (s : State) (c : TlCmd) : State :=
  let s := { s with twn := { s.twn with frag := none, nextCmd := c.num + 1 } }
  if s.lacks c.store then
    if 4096 ≤ s.twn.kept.length then s.needSync
    else
      let s := s.stageFwd c
      { s with twn := { s.twn with kept := s.twn.kept ++ [{ c with flags := 0 }] } }
  else s.applyTl c

/-- One fragment of a forwarded command. -/
def State.tlFragment (s : State) (b : List Byte) : State :=
  let n := be32 b 4
  let i := be16 b 8
  let data := b.drop 16
  let old := if i = 0 then [] else match s.twn.frag with
    | some f => if f.num = n ∧ f.next = i then f.data else []
    | none => []
  let c : TlCmd := { num := n, origin := u8 b 0, flags := u8 b 1, handle := be16 b 2, data := old ++ data, next := i + 1 }
  if i < be16 b 10 then { s with twn := { s.twn with frag := some c } }
  else if c.data.length ≠ be32 b 12 then s.needSync else s.takeTl c

/-- R440. -/
def execTlCommand (m : List Byte) (s : State) : Host.Outcome State Fault Refusal :=
  .next (s.tlReceive 4 m (fun b s => if s.isStandby then s.tlFragment b else s))

/-- R442: the standby sends the active's GCRP message unchanged from its own port. -/
def execMessage (m : List Byte) (s : State) : Host.Outcome State Fault Refusal :=
  .next (s.tlReceive 5 m (fun b s =>
    let i := be16 b 0
    let g := b.drop 4
    let x := s.sess i
    if !s.isStandby then s
    else if 16384 ≤ i ∨ !x.valid then s.inc TWN_CNT3_TL_DROP
    else (s.emitGcrp x g).setSess i { x with txSeq := (be32 g 8 + 1) % 2 ^ 32 }))

/-! ### Snapshots (R175, R179, R441) -/

/-- First and last populated tile. -/
def State.firstTile (s : State) : Option Nat := allTiles.find? s.populated
def State.lastTile (s : State) : Option Nat := allTiles.reverse.find? s.populated

/-- The round of snapshots after the last SYNC_END (R445). -/
def State.roundStep (s : State) (t first : Nat) : State :=
  let s := if s.twn.round = some 0 ∧ some t = s.firstTile ∧ first = 0 then { s with twn := { s.twn with round := some 1 } } else s
  if s.twn.round = some 1 ∧ some t = s.lastTile ∧ first = 96
  then ({ s with twn := { s.twn with round := none } }).setFlag TWN_STATUS_SYNCED 0 true else s

/-- A SNAPSHOT: records older than the latest commit applied to the tile are discarded. -/
def State.snapshot (s : State) (b : List Byte) : State :=
  let t := u8 b 0
  let first := u8 b 1
  let n := u8 b 2
  let old := match (s.tile t).lastCommit with
    | some c => decide (tick10 b 4 < c)
    | none => false
  if 96 ≤ t ∨ 128 < first + n then s
  else
    let s := if old then s.count TWN_CNT2_SNAP_DISCARD 0 n
      else s.modTile t (fun tl => (List.range n).foldl (fun tl k =>
        if (tl.lane (first + k)).mode = .shadow
        then (tl.modLane (first + k) (fun l => l.ofRecord ((b.drop (16 + 32 * k)).take 32))).takeUa (first + k) else tl) tl)
    s.roundStep t first

/-- R441. -/
def execSnapshot (m : List Byte) (s : State) : Host.Outcome State Fault Refusal :=
  .next (s.tlReceive 6 m (fun b s => if s.isStandby then s.snapshot b else s))

/-- R441: one snapshot frame, of the records captured at the last frame marker; when the tile captured then has been sent, the next
frame waits for the next marker. (DESIGN CHOICE, log 149.) -/
def execSnapshotSend (s : State) : Host.Outcome State Fault Refusal :=
  .next (if !s.tlOn || !s.forwards || s.retiring mtxTwin then s
  else match s.nextGroup s.twn.snapAt with
    | none => s
    | some k =>
      let t := k / 4
      let first := 32 * (k % 4)
      if s.twn.snapTile ≠ some t then s
      else
        let s := s.sendTl 6 (leBytes 1 t ++ leBytes 1 first ++ leBytes 1 32 ++ leBytes 1 0 ++ dt10 (dtOf s.marker) ++ leBytes 2 0 ++
          (List.range 32).flatMap (fun j => (s.twn.snapLanes.read {} (first + j)).bytes))
        let s := if first = 96 then { s with twn := { s.twn with snapTile := none } } else s
        { s with twn := { s.twn with snapAt := (k + 1) % 384 } })

/-! ### Synchronising a standby (R438, R444, R445) -/

/-- R438: part of a store image. (DESIGN CHOICE, log 48.) -/
def execSyncData (m : List Byte) (s : State) : Host.Outcome State Fault Refusal :=
  .next (s.tlReceive 7 m (fun b s =>
    let store := u8 b 0
    let off := be32 b 4
    if !s.isStandby || !s.flag TWN_SYNC_NEED_SYNC then s
    else
      let s := if store = 1 ∧ off = 0 then ({ s with twn := { s.twn with got := [], round := none } }).inc TWN_CNT1_RESYNCS else s
      let s := if off = 0 then ({ s with twn := { s.twn with image := [] } }).setReg TWN_SYNC_STORE 0 store else s
      if off = s.twn.image.length then { s with twn := { s.twn with image := s.twn.image ++ (b.drop 16).take (be32 b 8) } } else s))

/-- The state of a list as store 0x04 carries it. An index past the list's entries says that a one-shot list has none left; the boundaries
passed follow from the live base. -/
def State.putCalImg (s : State) (n : Nat) (i : CalImg) : State :=
  let (count, t) := match i.desc with
    | some d => (d.count, d.cycle)
    | none => (0, 0)
  let spent := decide (t = 0) && decide (count ≤ i.next)
  let passed := if t = 0 then 0 else (s.dt - i.base) / t
  let s := (s.setListSt n i.st).modCalList n (fun l =>
    { l with desc := i.desc, base := i.base, q := i.q, cycle := i.cycle, passed := passed, spent := spent, stopAt := none, stopSrc := .nobody,
             lastHandle := none })
  let s := ((s.setFlag CAL_L_STATE_LATE n i.late).setFlag CAL_L_STATE_SWAP_PEND n i.swapPend).setFlag CAL_L_STATE_STOP_PEND n i.stopPend
  ((s.setReg CAL_L_STATE_SWAP_WITH n i.swapWith).setReg CAL_L_POS_NEXT n (if spent then count - 1 else i.next)).setReg CAL_L_CYCLES_CYCLES n passed

/-- The boundary at which a synchronised list is to be replaced or to stop: the live base of its replacement, or the first one at least
`CAL_LEAD` from now; the store does not carry it (R297, R298, R438). (DEDUCED, log 112.) -/
def State.putStopAt (s : State) (n : Nat) : State :=
  if s.flag CAL_L_STATE_SWAP_PEND n then s.modCalList n (fun l => { l with stopAt := some (s.calList (s.reg CAL_L_STATE_SWAP_WITH n)).base })
  else if s.flag CAL_L_STATE_STOP_PEND n && decide (s.listCycle n ≠ 0)
  then s.modCalList n (fun l => { l with stopAt := some (s.boundaryFrom n (s.dt + s.leadTicks)) })
  else s

/-- A session record of a store image, whose age field holds `IDLE_AGE` in 100 ms. -/
def State.putSess (s : State) (i : Nat) (x : Sess) : State :=
  s.setSess i { x with ageAt := if x.quar then s.tick + s.reg CPX_GCRP_QUAR * tenthTicks else s.tick - x.ageAt * tenthTicks }

/-- A store takes the content of its image. (DESIGN CHOICE, log 48.) -/
def State.putStore (s : State) (img : StoreImg) : State :=
  match img with
  | .plans t => { s with txn := { s.txn with plans := t } }
  | .edits t => { s with txn := { s.txn with edits := t } }
  | .tiles ts => ts.foldl (fun s (p : Nat × TileImg) => (s.modTile p.1 (fun tl =>
      { tl with gain := p.2.gain, lcfg := p.2.lcfg, curves := p.2.curves, firefly := p.2.firefly })).loopBank p.1) s
  | .calendar pool ls =>
    (ls.foldl (fun (s : State) (p : Nat × CalImg) => s.putCalImg p.1 p.2) { s with cal := { s.cal with pool := pool } }).forEach State.putStopAt allLists
  | .admission ts ps => ({ s with adm := { s.adm with tenants := ts, profiles := ps } }).admStatus
  | .classifier live standby ver mode chain modeLive chainLive =>
    let s := { s with cpx := { s.cpx with live := live, standby := standby } }
    let s := ((s.setReg CPX_STATUS_LIVE_VER 0 ver).setFlag CPX_CTRL_MODE 0 mode).setFlag CPX_CTRL_CHAIN 0 chain
    (s.setFlag CPX_CTRL_MODE_LIVE 0 modeLive).setFlag CPX_CTRL_CHAIN_LIVE 0 chainLive
  | .sessions t => (t.foldl (fun (s : State) (p : Nat × Sess) => s.putSess p.1 p.2) { s with cpx := { s.cpx with sessions := [] } }).sessPeak

/-- Number of a store image. -/
def StoreImg.number : StoreImg → Nat
  | .plans _ => 1
  | .edits _ => 2
  | .tiles _ => 3
  | .calendar _ _ => 4
  | .admission _ _ => 5
  | .classifier _ _ _ _ _ _ _ => 6
  | .sessions _ => 7

/-- A received image rewrites its store (R604). -/
def State.healStore (s : State) (store : Nat) : State :=
  match store with
  | 1 => s.heal (planAddr 1) (255 * 0xC000)
  | 2 => s.modMtx (fun m => { m with bad := m.bad.filter (fun w => !inEdits w.1) })
  | 4 => s.heal (poolAddr 0) 0x400000
  | _ => s

/-- A store is complete: the kept commands that its image does not hold are applied in order. -/
def State.storeDone (s : State) (img : StoreImg) (last : Nat) : State :=
  let n := img.number
  let s := ((s.putStore img).healStore n).setReg TWN_SYNC_STORE 0 0
  let mine := s.twn.kept.filter (fun c => decide (c.store = n))
  let s := { s with twn := { s.twn with got := n :: s.twn.got, image := [], kept := s.twn.kept.filter (fun c => decide (c.store ≠ n)) } }
  let s := (mine.filter (fun c => decide (last < c.num))).foldl State.applyTl s
  if [1, 2, 3, 4, 5, 6, 7].all s.twn.got.contains
  then ({ s with twn := { s.twn with round := some 0 } }).setFlag TWN_SYNC_NEED_SYNC 0 false else s

/-- R445: `img` is what the received bytes mean; for store 0x04 those of its lists follow the SYNC_END (R438). (DEDUCED, log 46; DESIGN CHOICE, log 48.) -/
def execSyncEnd (m : List Byte) (img : StoreImg) (s : State) : Host.Outcome State Fault Refusal :=
  .next (s.tlReceive 8 m (fun b s =>
    if !s.isStandby || !s.flag TWN_SYNC_NEED_SYNC then s
    else if be32 b 8 ≠ s.twn.image.length ∨ be32 b 12 ≠ crc32 s.twn.image ∨ u8 b 0 ≠ img.number ∨ u8 b 0 ≠ s.reg TWN_SYNC_STORE ∨
      img.bytes ≠ s.twn.image ∨ img.tail ≠ b.drop 16
    then s.needSync
    else s.storeDone img (be32 b 4)))

/-- The sender goes on to the next store, or has sent the last one; what it held for this store runs. (DEDUCED, log 46.) -/
def State.nextStore (s : State) (store : Nat) : State :=
  let s := { s with twn := { s.twn with image := [], tail := [], sent := 0, syncSeq := if s.twn.txq.isEmpty then s.twn.txSeq else 2 ^ 64 } }
  let s := if store < 7 then s.readStore (store + 1) else s.setReg TWN_SYNC_STORE 0 0
  let s := s.runHeld (fun k => decide (k = store))
  if store = 7 then s.runReqs else s

/-- R605: an error response restarts the synchronisation in progress, sent or received. (DESIGN CHOICE, log 124.) -/
def State.restartSync (s : State) : State :=
  if s.twn.sending then s.stopSync.beginSync
  else if s.isStandby && s.flag TWN_SYNC_NEED_SYNC then s.needSync
  else s

/-- An uncorrectable word in a store, as far as the manual gives its place (R237, R244, R280). -/
def State.badStore (s : State) (store : Nat) : Option (Nat × Nat) :=
  match store with
  | 1 => s.badIn (planAddr 1) (255 * 0xC000)
  | 2 => s.mtx.bad.find? (fun w => inEdits w.1)
  | 4 => s.badIn (poolAddr 0) 0x400000
  | _ => none

/-- R438, R444: the sender's next frame: `data`, the bytes that follow of the present store's image, or its SYNC_END when all have been sent; a
store that cannot be read restarts the sync (R605). A retiring link issues nothing (R606). -/
def execSyncSend (data : List Byte) (last : Bool) (s : State) : Host.Outcome State Fault Refusal :=
  .next (
    let store := s.reg TWN_SYNC_STORE
    let img := s.twn.image
    let rest := img.drop s.twn.sent
    if !s.leads || !s.twn.sending || decide (store = 0) || s.retiring mtxTwin then s
    else if last then
      if rest ≠ [] ∨ store = 7 ∧ s.twn.mustEnd ≠ [] then s
      else
        (s.sendTl 8 (leBytes 1 store ++ leBytes 3 0 ++ beBytes 4 s.twn.lastCmd ++ beBytes 4 img.length ++ beBytes 4 (crc32 img) ++ s.twn.tail)).nextStore store
    else if let some w := s.badStore store then (s.eccError (8 * w.1) false).restartSync
    else if data = [] ∨ 1984 < data.length ∨ !data.isPrefixOf rest then s
    else
      let s := s.sendTl 7 (leBytes 1 store ++ leBytes 3 0 ++ beBytes 4 s.twn.sent ++ beBytes 4 data.length ++ leBytes 4 0 ++ data)
      { s with twn := { s.twn with sent := s.twn.sent + data.length } })

end Sys2Proof.Machine
end

