-- ==== Sys2Proof/Machine/Interlock.lean ====
section
/-! DEFINITION. The safety interlock unit: channels, inputs, the two-hand enable, outputs and their tests, states, resets, QUENCH and the
safety hold, presence and configuration (chapter 13). -/

namespace Sys2Proof.Machine

open Reg

/-! ### Inputs (R466, R469, R501) -/

/-- State codes of R469. -/
abbrev inPermit : Nat := 0
abbrev inDisagree : Nat := 1
abbrev inSafe : Nat := 2
abbrev inReturn : Nat := 3
abbrev inIncomplete : Nat := 4
abbrev inFault : Nat := 5

/-- State codes of R480. -/
abbrev sInit : Nat := 0
abbrev sStop : Nat := 1
abbrev sOn : Nat := 2
abbrev sDegraded : Nat := 3
abbrev sFault : Nat := 4

/-- Inputs in the order of `SIU_INPUTS`: ES, DG, TH1, TH2, LC; the stop inputs among them. -/
def siuInputs : List Nat := [0, 1, 2, 3, 4]
def stopInputs : List Nat := [0, 1, 4]

def State.siuWord (s : State) : Nat := (s.word SIU_INPUTS_ES.off).toNat
def State.inSt (s : State) (i : Nat) : Nat := getBits s.siuWord (4 * i) 4
def State.setIn (s : State) (i v : Nat) : State := s.setWord SIU_INPUTS_ES.off (BitVec.ofNat 32 (setBits s.siuWord (4 * i) 4 v))

def State.siuState (s : State) : Nat := s.reg SIU_STATUS_STATE

/-- Accepted level of channel c: 0 to 9 the channels of the inputs, 10 `SAFE_RST`, 11 `SAFE_EDM`. -/
def State.chan (s : State) (c : Nat) : Bool := bit s.siu.level c

/-- Channels of input i at the permit side. -/
def State.permits (s : State) (i : Nat) : Nat := b2n (s.chan (2 * i)) + b2n (s.chan (2 * i + 1))

/-- The safety island works: it has left the reset of R464. -/
def State.siuOn (s : State) : Bool := s.pins.porstN

/-! ### Sampling (R468, R483) -/

/-- The edges of an accepted `SAFE_RST`. -/
def State.rstEdge (s : State) (pressed : Bool) : State :=
  let u := s.siu
  if pressed then { s with siu := { u with rstAt := some u.samples, rstStuck := false } }
  else { s with siu := { u with rstAt := none, rstStuck := false, rstLen := if u.rstStuck then none else u.rstAt.map (fun t => u.samples - t) } }

/-- One sample of channel c. (DEDUCED, log 51.) -/
def State.sampleChan (s : State) (raw c : Nat) : State :=
  let u := s.siu
  let n := u.runs.read 0 c + 1
  if bit raw c = bit u.level c then { s with siu := { u with runs := u.runs.write 0 c 0 } }
  else if n ≤ 32 * s.reg SIU_CFG0_T_FILT then { s with siu := { u with runs := u.runs.write 0 c n } }
  else
    let s := { s with siu := { u with runs := u.runs.write 0 c 0, level := withBit u.level c (bit raw c) } }
    let s := s.setWord SIU_INPUTS_ES.off (BitVec.ofNat 32 (withBit s.siuWord (20 + c) (bit raw c)))
    if c = 10 then s.rstEdge (bit raw c) else s

/-- R468: one sample of every channel; bit c of `raw` is channel c. -/
def execSiuChannelSample (raw : Nat) (s : State) : Host.Outcome State Fault Refusal :=
  .next (if !s.siuOn then s
  else ({ s with siu := { s.siu with samples := s.siu.samples + 1, raw := raw } }).forEach (fun s c => s.sampleChan raw c) (List.range 12))

/-- R483: the trailing edge of a press of 100 ms to 5 s requests a reset. -/
def execSafeRstRelease (s : State) : Host.Outcome State Fault Refusal :=
  .next (match s.siu.rstLen with
    | some n => { s with siu := { s.siu with rstLen := none, request := s.siu.request + b2n (decide (3200 ≤ n) && decide (n ≤ 160000)) } }
    | none => s)

/-- R483: a press has lasted longer than 5 s. -/
def execSafeRstStuck (s : State) : Host.Outcome State Fault Refusal :=
  .next (match s.siu.rstAt with
    | some t =>
      if s.siu.rstStuck then s
      else (({ s with siu := { s.siu with rstStuck := true, samples := max s.siu.samples (t + 160001) } }).advance
        (40000 * (t + 160001 - s.siu.samples))).raise 785
    | none => s)

/-! ### Presence (R488, R489) -/

/-- A press or an activation opens the window, or starts its full length again. (DESIGN CHOICE, log 52.) -/
def State.openPresence (s : State) : State :=
  let before := s.presence
  let s := { s with siu := { s.siu with presEnd := some (s.tick + s.reg SIU_CFG1_PRES_WIN * ticksPerSec) } }
  let s := s.setFlag SIU_STATUS_PRES_OPEN 0 true
  if before then s else s.raise 787

def State.closePresence (s : State) : State := ({ s with siu := { s.siu with presEnd := none } }).setFlag SIU_STATUS_PRES_OPEN 0 false

/-- R488: the filtered falling edge of `PRESENCE_N`. -/
def execPresencePress (s : State) : Host.Outcome State Fault Refusal :=
  .next (if !s.siuOn then s
  else
    let s := { s with siu := { s.siu with presLow := some s.tick } }
    if s.siu.presStuck then s else s.openPresence)

/-- R489: the window's time ends. -/
def execPresenceWindowExpiry (s : State) : Host.Outcome State Fault Refusal :=
  .next (match s.siu.presEnd with
    | some t => (s.advance (t - s.tick)).closePresence
    | none => s)

/-- R489: the filtered `PRESENCE_N` has stayed low for more than 10 s. -/
def execPresenceStuck (s : State) : Host.Outcome State Fault Refusal :=
  .next (match s.siu.presLow with
    | some t =>
      if s.siu.presStuck then s
      else
        let s := (s.advance (t + 10 * ticksPerSec + 1 - s.tick)).closePresence
        ((({ s with siu := { s.siu with presStuck := true } }).setFlag SIU_STICKY_PRES_STUCK 0 true)).raise 788
    | none => s)

/-- R489: it has stayed high for 1 s. -/
def execPresenceStuckEnd (s : State) : Host.Outcome State Fault Refusal :=
  .next (if s.siu.presStuck then { s with siu := { s.siu with presStuck := false, presLow := none } } else s)

/-! ### Configuration (R491, R497 to R499) -/

/-- The pending values become live, in `S_INIT`, `S_STOP` and `S_FAULT` only. -/
def State.cfgCommit (s : State) : State :=
  if s.siuState = sOn ∨ s.siuState = sDegraded then s.raise 790
  else
    let u := s.siu
    let s := (s.setWord SIU_CFG0_T_DISC.off (BitVec.ofNat 32 u.cfg0)).setWord SIU_CFG1_DEGRADE_MIN.off (BitVec.ofNat 32 u.cfg1)
    let s := s.setReg SIU_CFG_CRC_CFG_CRC 0 (siuCrc u.cfg0 u.cfg1)
    (({ s with siu := { s.siu with crcSet := true } }).cfgPend).raise 789

/-- RESET_REQ requests a reset when `HOST_RST_EN` = 1 (R483). -/
def State.resetReq (s : State) : State := if s.flag SIU_CFG0_HOST_RST_EN then { s with siu := { s.siu with request := s.siu.request + 1 } } else s

/-- What a write of v to `SIU_CMD` starts; its RWP bits act inside a presence window only. -/
def State.siuCmd (v : Nat) (s : State) : State :=
  let s := s.setReg SIU_CMD_PRES_CLOSE 0 0
  let s := if s.presence && bit v 0 then s.cfgCommit else s
  let s := if s.presence && bit v 1 then s.resetReq else s
  if bit v 2 then s.closePresence else s

/-- R491. -/
def execCfgCommit (s : State) : Host.Outcome State Fault Refusal := .next (s.hostWrite SIU_CMD_CFG_COMMIT.off 1 (State.siuCmd 1))
/-- R483. -/
def execResetReq (s : State) : Host.Outcome State Fault Refusal := .next (s.hostWrite SIU_CMD_CFG_COMMIT.off 2 (State.siuCmd 2))
/-- R489. -/
def execPresClose (s : State) : Host.Outcome State Fault Refusal := .next (s.hostWrite SIU_CMD_CFG_COMMIT.off 4 (State.siuCmd 4))

/-! ### Outputs and states (R475 to R481) -/

def State.outputsOn (s : State) : Bool := decide (s.siuState = sOn ∨ s.siuState = sDegraded)

/-- Enter a state: the outputs follow it, and a change of theirs makes a check of `SAFE_EDM` due. After `S_FAULT` no start goes without a
reset on account of an earlier stop (R484). -/
def State.enterSiu (s : State) (st : Nat) : State :=
  let before := s.outputsOn
  let s := s.setReg SIU_STATUS_STATE 0 st
  let now := s.outputsOn
  let s := { s with siu := { s.siu with starting := false, clearing := false, stopBy := if st = sFault then 0 else s.siu.stopBy } }
  if before = now then s
  else
    let s := (s.setFlag SIU_OUTPUTS_SO_A_ON 0 now).setFlag SIU_OUTPUTS_SO_B_ON 0 now
    { s with siu := { s.siu with testing := none, edmDue := true, edmOn := false, offA := 0, offB := 0, onA := 0, onB := 0 } }

/-- Leaving `S_FAULT` ends the conditions that last until then (R536). -/
def State.leaveFault (s : State) : State := (s.setCause 779 false).setCause 780 false

def State.outFail (s : State) (x : Nat) : Nat := s.reg (if x = 0 then SIU_OUTPUTS_FAIL_A else SIU_OUTPUTS_FAIL_B)

/-- Mark channel x (0 SO_A, 1 SO_B) with a cause code; a finding that the mark already names is no new one (R477, R536). -/
def State.markOut (s : State) (x code : Nat) : State :=
  if s.outFail x = code then s else (s.setReg (if x = 0 then SIU_OUTPUTS_FAIL_A else SIU_OUTPUTS_FAIL_B) 0 code).raiseCond (776 + x)

/-- A channel passes the output self-test: its mark goes. -/
def State.unmarkOut (s : State) (x : Nat) : State :=
  let s := (s.setReg (if x = 0 then SIU_OUTPUTS_FAIL_A else SIU_OUTPUTS_FAIL_B) 0 0).setCause (776 + x) false
  { s with siu := if x = 0 then { s.siu with failsA := 0 } else { s.siu with failsB := 0 } }

/-- `S_FAULT` with an internal fault or a configuration check failure. -/
def State.internalFault (s : State) : State := (if s.cause 781 then s.setFlag SIU_FAULT_INTERNAL 0 true else (s.setFlag SIU_FAULT_INTERNAL 0 true).raiseCond 781).enterSiu sFault

/-- `S_FAULT` with an output fault. -/
def State.outputFault (s : State) : State := (s.setFlag SIU_FAULT_OUT_FAULT 0 true).enterSiu sFault

/-- `S_DEGRADED`: the timer starts (R478). (DEDUCED, log 53.) -/
def State.degrade (s : State) : State :=
  let s := s.enterSiu sDegraded
  ({ s with siu := { s.siu with degAt := s.siu.evals, degMin := s.reg SIU_CFG1_DEGRADE_MIN } }).raise 778

/-- R481: the self-test of `S_INIT` ends. -/
def execSiuSelfTestDone (pass : Bool) (s : State) : Host.Outcome State Fault Refusal :=
  .next (if !s.siuOn || decide (s.siuState ≠ sInit) then s else if pass then s.enterSiu sStop else s.internalFault)

/-- R491: the CRC of the live configuration is computed again. (DESIGN CHOICE, log 52.) -/
def execCfgCrcCheck (s : State) : Host.Outcome State Fault Refusal :=
  .next (if !s.siuOn || !s.siu.crcSet then s
  else if siuCrc (s.word SIU_CFG0_T_DISC.off).toNat (s.word SIU_CFG1_DEGRADE_MIN.off).toNat = s.reg SIU_CFG_CRC_CFG_CRC then s
  else s.internalFault)

/-- R476: an off-pulse test of channel x. In `S_DEGRADED` only the healthy channel is tested. -/
def execOutputTest (x : Nat) (s : State) : Host.Outcome State Fault Refusal :=
  .next (if !s.siuOn || decide (2 ≤ x) || !s.outputsOn || s.siu.testing.isSome || (decide (s.siuState = sDegraded) && decide (s.outFail x ≠ 0)) then s
  else ({ s with siu := { s.siu with testing := some x } }).setFlag (if x = 0 then SIU_OUTPUTS_SO_A_ON else SIU_OUTPUTS_SO_B_ON) 0 false)

/-- R476: the test ends; `fell` tells that the readback fell below V_RBL within 400 µs. -/
def execOutputTestEnd (fell : Bool) (s : State) : Host.Outcome State Fault Refusal :=
  .next (match s.siu.testing with
    | none => s
    | some x =>
      let u := s.siu
      let s := { s with siu := { u with testing := none, failsA := if x = 0 then (if fell then 0 else u.failsA + 1) else u.failsA
                                        failsB := if x = 0 then u.failsB else (if fell then 0 else u.failsB + 1) } }
      let s := s.setFlag (if x = 0 then SIU_OUTPUTS_SO_A_ON else SIU_OUTPUTS_SO_B_ON) 0 true
      if fell then s else s.inc SIU_CNT2_PULSE_FAIL)

/-- R478: the degraded timer expires. -/
def execDegradeExpiry (s : State) : Host.Outcome State Fault Refusal :=
  .next (if !s.siuOn || decide (s.siuState ≠ sDegraded) then s
  else
    let e := s.siu.degAt + 240000 * s.siu.degMin
    let s := ({ s with siu := { s.siu with evals := max s.siu.evals e } }).advance (320000 * (e - s.siu.evals))
    ((s.setFlag SIU_FAULT_DEGRADE_EXP 0 true).raiseCond 779).enterSiu sFault)

/-- The EDM fault: an output fault of both channels (R477, R479). (DESIGN CHOICE, log 52.) -/
def State.edmFault (s : State) : State := (((s.markOut 0 4).markOut 1 4).raiseCond 780).outputFault

/-- R479: 300 ms after a switch `SAFE_EDM` reads safe with the outputs on, and permit with them off. -/
def execEdmCheck (s : State) : Host.Outcome State Fault Refusal :=
  .next (if !s.siuOn || !s.siu.edmDue then s
  else
    let s := { s with siu := { s.siu with edmDue := false, edmOn := s.outputsOn } }
    if s.flag SIU_CFG0_EDM_EN && decide (s.chan 11 = s.outputsOn) then s.edmFault else s)

/-! ### Inputs at an evaluation (R470 to R473, R486) -/

/-- The next state of an input with p of its channels at the permit side; `late` tells that D is above `T_DISC`. -/
def nextInput (st p : Nat) (late : Bool) : Nat :=
  match st with
  | 0 => if p = 2 then inPermit else if p = 0 then inSafe else inDisagree
  | 1 => if p = 0 then inSafe else if p = 2 then inIncomplete else if late then inFault else inDisagree
  | 2 => if p = 2 then inPermit else if p = 1 then inReturn else inSafe
  | 3 => if p = 2 then inPermit else if p = 0 then inSafe else if late then inFault else inReturn
  | 4 => if p = 0 then inSafe else if p = 1 then inDisagree else inIncomplete
  | _ => inFault

/-- A QUENCH demand, with the safety hold (R486, R487). (DESIGN CHOICE, log 81.) -/
def State.siuQuench (s : State) : State :=
  let s := ((s.inc SIU_CNT2_QUENCHES).raise 783).setFlag SIU_STATUS_SAFETY_HOLD 0 true
  if s.inReset then s else ({ s with txn := { s.txn with demands := s.txn.demands + 1 } }).setFlag TXN_STATUS_SAFETY_HOLD 0 true

/-- Does a departure of input i raise QUENCH? (DEDUCED, log 53.) -/
def State.quenchInput (s : State) (i : Nat) : Bool :=
  decide (i = 0) || (decide (i = 1) && s.flag SIU_CFG0_DG_QUENCH) || (decide (i = 4) && s.flag SIU_CFG0_LC_QUENCH)

/-- Input i enters a state. The door guard's demands are counted where its override is known (`countGuard`). (DEDUCED, log 53.) -/
def State.enterInput (s : State) (i st : Nat) : State :=
  let old := s.inSt i
  if old = st then s
  else
    let s := s.setIn i st
    let s := if st = inDisagree ∨ st = inReturn ∨ st = inPermit then { s with siu := { s.siu with since := s.siu.since.set i s.siu.evals } } else s
    let s := if st = inIncomplete then s.inc SIU_CNT1_INCOMPLETE else s
    let s := if st = inFault then ((s.setReg SIU_FAULT_DISC 0 (withBit (s.reg SIU_FAULT_DISC) i true)).inc SIU_CNT0_DISC_FAULTS).raiseCond (771 + i) else s
    if old = inPermit ∧ i ∈ stopInputs then
      let s := (if i = 1 then s else s.inc SIU_CNT0_DEMANDS).raise (if i = 4 then 770 else 768 + i)
      if s.quenchInput i then s.siuQuench else s
    else s

/-- One input at an evaluation after the first. -/
def State.evalInput (s : State) (i : Nat) : State :=
  let late := decide (4 * s.reg SIU_CFG0_T_DISC < s.siu.evals - s.siu.since.getD i 0)
  let s := s.enterInput i (nextInput (s.inSt i) (s.permits i) late)
  if s.inSt i = inFault ∧ s.permits i = 0 then s.setReg SIU_FAULT_SEEN_SAFE 0 (withBit (s.reg SIU_FAULT_SEEN_SAFE) i true) else s

/-- The state in which an input's channels place it. -/
def placedIn (p : Nat) : Nat := if p = 2 then inPermit else if p = 0 then inSafe else inReturn

/-- The first evaluation after `S_INIT` (R469, R486). -/
def State.placeInput (s : State) (i : Nat) : State :=
  let st := placedIn (s.permits i)
  let s := (s.setIn i st)
  let s := { s with siu := { s.siu with since := s.siu.since.set i s.siu.evals } }
  if decide (st ≠ inPermit) && decide (i ∈ stopInputs) && s.quenchInput i then s.siuQuench else s

/-- Every input at an evaluation. -/
def State.evalInputs (s : State) : State :=
  if s.siu.placed then s.forEach State.evalInput siuInputs
  else { (s.forEach State.placeInput siuInputs) with siu := { (s.forEach State.placeInput siuInputs).siu with placed := true } }

/-- A stop input demands, the overridden door guard apart (R472, R474). -/
def State.demands (s : State) (i : Nat) : Bool :=
  decide (s.inSt i ≠ inPermit) && !(decide (i = 1) && s.flag SIU_STATUS_DG_BYPASSED)
def State.demanding (s : State) : List Nat := stopInputs.filter s.demands

/-- A demand of the door guard that begins at this evaluation: the guard leaves `PERMIT`, or the enable that overrode it ends (R474). -/
def State.countGuard (s : State) (before : Bool) : State := if !before && s.demands 1 then s.inc SIU_CNT0_DEMANDS else s

/-- The override of the door guard follows the enable (R474). -/
def State.bypass (s : State) : State :=
  s.setFlag SIU_STATUS_DG_BYPASSED 0 (s.flag SIU_STATUS_TH_ACTIVE && s.flag SIU_CFG0_TH_BYPASS_DG && decide (s.inSt 1 ≠ inPermit))

/-- The two-hand service enable at an evaluation (R473); answers whether it becomes active. -/
def State.evalHands (s : State) : State × Bool :=
  let both := decide (s.inSt 2 = inPermit) && decide (s.inSt 3 = inPermit)
  let u := s.siu
  let seen := withBit (withBit u.handSafe 0 (bit u.handSafe 0 || decide (s.inSt 2 = inSafe))) 1 (bit u.handSafe 1 || decide (s.inSt 3 = inSafe))
  let a := u.since.getD 2 0
  let b := u.since.getD 3 0
  let gap := max a b - min a b
  if s.flag SIU_STATUS_TH_ACTIVE then
    if both then (s, false) else ((({ s with siu := { u with handSafe := seen } }).setFlag SIU_STATUS_TH_ACTIVE 0 false).bypass, false)
  else if both && decide (seen = 3) then
    if gap ≤ 2000 then
      ((({ s with siu := { u with handSafe := 0 } }).setFlag SIU_STATUS_TH_ACTIVE 0 true).bypass.openPresence, true)
    else (({ s with siu := { u with handSafe := 0 } }).raise 786, false)
  else ({ s with siu := { u with handSafe := seen } }, false)

/-! ### Findings (R477) -/

/-- Readback limits in mV: V_RBL, and V_RBH for a supply. -/
abbrev rbLow : Nat := 5000
def rbHigh (vsafe : Nat) : Nat := vsafe - 3000

/-- Consecutive evaluations of a condition. -/
def runLen (b : Bool) (n : Nat) : Nat := if b then n + 1 else 0

/-- Readbacks at an evaluation: registers and runs. A channel under test is not judged. -/
def State.readbacks (s : State) (e : SiuEnv) : State :=
  let u := s.siu
  let a := s.flag SIU_OUTPUTS_SO_A_ON
  let b := s.flag SIU_OUTPUTS_SO_B_ON
  let ta := decide (u.testing = some 0)
  let tb := decide (u.testing = some 1)
  let hi := rbHigh e.vsafe
  let s := (s.setFlag SIU_OUTPUTS_RB_A 0 (decide (hi < e.rbA))).setFlag SIU_OUTPUTS_RB_B 0 (decide (hi < e.rbB))
  { s with siu := { u with
    offA := runLen (!a && !ta && !u.starting && decide (rbLow < e.rbA)) u.offA, offB := runLen (!b && !tb && !u.starting && decide (rbLow < e.rbB)) u.offB
    onA := runLen (a && decide (e.rbA < hi)) u.onA, onB := runLen (b && decide (e.rbB < hi)) u.onB } }

/-- Channel x is found stuck on: by two failed tests, until it is marked for them, or by its readback while off, marked or not. -/
def State.stuckOn (s : State) (x : Nat) : Bool :=
  let u := s.siu
  (decide (s.outFail x = 0) && decide (2 ≤ if x = 0 then u.failsA else u.failsB)) || decide (2 ≤ if x = 0 then u.offA else u.offB)

/-- Mark the channels with a finding; answers whether one was found that leads to `S_FAULT`, and whether one is stuck on. -/
def State.findings (s : State) (e : SiuEnv) : State × Bool × Bool :=
  let u := s.siu
  let sa := s.stuckOn 0
  let sb := s.stuckOn 1
  let s := if sa then s.markOut 0 1 else s
  let s := if sb then s.markOut 1 1 else s
  let la := decide (2 ≤ u.onA) || e.limA
  let lb := decide (2 ≤ u.onB) || e.limB
  let s := if la then s.markOut 0 (if 2 ≤ u.onA then 2 else 3) else s
  let s := if lb then s.markOut 1 (if 2 ≤ u.onB then 2 else 3) else s
  (s, la || lb || (sa && sb), sa || sb)

/-! ### Resets and starts (R482, R484) -/

/-- The conditions of a start. -/
def State.startOk (s : State) (e : SiuEnv) : Bool :=
  s.demanding.isEmpty && decide (s.inSt 2 ≠ inFault) && decide (s.inSt 3 ≠ inFault) && decide (18000 ≤ e.vsafe) &&
    (!s.flag SIU_CFG0_EDM_EN || s.chan 11)

def State.refuseReset (s : State) : State := (s.inc SIU_CNT1_RESET_REFUSED).raise 784

/-- Inputs in `FAULT` take the state that their channels show. -/
def State.clearInput (s : State) (i : Nat) : State :=
  if s.inSt i = inFault then
    let st := if s.permits i = 2 then inPermit else inSafe
    ({ (s.setIn i st) with siu := { s.siu with since := s.siu.since.set i s.siu.evals } }).setCause (771 + i) false
  else s

/-- A reset accepted in `S_FAULT`: the latches clear. -/
def State.acceptClear (s : State) : State :=
  let s := s.forEach State.clearInput siuInputs
  let s := ((s.setReg SIU_FAULT_DISC 0 0).setReg SIU_FAULT_SEEN_SAFE 0 0).setFlag SIU_FAULT_OUT_FAULT 0 false
  let s := ((s.setFlag SIU_FAULT_DEGRADE_EXP 0 false).setFlag SIU_FAULT_INTERNAL 0 false).setCause 781 false
  (s.enterSiu sStop).leaveFault

/-- Every input in `FAULT` has been seen safe. -/
def State.faultsSeen (s : State) : Bool := siuInputs.all (fun i => decide (s.inSt i ≠ inFault) || bit (s.reg SIU_FAULT_SEEN_SAFE) i)

/-- Every request that waits is refused, each counted (R482). -/
def State.refuseAll (s : State) : State :=
  ({ s with siu := { s.siu with request := 0 } }).forEach (fun s _ => s.refuseReset) (List.range s.siu.request)

/-- Decide the reset requests of an evaluation: all alike, on what it finds. (DEDUCED, log 53.) -/
def State.decideReset (s : State) (e : SiuEnv) : State :=
  if s.siu.request = 0 then s
  else
    let t := { s with siu := { s.siu with request := 0 } }
    if s.siuState = sStop ∧ !s.siu.starting then (if s.startOk e then { t with siu := { t.siu with starting := true } } else s.refuseAll)
    else if s.siuState = sFault ∧ !s.siu.clearing then
      if !s.faultsSeen || e.mismatch then s.refuseAll
      else if s.flag SIU_FAULT_DEGRADE_EXP then { t with siu := { t.siu with clearing := true } }
      else t.acceptClear
    else s.refuseAll

/-- A start without a reset (R474, R484). -/
def State.autoStart (s : State) (e : SiuEnv) (hands : Bool) : State :=
  let u := s.siu
  let back := stopInputs.all (fun i => decide (s.inSt i = inPermit))
  let auto := (back && (decide (u.stopBy = 2) && s.flag SIU_CFG0_DG_AUTO || decide (u.stopBy = 16) && s.flag SIU_CFG0_LC_AUTO)) || (hands && s.flag SIU_STATUS_DG_BYPASSED)
  if s.siuState = sStop ∧ !u.starting ∧ auto ∧ s.startOk e then { s with siu := { u with starting := true } } else s

/-! ### The evaluation (R468, R481) -/

/-- VSAFE_OUT below 18 V (R496). -/
def State.vsafeLow (s : State) (e : SiuEnv) : State :=
  if e.vsafe < 18000 then (if s.cause 782 then s else s.raiseCond 782) else s.setCause 782 false

/-- The transitions of R481 in their order; `hands` tells that the two-hand enable became active at this evaluation. A request that meets a
transition is refused with it, and an emergency stop while in `S_STOP` leaves no start without a reset (R482, R484). (DEDUCED, log 53.) -/
def State.siuDecide (s : State) (e : SiuEnv) (entered hands : Bool) : State :=
  if e.mismatch then s.refuseAll.internalFault
  else
    let (s, hard, stuck) := s.findings e
    let st := s.siuState
    let dem := s.demanding
    let low := decide (e.vsafe < 18000)
    let edm := s.siu.edmOn && s.outputsOn && s.flag SIU_CFG0_EDM_EN && s.chan 11
    if edm then s.refuseAll.edmFault
    else if st = sOn ∨ st = sStop then
      if hard || (decide (st = sStop) && stuck) then s.refuseAll.outputFault
      else if entered then s.refuseAll.enterSiu sFault
      else if st = sOn ∧ stuck then s.refuseAll.degrade
      else if st = sOn then
        if dem.isEmpty && !low then s.decideReset e
        else
          let by' := (if low then 32 else 0) + (dem.map (fun i => 2 ^ i)).sum
          (({ s.refuseAll with siu := { s.refuseAll.siu with stopBy := by' } }).enterSiu sStop)
      else
        let s := if s.demands 0 then { s with siu := { s.siu with stopBy := withBit s.siu.stopBy 0 true } } else s
        let s := if s.siu.starting && !s.startOk e then { s with siu := { s.siu with starting := false } } else s
        (s.decideReset e).autoStart e hands
    else if st = sDegraded then
      if hard || stuck then s.refuseAll.outputFault else if !dem.isEmpty then s.refuseAll.enterSiu sFault else s.decideReset e
    else if hard || stuck then (s.setFlag SIU_FAULT_OUT_FAULT 0 true).decideReset e
    else s.decideReset e

/-- Some input is in `FAULT`. -/
def State.faultCount (s : State) : Nat := (siuInputs.filter (fun i => decide (s.inSt i = inFault))).length

/-- R468: one evaluation. In `S_INIT` the self-test runs and the inputs are not yet placed. -/
def State.siuEvaluate (s : State) (e : SiuEnv) : State :=
  let s := { s with siu := { s.siu with evals := s.siu.evals + 1, internal := e.mismatch } }
  if s.siuState = sInit then
    let s := ((s.readbacks e).vsafeLow e).refuseAll
    if e.mismatch then s.internalFault else s
  else
    let before := s.faultCount
    let guard := s.demands 1
    let s := s.evalInputs.bypass
    let (s, hands) := s.evalHands
    let s := s.bypass.countGuard guard
    let entered := decide (before < s.faultCount)
    ((s.readbacks e).vsafeLow e).siuDecide e entered hands

def execSiuEvaluation (e : SiuEnv) (s : State) : Host.Outcome State Fault Refusal := .next (if s.siuOn then s.siuEvaluate e else s)

/-- The safety hold ends with the entry into `S_ON` (R487). -/
def State.enterOn (s : State) : State :=
  let s := (s.enterSiu sOn).setFlag SIU_STATUS_SAFETY_HOLD 0 false
  let s := { s with siu := { s.siu with stopBy := 0, failsA := 0, failsB := 0 } }
  if s.inReset then s else s.setFlag TXN_STATUS_SAFETY_HOLD 0 false

/-- R482: the output self-test of a start, or of a reset after the degraded time has expired, ends. (DESIGN CHOICE, log 52.) -/
def execStartSelfTestDone (passA passB : Bool) (s : State) : Host.Outcome State Fault Refusal :=
  .next (if !s.siuOn then s
  else if s.siu.starting then
    let s := if passA then s.unmarkOut 0 else s.markOut 0 1
    let s := if passB then s.unmarkOut 1 else s.markOut 1 1
    if passA && passB then s.enterOn else s.outputFault
  else if s.siu.clearing then
    let okA := decide (s.outFail 0 = 0) || passA
    let okB := decide (s.outFail 1 = 0) || passB
    if okA && okB then
      let s := if s.outFail 0 = 0 then s else s.unmarkOut 0
      (if s.outFail 1 = 0 then s else s.unmarkOut 1).acceptClear
    else ({ s with siu := { s.siu with clearing := false } }).refuseReset
  else s)

end Sys2Proof.Machine
end

