-- ==== Sys2Proof/Machine/Kiln.lean ====
section
/-! DEFINITION. Kiln readings: sensors, thresholds, throttle factor, shutdown, compensation and temperature bands, and the VHV window
(R155, R507 to R521). -/

namespace Sys2Proof.Machine

open Reg

/-! ### Small operations -/

/-- Insert into a rising list. -/
def insertInt (x : Int) : List Int → List Int
  | [] => [x]
  | y :: l => if x ≤ y then x :: y :: l else y :: insertInt x l

def sortInts : List Int → List Int
  | [] => []
  | x :: l => insertInt x (sortInts l)

/-- Twice the median; 0 of an empty list. -/
def median2 (l : List Int) : Int :=
  let l := sortInts l
  let n := l.length
  if n % 2 = 1 then 2 * l.getD (n / 2) 0 else l.getD (n / 2 - 1) 0 + l.getD (n / 2) 0

/-- The largest of a list; `d` of an empty one. -/
def maxInt (d : Int) : List Int → Int
  | [] => d
  | x :: l => l.foldl max x

/-! ### Sensors (R508 to R510) -/

/-- Die diodes: 0 to 15 on the logic die, 16 to 23 on the analogue die. -/
def logicDiodes : List Nat := List.range 16
def analogDiodes : List Nat := (List.range 8).map (fun k => 16 + k)
def dieDiodes : List Nat := List.range 24
def thermistors : List Nat := (List.range 8).map (fun k => 24 + k)
def allSensors : List Nat := List.range 32

def State.sensor (s : State) (n : Nat) : Sensor := s.kln.sensors.read {} n
def State.setSensor (s : State) (n : Nat) (v : Sensor) : State := { s with kln := { s.kln with sensors := s.kln.sensors.write {} n v } }

/-- Sensor n is failed. -/
def State.failed (s : State) (n : Nat) : Bool := bit (s.reg KLN_FAIL_FAILED) n

def State.setFailed (s : State) (n : Nat) (b : Bool) : State := s.setReg KLN_FAIL_FAILED 0 (withBit (s.reg KLN_FAIL_FAILED) n b)

/-- A diode, or a thermistor that is fitted and was so when it was read (R508). -/
def State.fitted (s : State) (n : Nat) : Bool := decide (n < 24) || (s.ntcFitted (n - 24) && bit s.kln.ntcRead (n - 24))

/-- The sensors of n's group that are fitted. -/
def State.group (s : State) (n : Nat) : List Nat :=
  (if n < 16 then logicDiodes else if n < 24 then analogDiodes else thermistors).filter s.fitted

/-- A range of the descriptor in 1/16 °C; 0 without one. -/
def State.fabricRange (s : State) : Int × Int :=
  match s.fab.desc with
  | none => (0, 0)
  | some d => (16 * d.tempMin, 16 * d.tempMax)

/-- What a sensor's code and, of a diode, its forward voltage give: open or short (R509), and the temperature in 1/16 °C. -/
structure Reading where
  lost : Bool := false
  temp : Int := 0
  deriving DecidableEq, Repr

/-- Gain (0) and offset (1) trim of die diode n, of the trims in force (R507, R576). -/
def State.diodeTrim (s : State) (n k : Nat) : Nat := le32 ((List.range 4).map (fun j => s.liveTrim (55296 + 8 * n + 4 * k + j))) 0

/-- Binary logarithm of a mantissa m · 2⁻⁶² in [1, 2): k bits of its fraction, after those of `acc`. -/
def log2Frac : Nat → Nat → Nat → Nat
  | 0, _, acc => acc
  | k + 1, m, acc =>
    let q := m * m / 2 ^ 62
    if 2 ^ 63 ≤ q then log2Frac k (q / 2) (2 * acc + 1) else log2Frac k q (2 * acc)

/-- log₂ x in units of 2⁻⁴⁰, for x > 0. -/
def log2Fix (x : Nat) : Nat := Nat.log2 x * 2 ^ 40 + log2Frac 40 (x * 2 ^ 62 / 2 ^ Nat.log2 x) 0

/-- ln (num ÷ den) in units of 2⁻⁴⁰; ln 2 is 762,123,384,786 of them. -/
def lnFix (num den : Nat) : Int := ((log2Fix num : Int) - log2Fix den) * 762123384786 / 2 ^ 40

/-- R508: T of a thermistor of resistance num ÷ den × R₂₅, in 1/16 °C, with 298.15 K = 5,963 ÷ 20. (DESIGN CHOICE, log 54.) -/
def ntcTemp (code num den beta : Nat) : Int :=
  let n : Int := 5963 * beta * 2 ^ 40
  let d : Int := 20 * beta * 2 ^ 40 + 5963 * lnFix num den
  if beta = 0 ∨ d = 0 then signed 16 (Config.ntcOpen code).toNat
  else if d < 0 then roundDiv (-(80 * n - 21852 * d)) (-(5 * d))
  else roundDiv (80 * n - 21852 * d) (5 * d)

/-- R508: thermistor n against 10 kΩ from 1.25 V, which is code 2¹⁹: R is 10,000 × code ÷ (2¹⁹ − code) Ω. -/
def ntcReading (code r25 beta : Nat) : Reading :=
  let num := 10000 * code
  let den := r25 * (2 ^ 19 - code)
  if decide (2 ^ 19 ≤ code) || decide (100 * den < num) || decide (100 * num < den) then { lost := true }
  else { temp := ntcTemp code num den beta }

/-- R507: a diode's reading, with its forward voltage in mV. (DESIGN CHOICE, log 54.) -/
def State.diodeReading (s : State) (n mv : Nat) : Reading :=
  { lost := decide (1000 < mv) || decide (mv < 200)
    temp := signed 16 (Config.diodeTemp (s.reg HK_RES_LO_CODE n) (s.diodeTrim n 0) (s.diodeTrim n 1)).toNat }

/-- The reading of sensor n from the code that its channel's last conversion left. -/
def State.reading (s : State) (vf : List Nat) (n : Nat) : Reading :=
  if n < 24 then s.diodeReading n (vf.getD n 0)
  else match s.fab.desc with
    | none => {}
    | some d => ntcReading (s.reg HK_RES_LO_CODE n) (10 * d.ntcNominal.getD (n - 24) 0) (d.ntcBeta.getD (n - 24) 0)

/-- Open, short or out of range (R509). -/
def Reading.bad (r : Reading) : Bool := r.lost || decide (r.temp < -640) || decide (2400 < r.temp)

/-- What sensor m shows its neighbours: its reading, or its last good one while it is open, short or out of range. -/
def State.shown (s : State) (rs : List Reading) (m : Nat) : List Int :=
  let r := rs.getD m {}
  if !r.bad then [r.temp] else if (s.sensor m).seen then [(s.sensor m).last] else []

/-- The reading differs by more than 15 °C from the median of the other working sensors of the group, if there are at least 3. (DESIGN CHOICE, log 55.) -/
def State.strays (s : State) (rs : List Reading) (n : Nat) : Bool :=
  let others := ((s.group n).filter (fun m => decide (m ≠ n) && !s.failed m)).flatMap (s.shown rs)
  decide (3 ≤ others.length) && (let d := 2 * (rs.getD n {}).temp - median2 others
    decide (d < -480) || decide (480 < d))

/-- The condition of R509 at this reading. -/
def State.condition (s : State) (rs : List Reading) (n : Nat) : Bool := (rs.getD n {}).bad || s.strays rs n

/-- The substitute for a failed sensor (R510). -/
def State.substitute (s : State) (n : Nat) : Int := if n < 24 then 16 * ((s.reg KLN_THR_SHUTDOWN : Int) - 1) else s.fabricRange.2

/-- The value in use of sensor n, as `KLN_TEMPn` shows it. -/
def State.inUse (s : State) (n : Nat) : Int := signed 16 (s.reg KLN_TEMP_T n)

/-- Put sensor n's value in use. -/
def State.showTemp (s : State) (n : Nat) (v : Int) (pending fit : Bool) : State :=
  (((s.setReg KLN_TEMP_T n (unsigned 16 v)).setFlag KLN_TEMP_FAILED n (s.failed n)).setFlag KLN_TEMP_NOT_FITTED n (!fit)).setFlag KLN_TEMP_PENDING n pending

/-- Sensor n takes its reading; `bad` is its condition. A sensor that has no good reading to stand on shows a free value. (DESIGN CHOICE, log 19.) -/
def State.readSensor (s : State) (n : Nat) (r : Reading) (bad : Bool) : State :=
  if !s.fitted n then ((s.setSensor n {}).setFailed n false).showTemp n 0 false false
  else if bad then
    let v := s.sensor n
    let run := v.bad + 1
    let s := s.setSensor n { v with bad := min run 8, good := 0 }
    let s := if decide (8 ≤ run) && !s.failed n then ((s.setFailed n true).inc KLN_CNT_SENSOR_FAIL).raise (808 + n) 0 else s
    if s.failed n then s.showTemp n (s.substitute n) false true
    else if v.seen then s.showTemp n v.last true true
    else
      let (x, s) := s.takeFree 16
      s.showTemp n (signed 16 x) true true
  else
    let v := s.sensor n
    let run := v.good + 1
    let s := s.setSensor n { v with bad := 0, good := min run 64, last := r.temp, seen := true }
    let s := if decide (64 ≤ run) && s.failed n then (s.setFailed n false).raise (808 + n) 1 else s
    if s.failed n then s.showTemp n (s.substitute n) false true else s.showTemp n r.temp false true

/-- Every sensor takes its reading; the conditions are those before any of them has changed. -/
def State.readSensors (s : State) (rs : List Reading) : State :=
  let bad := allSensors.map (fun n => s.fitted n && s.condition rs n)
  s.forEach (fun s n => s.readSensor n (rs.getD n {}) (bad.getD n false)) allSensors

/-- A die diode is failed. -/
def State.dieFailed (s : State) : Bool := dieDiodes.any s.failed

/-- Working die diodes' values. -/
def State.workingDies (s : State) : List Int := (dieDiodes.filter (fun n => !s.failed n)).map s.inUse

/-! ### Thresholds (R512, R513) -/

/-- Consecutive readings up to n. -/
def runTo (n : Nat) (b : Bool) (k : Nat) : Nat := if b then min n (k + 1) else 0

/-- The warning and throttle states follow T_c; a substitute counts as confirmed at once (R510, R512). -/
def State.followState (s : State) (thr f : Fd) (src : Nat) (tc : Int) (inRun outRun : Nat) : State :=
  let sub := s.dieFailed && decide ((s.reg thr : Int) * 16 ≤ 16 * ((s.reg KLN_THR_SHUTDOWN : Int) - 1))
  if !s.flag f && (decide (8 ≤ inRun) || sub) then (s.setFlag f 0 true).raise src
  else if s.flag f && decide (8 ≤ outRun) && decide (tc < 16 * (s.reg thr : Int)) then (s.setFlag f 0 false).raise (src + 1)
  else s

def State.followStates (s : State) (tc : Int) : State :=
  let w : Int := 16 * s.reg KLN_THR_WARN
  let t : Int := 16 * s.reg KLN_THR_THROTTLE
  let k := s.kln
  let k := { k with
    warnIn := runTo 8 (decide (w ≤ tc)) k.warnIn, warnOut := runTo 8 (decide (tc < w - 48)) k.warnOut
    thrIn := runTo 8 (decide (t ≤ tc)) k.thrIn, thrOut := runTo 8 (decide (tc < t - 48)) k.thrOut }
  let s := { s with kln := k }
  (s.followState KLN_THR_WARN KLN_STATUS_WARNING 800 tc k.warnIn k.warnOut).followState
    KLN_THR_THROTTLE KLN_STATUS_THROTTLING 802 tc k.thrIn k.thrOut

/-- A fitted thermistor follows the range of the descriptor. (DESIGN CHOICE, log 55.) -/
def State.followRange (s : State) (n : Nat) : State :=
  if !s.fitted n then s
  else
    let (lo, hi) := s.fabricRange
    let x := s.inUse n
    let v := s.sensor n
    let outRun := runTo 8 (decide (x < lo) || decide (hi < x)) v.outRun
    let inRun := runTo 8 (decide (lo + 48 ≤ x) && decide (x ≤ hi - 48)) v.inRun
    let out := decide (8 ≤ outRun) || (v.out && !decide (8 ≤ inRun))
    let s := s.setSensor n { v with outRun := outRun, inRun := inRun, out := out }
    if out && !v.out then s.raiseCond 806 else s

/-- The cause of source 806 lasts while any thermistor is out. -/
def State.followRanges (s : State) : State :=
  let s := s.forEach State.followRange thermistors
  if s.cause 806 && !(thermistors.any (fun n => (s.sensor n).out)) then s.setCause 806 false else s

/-! ### Throttle factor and shutdown (R514, R515, R517) -/

/-- F_MIN = ⌈256 × FLOOR ÷ 100⌉. -/
def State.fMin (s : State) : Nat := (256 * s.reg KLN_THROTTLE_FLOOR + 99) / 100

def State.fNow (s : State) (tc : Int) : Nat :=
  if s.dieFailed then s.fMin
  else if !s.flag KLN_STATUS_THROTTLING then 256
  else
    let f := 256 * (16000 - (s.reg KLN_THROTTLE_K_SLOPE : Int) * (tc - 16 * (s.reg KLN_THR_THROTTLE : Int))) / 16000
    (clampI f s.fMin 256).toNat

/-- A shutdown is confirmed: steps 1 and 2 of R517. -/
def State.shutdown (s : State) : State :=
  let s := (s.setFlag KLN_STATUS_SHUTDOWN 0 true).raiseCond 804
  ({ s with kln := { s.kln with shutAt := some s.tick, released := false } }).resign 0x06

/-- T_s against T_S, and a die with every diode failed (R514). -/
def State.followShutdown (s : State) : State :=
  let ts : Int := 16 * s.reg KLN_THR_SHUTDOWN
  let hot := s.workingDies.any (fun x => decide (ts ≤ x))
  let s := { s with kln := { s.kln with shut := runTo 8 hot s.kln.shut } }
  if s.flag KLN_STATUS_SHUTDOWN then s
  else if decide (8 ≤ s.kln.shut) || logicDiodes.all s.failed || analogDiodes.all s.failed then s.shutdown else s

/-- R517 step 3: 20 ms after the latch was set. -/
def State.shutdownRelease (s : State) (at' : Nat) : State :=
  let s := s.advance (at' + usTicks 20000 - s.tick)
  let s := ({ s with fab := { s.fab with releasing := 0 } }).releaseDoms 0xFF
  let s := s.forEach (fun s t => (s.modTile t (fun tl => { tl with engine := false })).withdraw t) allTiles
  { s with kln := { s.kln with released := true }, pins := { s.pins with txOff := true }
           cpx := { s.cpx with egress := [] }, twn := { s.twn with txq := [] } }

def execShutdownRelease (s : State) : Host.Outcome State Fault Refusal :=
  .next (if s.inReset || s.kln.released then s
  else match s.kln.shutAt with
    | none => s
    | some t => s.shutdownRelease t)

/-! ### Cask window (R518) -/

/-- The window holds at the latest reading. -/
def State.caskWindow (s : State) : Bool := !s.dieFailed && dieDiodes.all (fun n => decide (80 ≤ s.inUse n) && decide (s.inUse n ≤ 1360))

/-! ### Compensation (R519, R520) -/

/-- The banks exchange at the first reading after a load. -/
def State.exchangeComp (s : State) : State :=
  if !s.kln.pend then s
  else
    let s := { s with kln := { s.kln with live := s.kln.standby, standby := s.kln.live, pend := false } }
    (s.setReg KLN_STATUS_TC_LIVE 0 (1 - s.reg KLN_STATUS_TC_LIVE)).setFlag KLN_STATUS_TC_VALID 0 s.kln.live.isSome

/-- The trim of a target at twice a temperature, in 1/160 code: between the points of −20 °C + 5 °C × i that bracket it. (DESIGN CHOICE, log 56.) -/
def Comp.trimAt (c : Comp) (j : Nat) (t2 : Int) : Int :=
  let row := c.trims.getD j []
  let x := t2 + 640
  if x ≤ 0 then 160 * row.getD 0 0
  else if 4960 ≤ x then 160 * row.getD 31 0
  else
    let i := (x / 160).toNat
    let f := x % 160
    row.getD i 0 * (160 - f) + row.getD (i + 1) 0 * f

/-- The base trim of target j in 1/160 code. -/
def State.baseTrim (s : State) (j : Nat) : Int := 160 * s.kln.base.read 0 j

/-- The applied trim of target j in 1/160 code. (DESIGN CHOICE, log 56.) -/
def State.trim (s : State) (j : Nat) : Int := s.kln.trims.read (s.baseTrim j) j

def State.setTrim (s : State) (j : Nat) (v : Int) : State := { s with kln := { s.kln with trims := s.kln.trims.write (s.baseTrim j) j v } }

/-- Each enabled target's trim moves by at most one code. (DESIGN CHOICE, log 56.) -/
def State.compensate (s : State) : State :=
  match s.kln.live with
  | none => { s with kln := { s.kln with trims := [] } }
  | some c =>
    let work := (analogDiodes.filter (fun n => !s.failed n)).map s.inUse
    if !s.flag KLN_CTRL_TCOMP_EN then { s with kln := { s.kln with trims := [] } }
    else if work.isEmpty then s
    else (bitsOf 6 c.mask).foldl (fun s j => s.setTrim j (clampI (c.trimAt j (median2 work)) (s.trim j - 160) (s.trim j + 160))) s

/-! ### Temperature bands (R155) -/

/-- The temperature source of tile t. -/
def State.bandSource (s : State) (t : Nat) : Nat :=
  let n := s.effReg LOOP_TEMP_TSRC t
  if decide (s.effReg LOOP_TEMP_TSRC_DIE t = 1) || !s.fitted (24 + n) then t / 6 else 24 + n

/-- The band moves by at most one step in a reading. -/
def State.stepBand (s : State) (t : Nat) : State :=
  let x := s.inUse (s.bandSource t)
  let b := s.reg LOOP_TEMP_TBAND t
  let base := signed 8 (s.effReg LOOP_TEMP_TB_BASE t)
  let d : Int := s.effReg LOOP_TEMP_TB_STEP t
  if decide (b < 7) && decide (16 * (base + (b + 1) * d) ≤ x) then s.setReg LOOP_TEMP_TBAND t (b + 1)
  else if decide (0 < b) && decide (x < 16 * (base + b * d - 1)) then s.setReg LOOP_TEMP_TBAND t (b - 1)
  else s

/-! ### The reading (R506) -/

/-- A kiln reading of the 32 sensors: their readings, the trims that follow them, and the limits (R506 to R520); `vf` gives the forward
voltages of the 24 diodes in mV. (DESIGN CHOICE, log 54.) -/
def State.kilnReading (s : State) (vf : List Nat) : State :=
  let s := s.exchangeComp.readSensors (allSensors.map (s.reading vf))
  let tc := maxInt 0 (dieDiodes.map s.inUse)
  let s := s.setReg KLN_STATUS_T_C 0 (unsigned 16 tc)
  let s := s.followStates tc
  let s := s.setReg KLN_THROTTLE_F_NOW 0 (s.fNow tc)
  let s := s.followRanges.followShutdown
  let s := s.setFlag KLN_STATUS_CASK_OK 0 s.caskWindow
  (s.compensate.forEach State.stepBand allTiles).nextRounds

/-- R506: the round of converters 0 and 1 has ended on both, and gives a reading. -/
def execKilnReading (vf : List Nat) (s : State) : Host.Outcome State Fault Refusal :=
  .next (if s.inReset || !s.roundOver then s else s.kilnReading vf)

/-! ### VHV window (R521) -/

/-- VHV has stood outside its window for the filter's 10 µs. -/
def execVhvExcursion (mv : Nat) (s : State) : Host.Outcome State Fault Refusal :=
  let s := { s with fab := { s.fab with vhv := mv } }
  let s := s.parkVhv
  .next (if s.inReset || !s.vhvOutside mv || s.flag KLN_STATUS_VHV_OUT then s else (s.setFlag KLN_STATUS_VHV_OUT 0 true).raiseCond 805)

/-- VHV has been inside its window for 1 ms. (DESIGN CHOICE, log 55.) -/
def execVhvRecovered (mv : Nat) (s : State) : Host.Outcome State Fault Refusal :=
  let s := { s with fab := { s.fab with vhv := mv } }
  .next (if s.inReset || s.vhvOutside mv then s else (s.setFlag KLN_STATUS_VHV_OUT 0 false).setCause 805 false)

end Sys2Proof.Machine
end

