-- ==== Sys2Proof/Machine/Faults.lean ====
section
/-! DEFINITION. The fault logger: recording, severity actions, injection, software triggers, the history copy and the watchdog of a tile
engine (R537 to R554, R557). -/

namespace Sys2Proof.Machine

open Reg

/-- The domain of a tile or domain source. -/
def srcDomain (n : Nat) : Option Nat := if n < 576 then some (n / 72) else if n < 608 then some ((n - 576) / 4) else none

/-- A source of domain d or its tiles with severity DEGRADE or higher is held (R549). -/
def State.degradeHeld (s : State) (d : Nat) : Bool :=
  s.heldList.any (fun n => decide (srcDomain n = some d) && decide (sevDegrade ≤ s.severity n))

/-! ### Recording (R541 to R545) -/

/-- Does a precede b in the order of R542? -/
def State.precedes (s : State) (a b : Raise) : Bool :=
  let x := s.severity a.src
  let y := s.severity b.src
  decide (y < x) || (decide (x = y) && (decide (a.src < b.src) || (decide (a.src = b.src) && !a.injected && b.injected)))

/-- Put a raise into its place; raises that R542 does not order keep the order of arrival. -/
def State.insertRaise (s : State) (a : Raise) : List Raise → List Raise
  | [] => [a]
  | b :: l => if s.precedes a b then a :: b :: l else b :: s.insertRaise a l

/-- The raises of one cycle in the order of R542. (DEDUCED, log 80.) -/
def State.sortRaises (s : State) (l : List Raise) : List Raise := l.foldl (fun m a => s.insertRaise a m) []

/-- A notice recorded less than `HOLDOFF_US` before (R541). (DEDUCED, log 79.) -/
def State.heldOff (s : State) (n : Nat) : Bool :=
  let f := s.flt.stamp.read 0 n
  decide (f ≠ 0) && decide (s.dt < f - 1 + usTicks (s.reg FLT_CTRL_HOLDOFF_US))

/-- The event ring entry of R418. -/
def evtEntry (r : Raise) (sev : Nat) (first : Bool) (d : DtField) : List Byte :=
  padTo 32 (leBytes 2 (r.src + 1024 * sev + 8192 * b2n r.injected + 16384 * b2n first) ++ leBytes 1 r.status ++ leBytes 1 0 ++
    leBytes 4 r.info ++ dtBytes d)

/-- Fence the domain of a source at the next marker (R539, R580); a domain that is not in service is not fenced again. -/
def State.fenceFor (s : State) (n : Nat) : State :=
  match srcDomain n with
  | none => s
  | some d =>
    if decide (s.domState d = 0) && (s.domSt d).fence.isNone then s.setDomSt d { (s.domSt d) with fence := some 2 } else s

/-- The actions of a severity; each takes those of the severities below it (R539). (DEDUCED, log 58; DESIGN CHOICE, log 81.) -/
def State.act (s : State) (r : Raise) (sev : Nat) (entry : List Byte) : State :=
  -- An event that a command owed before a reset of the host island is dropped (R389).
  let s := if sevNotify ≤ sev then (if r.orphan then s.inc HIF_CNT1_ORPHANS else s.postEvt entry) else s
  let s := if sevDegrade ≤ sev then s.fenceFor r.src else s
  let s := if sevResign ≤ sev then s.resign (resignCause r.src) else s
  if sevQuench ≤ sev then { s with txn := { s.txn with demands := s.txn.demands + 1 } } else s

/-- The first-fault record (R543, R553). -/
def State.setFirst (s : State) (r : Raise) (sev : Nat) : State :=
  let s := ((s.setReg FLT_FF_SRC_SOURCE 0 r.src).setReg FLT_FF_SRC_SEVERITY 0 sev).setReg FLT_FF_SRC_STATUS 0 r.status
  ((s.setReg FLT_FF_INFO_INFO 0 r.info).setDtRegs FLT_FF_NS_NS FLT_FF_FRAC_FRAC FLT_FF_SEC_LO_SEC_LO FLT_FF_SEC_HI_SEC_HI s.now).setFlag
    FLT_STATUS_FF_VALID 0 true

/-- An event enters the history queue and takes its actions; one of severity IGNORE does neither (R539, R543, R544, R547). (DEDUCED, log 58.) -/
def State.recordEvent (s : State) (r : Raise) : State :=
  let sev := s.severity r.src
  if sev = sevIgnore then s
  else
    let first := !r.injected && !s.flag FLT_STATUS_FF_VALID
    let e : HistEntry := { src := r.src, sev := sev, injected := r.injected, first := first, status := r.status, info := r.info, dt := s.dt }
    let s := ({ s with flt := { s.flt with hist := (e :: s.flt.hist).take 32 } }).inc FLT_HIST_CNT_RECORDED
    let s := if first then s.setFirst r sev else s
    s.act r (if r.injected && !s.flag FLT_CTRL_INJ_ACT then min sev sevNotify else sev) (evtEntry r sev first s.now)

/-- One raise of the cycle (R541, R547). (DEDUCED, log 58.) -/
def State.record (s : State) (r : Raise) : State :=
  if r.injected then s.recordEvent r
  else if srcCondition r.src then
    if s.held r.src then s.inc FLT_CNT_SUPPRESSED else (s.setHeld r.src true).recordEvent r
  else if s.heldOff r.src then s.inc FLT_CNT_SUPPRESSED
  else
    let s := if s.severity r.src = sevIgnore then s else { s with flt := { s.flt with stamp := s.flt.stamp.write 0 r.src (s.dt + 1) } }
    s.recordEvent r

/-- R542: a cycle of the logger takes every raise that has reached it, and of those that the safety island kept through a reset the next
(R545). (DEDUCED, log 33; DEDUCED, log 80.) -/
def execEventRecord (s : State) : Host.Outcome State Fault Refusal :=
  .next (if s.inReset then s
  else ((s.sortRaises (s.flt.raises ++ s.flt.kept.take 1)).foldl State.record { s with flt := { s.flt with raises := [], kept := s.flt.kept.drop 1 } }))

/-! ### Injection and software triggers (R547, R552) -/

/-- What a write of v to `FLT_INJ` starts; `GO` acts inside a presence window only. -/
def State.fltInj (v : Nat) (s : State) : State :=
  if !(s.presence && bit v 31) then s
  else
    let n := s.reg FLT_INJ_SOURCE
    if srcNamed n then s.raiseEv { src := n, injected := true } else s.badWrite FLT_INJ_GO.off

def execFaultInject (v : Nat) (s : State) : Host.Outcome State Fault Refusal := .next (s.hostWrite FLT_INJ_GO.off v (State.fltInj v))

/-- What a write of v to `FLT_SWTRIG` starts. -/
def State.swTrig (v : Nat) (s : State) : State :=
  (s.setReg FLT_SWTRIG_TRIG 0 0).forEach (fun s k => s.raise (960 + k)) (bitsOf 32 v)

def execSoftwareTrigger (v : Nat) (s : State) : Host.Outcome State Fault Refusal := .next (s.hostWrite FLT_SWTRIG_TRIG.off v (State.swTrig v))

/-! ### The history copy (R554, R557) -/

/-- Entry n of the copy. -/
def State.copyHist (s : State) (n : Nat) : State :=
  match s.flt.hist[n]? with
  | none => (((((s.setWord (FLT_H_SRC_SOURCE.offAt n) 0).setReg FLT_H_INFO_INFO n 0).setReg FLT_H_NS_NS n 0).setReg FLT_H_FRAC_FRAC n 0).setReg
      FLT_H_SEC_LO_SEC n 0).setReg FLT_H_SEC_HI_SEC n 0
  | some e =>
    let d := dtOf e.dt
    let s := ((s.setReg FLT_H_SRC_SOURCE n e.src).setReg FLT_H_SRC_SEVERITY n e.sev).setFlag FLT_H_SRC_INJECTED n e.injected
    let s := ((s.setFlag FLT_H_SRC_FIRST n e.first).setFlag FLT_H_SRC_VALID n true).setReg FLT_H_SRC_STATUS n e.status
    let s := ((s.setReg FLT_H_INFO_INFO n e.info).setReg FLT_H_NS_NS n d.ns).setReg FLT_H_FRAC_FRAC n d.frac
    (s.setReg FLT_H_SEC_LO_SEC n (d.sec % 2 ^ 32)).setReg FLT_H_SEC_HI_SEC n (d.sec / 2 ^ 32)

/-- What a write of 1 to `SNAP` starts; the bit clears when the copy is made. -/
def State.histSnap (s : State) : State :=
  let s := s.forEach State.copyHist (List.range 32)
  (s.setReg FLT_HIST_CNT_ENTRIES 0 s.flt.hist.length).setReg FLT_HIST_SNAP_SNAP 0 0

def execHistorySnap (s : State) : Host.Outcome State Fault Refusal := .next (s.hostWrite FLT_HIST_SNAP_SNAP.off 1 State.histSnap)

/-! ### The watchdog of a tile engine (R537) -/

/-- A lane that keeps the watchdog armed. -/
def Lane.watched (l : Lane) : Bool := decide (l.mode = .feedback) || decide (l.mode = .burst) || decide (l.mode = .cal)

/-- R537: tile t's engine has handed over no row in 4 consecutive frames with a watched lane. -/
def execWatchdogFire (t : Nat) (s : State) : Host.Outcome State Fault Refusal :=
  .next (if s.inReset || decide (96 ≤ t) || !s.engineRuns t || decide ((s.tile t).idleFrames < 4) then s
  else ((s.modTile t (fun tl => { tl with engine := false, dogged := true })).withdraw t).raiseCond (srcDom (domOf t) 1) (infoTile t none))

end Sys2Proof.Machine
end

