-- ==== Sys2Proof/Machine/Service.lean ====
section
/-! DEFINITION. Sealing the cask, the fuses, fencing, loading and returning of domains, and their changes at a frame marker (R518,
R572, R576, R577, R579 to R583). -/

namespace Sys2Proof.Machine

open Reg

/-! ### The fuses (R572) -/

/-- The floor rises to the `SVN` of the running firmware. -/
def State.svnCommit (s : State) : State := s.setReg BTU_FUSE_SVN_FLOOR 0 (max (s.reg BTU_FUSE_SVN_FLOOR) (s.reg BTU_FUSE_SVN_RUN))

/-- The keys of a mask are revoked; one that names the running firmware's key is ignored. In `RECOVERY` no firmware runs. (DEDUCED, log 59.) -/
def State.keyRevoke (s : State) (mask : Nat) : State :=
  if decide (s.startup ≠ 2) && bit mask (s.reg BTU_FUSE_KEY_RUN) then s.badWrite BTU_CTRL_SEAL.off
  else s.setReg BTU_FUSE_KEY_REVOKED 0 (Nat.lor (s.reg BTU_FUSE_KEY_REVOKED) mask)

/-! ### Sealing (R518, R577) -/

/-- The image that a seal takes of the live values, with a generation (R576, R577). -/
def State.caskImage (s : State) (gen : Nat) : Cask :=
  Cask.signed {
    gen := gen, dieId := Config.dieId.toNat, trims := (List.range 55488).map s.liveTrim
    base := (List.range 16).map (fun j => s.kln.base.read 0 j)
    cfg0 := (s.word SIU_CFG0_T_DISC.off).toNat, cfg1 := (s.word SIU_CFG1_DEGRADE_MIN.off).toNat
    crc := s.reg SIU_CFG_CRC_CFG_CRC, thr := (s.word KLN_THR_WARN.off).toNat, throttle := getBits (s.word KLN_THROTTLE_K_SLOPE.off).toNat 0 15
    ctrl := (s.word KLN_CTRL_CASK_WIN_EN.off).toNat, twn := (s.word TWN_CTRL_PAIRED.off).toNat }

def State.setCopy (s : State) (k : Nat) (c : Option Cask) : State :=
  { s with btu := if k = 0 then { s.btu with cask0 := c } else { s.btu with cask1 := c } }

/-- A seal ends with a result. -/
def State.sealEnd (s : State) (st : Status) : State :=
  (({ s with btu := { s.btu with sealing := none } }).setFlag BTU_CASK_STATUS_SEAL_BUSY 0 false).setReg BTU_CASK_STATUS_SEAL_RESULT 0 st.code

/-- The erase or program operation `op` of a seal starts when the window lets it, and ends the seal otherwise (R518). -/
def State.sealOp (s : State) (k : Nat) (c : Cask) (op : SealSt) : State :=
  if s.flag KLN_CTRL_CASK_WIN_EN && !s.flag KLN_STATUS_CASK_OK
  then ((s.inc KLN_CNT_CASK_REFUSED).raiseOut 807 .writeWindow).sealEnd .writeWindow
  else { s with btu := { s.btu with sealing := some (k, c, op) } }

/-- The copy and generation of the next seal: the copy without the valid image of highest `GEN`. With no valid image the spec names
neither, and both are free values. (DESIGN CHOICE, log 15.) -/
def State.sealTarget (s : State) : (Nat × Nat) × State :=
  match s.newestCask with
  | some (k, c) => ((1 - k, (c.gen + 1) % 2 ^ 32), s)
  | none =>
    let (k, s) := s.takeFree 1
    let (g, s) := s.takeFree 32
    ((k, g), s)

/-- A write of `SEAL`; while a seal runs it is ignored. From now on the copy is not valid (R577). -/
def State.sealStart (s : State) : State :=
  if s.btu.sealing.isSome then s
  else
    let ((k, g), s) := s.sealTarget
    ((s.setCopy k none).setFlag BTU_CASK_STATUS_SEAL_BUSY 0 true).sealOp k (s.caskImage g) .erase

/-- The copy has been programmed and read back. (DEDUCED, log 59.) -/
def State.sealRead (s : State) (k : Nat) (c : Cask) (same : Bool) : State :=
  if same then (((s.setCopy k (some c)).setReg BTU_CASK_GEN 0 c.gen).inc BTU_CASK_STATUS_SEALS).sealEnd .done
  else s.sealEnd .internal

/-- R577: a step completes; `same` tells, for the readback, that the copy matches. -/
def execSealStepDone (same : Bool) (s : State) : Host.Outcome State Fault Refusal :=
  .next (if s.inReset then s
  else match s.btu.sealing with
    | none => s
    | some (k, c, .erase) => s.sealOp k c .program
    | some (k, c, .program) => { s with btu := { s.btu with sealing := some (k, c, .readback) } }
    | some (k, c, .readback) => s.sealRead k c same)

/-- What a write of v to `BTU_CTRL` starts; its bits act inside a presence window only. -/
def State.btuCtrl (v : Nat) (s : State) : State :=
  if !s.presence then s
  else
    let s := if bit v 0 then s.svnCommit else s
    let s := if bit v 1 then s.sealStart else s
    if getBits v 4 4 = 0 then s else s.keyRevoke (getBits v 4 4)

/-- R577. -/
def execSeal (s : State) : Host.Outcome State Fault Refusal := .next (s.hostWrite BTU_CTRL_SEAL.off 2 (State.btuCtrl 2))
/-- R572. -/
def execSvnCommit (s : State) : Host.Outcome State Fault Refusal := .next (s.hostWrite BTU_CTRL_SEAL.off 1 (State.btuCtrl 1))
/-- R572: the keys of a 4-bit mask. -/
def execKeyRevoke (mask : Nat) (s : State) : Host.Outcome State Fault Refusal :=
  .next (s.hostWrite BTU_CTRL_SEAL.off (16 * (mask % 16)) (State.btuCtrl (16 * (mask % 16))))

/-! ### Requests of a domain (R580, R583) -/

/-- A trigger that does not apply in the present state. -/
def State.domRefused (s : State) (d : Nat) : State := (s.setFlag DOM_STATUS_REFUSED d true).badWrite (DOM_CTRL_FENCE.offAt d)

def State.tilesOfDom (d : Nat) : List Nat := (List.range 12).map (fun k => 12 * d + k)

/-- `FENCE`: applies in service. -/
def State.askFence (s : State) (d : Nat) : State :=
  if s.domState d ≠ 0 then s.domRefused d
  else if (s.domSt d).fence.isSome then s else s.setDomSt d { (s.domSt d) with fence := some 1 }

/-- `UPDATE` (with microcode staged) and `RELOAD`: apply in `FENCED`. (DESIGN CHOICE, log 60.) -/
def State.askLoad (s : State) (d : Nat) (update : Bool) : State :=
  if decide (s.domState d ≠ 1) || (update && s.btu.staged.isNone) then s.domRefused d
  else s.setDomSt d { (s.domSt d) with load := some update, due := false }

/-- `RETURN`: the conditions of R583. -/
def State.askReturn (s : State) (d : Nat) : State :=
  if decide (s.domState d = 1) && !s.degradeHeld d && (State.tilesOfDom d).all (fun t => (s.tile t).engine) && s.leads
  then s.setDomSt d { (s.domSt d) with ret := true } else s.domRefused d

/-- What a write of v to `DOM_CTRL` of domain d starts; `UPDATE` acts inside a presence window only. Its bits read 0. -/
def State.domCtrl (d v : Nat) (s : State) : State :=
  let s := s.setWord (DOM_CTRL_FENCE.offAt d) 0
  let s := if bit v 0 then s.askFence d else s
  let s := if bit v 1 && s.presence then s.askLoad d true else s
  let s := if bit v 2 then s.askLoad d false else s
  if bit v 3 then s.askReturn d else s

/-- Host software writes v to `DOM_CTRL` of domain d. -/
def State.writeDomCtrl (s : State) (d v : Nat) : State := if d < 8 then s.hostWrite (DOM_CTRL_FENCE.offAt d) v (State.domCtrl d v) else s

/-- R580. -/
def execFence (d : Nat) (s : State) : Host.Outcome State Fault Refusal := .next (s.writeDomCtrl d 1)
/-- R582. -/
def execUpdate (d : Nat) (s : State) : Host.Outcome State Fault Refusal := .next (s.writeDomCtrl d 2)
/-- R582. -/
def execReload (d : Nat) (s : State) : Host.Outcome State Fault Refusal := .next (s.writeDomCtrl d 4)
/-- R583. -/
def execReturn (d : Nat) (s : State) : Host.Outcome State Fault Refusal := .next (s.writeDomCtrl d 8)

/-! ### Loads (R580, R582) -/

/-- A burst runs in the domain. -/
def State.domBursts (s : State) (d : Nat) : Bool := (State.tilesOfDom d).any (fun t => (s.tile t).bursts)

/-- No other domain is in `LOADING` or `RETURNING`, or about to load. -/
def State.loadFree (s : State) (d : Nat) : Bool :=
  allDoms.all (fun k => decide (k = d) || !(decide (s.domState k = 2) || decide (s.domState k = 3) || (s.domSt k).due))

/-- The marker on which the load may begin has come. (DESIGN CHOICE, log 61.) -/
def State.loadDue (s : State) (d : Nat) : Bool := decide (s.domState d = 1) && (s.domSt d).load.isSome && !s.domBursts d && s.loadFree d

/-- R580, R582: the domain enters `LOADING` on the marker that has let it. (DESIGN CHOICE, log 60.) -/
def State.startLoading (s : State) (d : Nat) : State :=
  let x := s.domSt d
  let code := if x.load = some true then s.btu.staged else x.live
  let s := s.setDomSt d { x with load := none, due := false, ret := false, loading := code, loaded := none }
  (s.setReg DOM_STATUS_STATE d 2).setCause (srcDom d 2) false

/-- R582: the load of domain d that is due begins. (DESIGN CHOICE, log 61.) -/
def execLoadingStart (d : Nat) (s : State) : Host.Outcome State Fault Refusal :=
  .next (if s.inReset || decide (8 ≤ d) || !(s.domSt d).due || !s.loadDue d then s else s.startLoading d)

/-- R582: the load of domain d has ended, every CRC matching or not. (DESIGN CHOICE, log 61.) -/
def execLoadDone (d : Nat) (ok : Bool) (s : State) : Host.Outcome State Fault Refusal :=
  .next (if s.inReset || decide (8 ≤ d) || decide (s.domState d ≠ 2) || (s.domSt d).loaded.isSome then s
  else
    let s := ((s.setDomSt d { (s.domSt d) with loaded := some ok }).inc DOM_CNT_LOADS d).setReg DOM_STATUS_LAST_RESULT d (if ok then 1 else 2)
    if ok then s else s.raiseCond (srcDom d 2) (infoTile (12 * d) none))

/-! ### The changes of service at a frame marker (R580 to R583) -/

/-- A fence of domain d comes into force before the commit tick of every transaction that has not committed: those that involve the domain
end ABORTED (R249, R270). A standby follows its active's reports instead (R271). -/
def State.fenceTxns (s : State) (d : Nat) : State :=
  if s.role = roleStandby then s
  else s.forEach (fun s i =>
    let t := s.slot i
    if (t.st = .staging ∨ t.st = .staged ∨ t.st = .arming ∨ t.st = .armed) ∧ t.tiles.any (fun k => decide (domOf k = d))
    then s.endTxn i .aborted else s) allSlots

/-- Entry into `FENCED`. -/
def State.enterFenced (s : State) (d : Nat) : State :=
  (((s.setReg DOM_STATUS_STATE d 1).inc DOM_CNT_FENCES d).raise (srcDom d 3) (infoTile (12 * d) none)).fenceTxns d

/-- The engines of the domain start, on the new bank when every CRC matched (R582 step 4). (DESIGN CHOICE, log 60.) -/
def State.endLoading (s : State) (d : Nat) (ok : Bool) : State :=
  let x := s.domSt d
  let s := s.setDomSt d { x with loading := none, loaded := none, live := if ok then x.loading else x.live }
  let s := s.forEach (fun s t => s.modTile t (fun tl => { tl with engine := !s.kln.released, dogged := false, idleFrames := 0 })) (State.tilesOfDom d)
  let s := match ok, x.loading with
    | true, some (v, _) => (s.setReg DOM_UC_VER_IMG_VER d v).setCause (srcDom d 1) false
    | _, _ => s
  s.enterFenced d

/-- The change that domain d makes at this marker. (DESIGN CHOICE, log 60; DESIGN CHOICE, log 61.) -/
def State.serviceDom (s : State) (d : Nat) : State :=
  let x := s.domSt d
  if s.domState d = 0 then
    (match x.fence with
     | some cause => ((s.setDomSt d { x with fence := none }).setReg DOM_STATUS_FENCE_CAUSE d cause).enterFenced d
     | none => s)
  else if s.domState d = 1 then
    (if x.ret then (s.setDomSt d { x with ret := false, recal := none }).setReg DOM_STATUS_STATE d 3 |>.setFlag TMU_TREE_CAL_BUSY 0 true
     else if s.loadDue d then s.setDomSt d { x with due := true } else s)
  else if s.domState d = 2 then
    (match x.loaded with
     | some ok => s.endLoading d ok
     | none => s)
  else if s.domState d = 3 then
    (match x.recal with
     | some true => (s.setDomSt d { x with recal := none }).setReg DOM_STATUS_STATE d 0 |>.setReg DOM_STATUS_FENCE_CAUSE d 0
     | some false => (s.setDomSt d { x with recal := none }).enterFenced d
     | none => s)
  else s

def State.serviceMarker (s : State) : State := s.forEach State.serviceDom allDoms

end Sys2Proof.Machine
end

