-- ==== Sys2Proof/Machine/Bus.lean ====
section
/-! DEFINITION. The fast matrix as software sees it: the remap, memory errors and scrubbing, and resets of its masters (R591 to R599,
R604 to R611). -/

namespace Sys2Proof.Machine

open Reg

/-- R598: the supervisor sets `REMAP`; `BTU_STATE.REMAP` mirrors it. -/
def execRemap (s : State) : Host.Outcome State Fault Refusal :=
  .next (if s.inReset then s else s.setRemap)

/-- A finding of the scrubbers; an error that cannot be corrected stays until its word is written (R604). (DESIGN CHOICE, log 124.) -/
def State.scrubbed (s : State) (p : Nat × Bool) : State := if p.2 then s.eccError p.1 true else (s.eccError p.1 false).spoil p.1

/-- R604: a pass of the scrubbers ends, with the errors that it found. (DESIGN CHOICE, log 64.) -/
def execScrub (found : List (Nat × Bool)) (s : State) : Host.Outcome State Fault Refusal :=
  .next (if s.inReset then s else found.foldl State.scrubbed s)

/-- Master k of R592 begins or ends to retire its IDs. -/
def State.setRetiring (s : State) (k : Nat) (b : Bool) : State := s.setReg MTX_STATUS_RETIRING 0 (withBit (s.reg MTX_STATUS_RETIRING) k b)

/-- A command that a host ring still holds. -/
def State.openCmd (s : State) : Src → Bool
  | .host r i _ => (s.ring r).cmds.any (fun c => decide (c.cmdId = i))
  | _ => false

/-- The command of a host DMA master ends with INTERNAL, `DETAIL` 0: an object load, or another that has not yet been answered (R605). -/
def State.endLoad (s : State) (src : Src) : State :=
  match s.txn.loads.findIdx? (fun l => decide (l.src = src)) with
  | some n => (s.dropLoad n).reply src .internal 0 true []
  | none => if s.openCmd src then s.reply src .internal 0 true [] else s

/-- What the master of a burst does on an error response (R605). (DESIGN CHOICE, log 124.) -/
def State.busError (s : State) (r : MtxReq) : State :=
  match r.master, r.src with
  | 0, .calendar n i _ ess =>
    if s.leads && decide (n < 16) && s.listLive n && decide (s.reg CAL_L_POS_NEXT n = i)
    then (s.notIssued n i CAL_L_CNT1_FAILED .internal).essFail n i ess .internal else s
  | 2, _ => s.restartSync
  | 3, _ => s.superError
  | 5, src => s.endLoad src
  | 6, src => s.endLoad src
  | _, _ => s

/-- The address of the memory behind an address: that of the fixed alias for one in the remap window (R597, R598). -/
def physAddr (map : Bool) (a : Nat) : Nat := if a < 0x200000 then (if map then 0x04000000 + a else 0x02000000 + a) else a

/-- The bits that the enables of n bytes from byte k on let through. -/
def Beat.mask (b : Beat) (k n : Nat) : Nat := (List.range n).foldl (fun m j => if b.en.getLsbD (k + j) then m + 255 * 256 ^ j else m) 0

/-- Bytes k to k + n - 1 of a beat over an old value of theirs. -/
def Beat.over (b : Beat) (k n old : Nat) : Nat :=
  let m := b.mask k n
  Nat.lor (Nat.land (getBits b.data.toNat (8 * k) (8 * n)) m) (Nat.land old (2 ^ (8 * n) - 1 - m))

/-- A beat writes the four pool entries from entry i on (R280, R591). -/
def State.poolBeat (s : State) (i : Nat) (b : Beat) : State :=
  [0, 1, 2, 3].foldl (fun s q =>
    if b.mask (16 * q) 16 = 0 then s
    else
      let old := (s.cal.pool.read none (i + q)).getD (Config.poolReset (i + q)).toNat
      { s with cal := { s.cal with pool := s.cal.pool.write none (i + q) (some (b.over (16 * q) 16 old)) } }) s

/-- A beat writes the enabled bytes of the 64 from address a on, and words written whole are whole again (R591, R604). (DESIGN CHOICE,
log 125.) -/
def State.writeBeat (s : State) (a : Nat) (b : Beat) : State :=
  let s := (List.range 8).foldl (fun s w => if b.mask (8 * w) 8 = 2 ^ 64 - 1 then s.heal (a + 8 * w) 8 else s) s
  if poolAddr 0 ≤ a ∧ a < poolAddr 262144 then s.poolBeat ((a - poolAddr 0) / 16) b
  else s.modMtx (fun m => { m with mem := (List.range 64).foldl (fun m k => if b.en.getLsbD k then m.put (a + k) (b.data.extractLsb' (8 * k) 8) else m) m.mem })

/-- The beats of a burst that writes. -/
def State.writeBeats (s : State) (r : MtxReq) : State :=
  (r.beats.zipIdx).foldl (fun s p => s.writeBeat (physAddr s.mtx.map r.addr + 64 * p.2) p.1) s

/-- What a read meets for the first time (R604): a word whose error is corrected, or one that turns out uncorrectable. -/
def State.meet (s : State) (p : Nat × Bool) : State := if p.2 then s.eccError p.1 true else s.spoil p.1

/-- A burst ends at its target; answers whether with an error (R599, R604). -/
def State.serveBurst (s : State) (r : MtxReq) : State × Bool :=
  if r.target s.mtx.map = 11 then (s.defaultTarget r.master r.write (r.addr / 2 ^ 32) (r.addr % 2 ^ 32), true)
  else if r.write then (s.writeBeats r, false)
  else
    let a := physAddr s.mtx.map r.addr
    let n := 64 * r.beats.length
    let s := (r.found.filter (fun p => decide (a ≤ p.1) && decide (p.1 < a + n))).foldl State.meet s
    match s.badIn a n with
    | some w => (s.eccError (8 * w.1) false, true)
    | none => (s, false)

/-- Bursts end in the order given; answers those that met an error. -/
def State.serveBursts (s : State) (l : List MtxReq) : State × List MtxReq :=
  l.foldl (fun p r => ((p.1.serveBurst r).1, if (p.1.serveBurst r).2 then r :: p.2 else p.2)) (s, [])

/-- An answer reaches its master; one to the master that is reset is discarded (R605, R606). -/
def State.answerBurst (k : Nat) (errs : List MtxReq) (s : State) (r : MtxReq) : State :=
  if r.master = k ∨ r ∉ errs then s else s.busError r

/-- A burst of master k is in progress. -/
def inProgress (k : Nat) (l : List MtxReq) : Bool :=
  l.any (fun r => decide (r.master = k) && (match r.delivered with
    | some d => decide (d < r.beats.length)
    | none => false))

/-- R606: a master is reset while its burst is in progress. The bursts that the matrix holds, in the order of their issue, end as R595 grants
them and are answered as R594 orders the answers; those of the master carry no further data, and stay outstanding until they are retired.
(DESIGN CHOICE, log 125.) -/
def execMasterReset (r : MtxReset) (s : State) : Host.Outcome State Fault Refusal :=
  .next (if s.inReset || decide (7 ≤ r.master) || s.retiring r.master || !inProgress r.master r.held then s
  else
    let held := r.held.map (fun b => if b.master = r.master then b.disable else b)
    let q := matrixOrder (s.reg MTX_AGE_AGE) s.mtx.map held
    let s := ((s.setRetiring r.master true).inc MTX_CNT1_RESETS).raise 868
    let s := s.modMtx (fun m => { m with queue := m.queue ++ q.filter (fun b => decide (b.master = r.master)) })
    let (s, errs) := s.serveBursts q
    (answerOrder q.length held q).foldl (State.answerBurst r.master errs) s)

/-- R606: every ID of master k is retired, and it may issue again; what the host island held goes out. (DEDUCED,
log 63.) The cause of source 929 ends with the last retirement (R536, R563). (DEDUCED, log 126.) -/
def execRetirementDone (k : Nat) (s : State) : Host.Outcome State Fault Refusal :=
  .next (if s.inReset || decide (7 ≤ k) || !s.retiring k then s
  else
    let s := (s.setRetiring k false).modMtx (fun m => { m with queue := m.queue.filter (fun r => decide (r.master ≠ k)) })
    let s := (if s.reg MTX_STATUS_RETIRING = 0 then s.setCause 929 false else s).followMap
    if s.hostOut then s.hostOpen else s)

end Sys2Proof.Machine
end

