-- ==== Sys2Proof/Machine/Tap.lean ====
section
/-! DEFINITION. The test access port and the memory test (R622 to R627). -/

namespace Sys2Proof.Machine

open Reg

/-- The identity of R622. -/
abbrev idcode : Nat := 0x1109656B

/-! ### The boundary register (R624, R625) -/

/-- The pins that have boundary cells; `safe` are the ten channels of R501, `SAFE_RST` and `SAFE_EDM`, `tx` and `rx` the pairs of PCIe, CP0,
CP1 and TL. -/
inductive Pin where
  | fra (t b : Nat) | frs (t : Nat) | tout (n : Nat) | spiSck | spiCsN | fdiScl | fdiSda | spiIo (n : Nat)
  | ownx (d : Nat) | tcap (n : Nat) | clrN | kfiPort | perstN | fcd (t c : Nat) | own (d : Nat) | refclk (pcie : Bool)
  | safe (c : Nat) | presenceN | porstN | resetN | so (x : Nat) | tx (n : Nat) | rx (n : Nat)
  deriving DecidableEq, Repr

/-- What a cell does at its pin: gives its data, enables its driver, or observes it. -/
inductive CellRole where
  | data | control | observe
  deriving DecidableEq, Repr

/-- Pins that are driven and observed, with two cells; those of a tile stand together. (DESIGN CHOICE, log 152.) -/
def drivenPins : List Pin :=
  allTiles.flatMap (fun t => (List.range 5).map (Pin.fra t) ++ [.frs t]) ++ (List.range 4).map Pin.tout ++ [.spiSck, .spiCsN]
/-- Bidirectional pins, with three cells. -/
def bidiPins : List Pin := [.fdiScl, .fdiSda] ++ (List.range 4).map Pin.spiIo
/-- Inputs, and pins that are only observed, with one cell. -/
def watchedPins : List Pin :=
  (List.range 8).map Pin.ownx ++ (List.range 4).map Pin.tcap ++ [.clrN, .kfiPort, .perstN] ++
  allTiles.flatMap (fun t => (List.range 8).map (Pin.fcd t)) ++ (List.range 8).map Pin.own ++ [.refclk false, .refclk true] ++
  (List.range 12).map Pin.safe ++ [.presenceN, .porstN, .resetN] ++ (List.range 2).map Pin.so

/-- The boundary register from `TDI` on. (DESIGN CHOICE, log 152.) -/
def boundary : List (Pin × CellRole) :=
  drivenPins.flatMap (fun p => [(p, .data), (p, .control)]) ++ bidiPins.flatMap (fun p => [(p, .data), (p, .control), (p, .observe)]) ++
  watchedPins.map (fun p => (p, .observe)) ++ (List.range 11).flatMap (fun n => [(.tx n, .data), (.tx n, .control)]) ++
  (List.range 11).map (fun n => (.rx n, .observe))

/-- The cell of a pin with a role. -/
def State.cell (s : State) (p : Pin) (r : CellRole) : Bool :=
  match boundary.findIdx? (fun c => decide (c = (p, r))) with
  | some i => bit s.tap.cells i
  | none => false

/-- A column above 5 V (R624). -/
def State.colHigh (s : State) (t c : Nat) : Bool :=
  let tl := s.tile t
  decide (5000 * 65535 < tl.fcdAt c s.dt * s.liveSpan t (tl.fraAt s.dt % 2))

/-- What a pin shows while no drive instruction is in effect; none where the spec does not give its level. (DESIGN CHOICE, log 152.) -/
def State.mission (s : State) : Pin → Option Bool
  | .fra t b => some (bit ((s.tile t).fraAt s.dt) b)
  | .frs t => some ((s.tile t).frsAt s.dt)
  | .tout n => some (s.tmu.tout.read false n)
  | .ownx d => some (bit s.fab.ownxRaw d)
  | .clrN => some s.fab.clrN
  | .kfiPort => some s.pins.kfiPort
  | .fcd t c => some (s.colHigh t c)
  | .own d => some (s.owns d)
  | .safe c => some (bit s.siu.raw c)
  | .porstN => some s.pins.porstN
  | .resetN => some s.pins.resetN
  | .so x => some (s.flag (if x = 0 then SIU_OUTPUTS_RB_A else SIU_OUTPUTS_RB_B))
  | _ => none

/-- A pin that the boundary register can drive. -/
def Pin.drives : Pin → Bool
  | .fra _ _ | .frs _ | .tout _ | .spiSck | .spiCsN | .fdiScl | .fdiSda | .spiIo _ | .tx _ => true
  | _ => false

/-- What a drive instruction puts on a pin: its data cell where its control cell enables it, FDI low only, and nothing under HIGHZ, which
releases every driven pin (R624, R625). -/
def State.driveCell (s : State) (code : Nat) (p : Pin) : Option Bool :=
  if code = 3 || !s.cell p .control then none
  else if decide (p = .fdiScl ∨ p = .fdiSda) && s.cell p .data then none
  else some (s.cell p .data)

/-- The level of a pin; none where it is released or not given. -/
def State.pinLevel (s : State) (p : Pin) : Option Bool :=
  match s.tap.drive with
  | some code => if p.drives then s.driveCell code p else s.mission p
  | none => s.mission p

/-- What the boundary register captures: the pins, and a free value where neither a cell's drive nor the spec gives a level. (DESIGN CHOICE,
log 152.) -/
def State.capture (s : State) : Nat :=
  (boundary.zipIdx).foldl (fun n c =>
    let seen := if c.1.2 = .control then (s.tap.drive.map (fun code => decide (code ≠ 3) && s.cell c.1.1 .control)) else s.pinLevel c.1.1
    withBit n c.2 (seen.getD ((Config.freeValue (s.free + c.2 / 64)).getLsbD (c.2 % 64)))) 0

/-! ### Instructions (R622, R623) -/

/-- An instruction is in effect and selects a register; a drive instruction before it ends. (DESIGN CHOICE, log 65.) -/
def State.tapSelect (s : State) (code : Nat) (r : TapReg) : State := { s with tap := { s.tap with ir := code, sel := r, drive := none } }

/-- Load the instruction register, which shifts out the 0b0000_0001 that it has captured (R622). -/
def State.tapLoad (s : State) (code : Nat) (r : TapReg) : State := (s.send (.tdo 8 1)).tapSelect code r

/-- The selected register shifts out what it has captured; the spec does not give a private one. (DESIGN CHOICE, log 65.) -/
def State.tapShift (s : State) : State :=
  match s.tap.sel with
  | .identity => s.send (.tdo 32 idcode)
  | .dieId => s.send (.tdo 64 Config.dieId.toNat)
  | .result => s.send (.tdo 32 (s.reg GLB_MBIST_RESULT))
  | .bypass => s.send (.tdo 1 0)
  | .boundary => { s.send (.tdo 2025 s.capture) with free := s.free + 32 }
  | .factory => s

/-- R622: the TAP is reset and selects IDCODE. -/
def execTapReset (s : State) : Host.Outcome State Fault Refusal := .next (s.tapSelect 0x02 .identity)

/-- R623: SAMPLE/PRELOAD: the pins are captured and shifted out, and the cells shifted in. (DESIGN CHOICE, log 65.) -/
def execSamplePreload (cells : Nat) (s : State) : Host.Outcome State Fault Refusal :=
  let s := (s.tapLoad 0x01 .boundary).tapShift
  .next { s with tap := { s.tap with cells := cells % 2 ^ 2025 } }

/-- R622. -/
def execIdcode (s : State) : Host.Outcome State Fault Refusal := .next (s.tapLoad 0x02 .identity).tapShift

/-- R623. -/
def execDieId (s : State) : Host.Outcome State Fault Refusal := .next (s.tapLoad 0x11 .dieId).tapShift

/-- The park sequencer lets go of every domain, and the columns go to 0 V (R625, R71). -/
def State.parkStop (s : State) : State :=
  s.forEach (fun s d =>
    let s := (s.parkOwn d false).setParkPh d .waiting
    s.forEach (fun s k => s.modTile (12 * d + k) Tile.idleLines) (List.range 12)) allDoms

/-- A drive instruction takes effect while PORST_N is asserted; otherwise it acts as BYPASS and is noted as refused (R625). -/
def State.tapDrive (s : State) (code : Nat) (r : TapReg) : State :=
  if s.pins.porstN then (s.tapLoad code .bypass).setFlag GLB_TEST_DRIVE_REFUSED 0 true
  else
    let s := s.tapLoad code r
    ({ s with tap := { s.tap with drive := some code } }).parkStop

/-- R625. -/
def execExtest (s : State) : Host.Outcome State Fault Refusal := .next (s.tapDrive 0x00 .boundary)
/-- R625. -/
def execHighz (s : State) : Host.Outcome State Fault Refusal := .next (s.tapDrive 0x03 .bypass)
/-- R625. -/
def execClamp (s : State) : Host.Outcome State Fault Refusal := .next (s.tapDrive 0x04 .bypass)
/-- R625. -/
def execExtestPulse (s : State) : Host.Outcome State Fault Refusal := .next (s.tapDrive 0x05 .boundary)
/-- R625. -/
def execExtestTrain (s : State) : Host.Outcome State Fault Refusal := .next (s.tapDrive 0x06 .boundary)

/-- The codes of R623 that select something else than BYPASS. -/
def tapCodes : List Nat := [0x00, 0x01, 0x02, 0x03, 0x04, 0x05, 0x06, 0x10, 0x11]

/-- R623: BYPASS and every code that names no other instruction. The factory codes select their private register in factory test, and act as
BYPASS on every other device (R626). (DESIGN CHOICE, log 65.) -/
def execBypass (code : Nat) (s : State) : Host.Outcome State Fault Refusal :=
  let c := code % 256
  .next (if tapCodes.contains c then s
  else if s.factory && decide (0x20 ≤ c) && decide (c ≤ 0x2F) then s.tapLoad c .factory
  else (s.tapLoad c .bypass).tapShift)

/-- An entry of the fault history whose content the memory test has destroyed: free values n and n + 1. (DESIGN CHOICE, log 16.) -/
def lostEntry (n : Nat) : HistEntry :=
  let v := (Config.freeValue n).toNat
  { src := getBits v 0 10, sev := getBits v 10 3, injected := bit v 13, first := bit v 14, status := getBits v 16 8, info := getBits v 32 32
    dt := (Config.freeValue (n + 1)).toNat }

/-- The test destroys what the SRAM regions hold; of that only the fault history has come through RESET_N (R545, R597, R627). -/
def State.destroySram (s : State) : State :=
  { s with free := s.free + 2 * s.flt.hist.length, flt := { s.flt with hist := (List.range s.flt.hist.length).map (fun k => lostEntry (s.free + 2 * k)) } }

/-- R627: the memory test starts while RESET_N is asserted and PORST_N released; otherwise it acts as BYPASS. -/
def execMbistRun (s : State) : Host.Outcome State Fault Refusal :=
  .next (if !s.pins.resetN && s.pins.porstN then ((s.tapLoad 0x10 .result).setReg GLB_MBIST_RESULT 0 (2 ^ 31)).destroySram
  else s.tapLoad 0x10 .bypass)

/-- R627: the test ends with a bit for each failed region; the result register, if it is selected, shifts it out. -/
def execMbistDone (failed : Nat) (s : State) : Host.Outcome State Fault Refusal :=
  .next (if s.reg GLB_MBIST_RESULT < 2 ^ 31 then s
  else
    let s := s.setReg GLB_MBIST_RESULT 0 (failed % 2 ^ 13)
    if s.tap.sel = .result then s.tapShift else s)

end Sys2Proof.Machine
end

