-- ==== Sys2Proof/Machine/Frame.lean ====
section
/-! DEFINITION. The frame marker (R27): what takes effect, freezes, exchanges and changes mode on it, and the end of quarantine (R373). -/

namespace Sys2Proof.Machine

open Reg

/-! ### Before the marker -/

/-- Registers of a tile whose writes take effect at the marker (R91, R115, and the sections of R139 and R183). -/
def markerRegs (t : Nat) : List Nat :=
  [DRV_SLEW_N_STEP.offAt t, DRV_SLEW_B_STEP.offAt t, FF_CTRL_FF_SRC.offAt t, SNS_CTRL_RANGE_MODE.offAt t, SNS_DRIFT_DRIFT_ABS.offAt t,
   LOOP_CTRL_RUN.offAt t, LOOP_MEAS_SUM_MIN.offAt t, LOOP_REGION_BAR_EDGE.offAt t, LOOP_TEMP_TSRC.offAt t, LOOP_HOLD_HOLD_MAX.offAt t]

/-- What fell due at an earlier marker or tick and no command has carried out. (DESIGN CHOICE, log 4.) -/
def State.overdue (s : State) (m t : Nat) : State :=
  let s := s.burstsBy t m
  let s := if (s.tile t).seq = .clear ∧ (s.tile t).burstEnd ≤ m then s.modTile t (fun tl => { tl with seq := .idle }) else s
  let s := ((s.parkDwellEnd t).epochEnd t).divWindowEnd t
  s.forEach (fun s e => s.holdExpiry t e) (allElems.filter (fun e => decide (((s.tile t).lane e).mode = .hold)))

/-! ### The marker in one tile: counts and the slot sequencer -/

/-- Frames, epochs and windows count; the watchdog's run of frames without a row goes on or ends (R138, R173, R132, R537). (DEDUCED, log 70.) -/
def State.countFrame (s : State) (t : Nat) : State :=
  let tl := s.tile t
  let idle := if tl.handed || !s.engineRuns t then 0
    else if allElems.any (fun e => (tl.lane e).watched) then tl.idleFrames + 1 else 0
  let sweep := tl.sweep.map (fun w => if w.armed then w else { w with frames := w.frames + 1 })
  s.setTile t { tl with frame := tl.frame + 1, epoch := tl.epoch + 1, window := tl.window + 1,
                        period := if s.effReg SNS_CTRL_SCARAB_EN t = 1 then tl.period + 1 else tl.period,
                        slot := 0, begun := 0, idleFrames := idle, handed := false, sweep := sweep }

/-- The comparison window of R133 closes one frame before the period's end. -/
def State.overlapClose (s : State) (t : Nat) : State :=
  if 99999 ≤ (s.tile t).period then s.setFlag SNS_SCARAB_OVERLAP t false else s

/-- R88 at a marker: step 2 begins once no transaction remains, the dwell counts, and step 5 ends the change. -/
def State.spanMarker (s : State) (t : Nat) : State :=
  let s := s.setFlag DRV_SPAN_SPAN_WAIT t (s.flag DRV_SPAN_SPAN_WAIT t && (s.tile t).spanMustWait)
  match (s.tile t).span with
  | .none => s
  | .waiting =>
    if (s.tile t).spanMustWait then s
    else (s.setFlag DRV_SPAN_SPAN_WAIT t false).modTile t (fun tl => { tl with span := .dwell (s.reg DRV_CTRL_PARK_DWELL t) })
  | .dwell n => s.modTile t (fun tl => { tl with span := .dwell (n - 1) })
  | .live => (s.setFlag DRV_SPAN_SPAN_BUSY t false).modTile t (fun tl => { tl with span := .none })

/-- R97, R100: the clear holds the lanes of an owned tile from its fall until the first marker after its rise and its burst. -/
def State.clearMarker (s : State) (t : Nat) : State :=
  s.modTile t (fun tl => { tl with
    clr := if s.fab.clrN then tl.clr && decide (tl.seq = .clear) else tl.clr || s.ownsTile t
    clrLeft := tl.clr && s.fab.clrN && decide (tl.seq ≠ .clear)
    seq := if tl.seq = .idle then .normal else tl.seq })

/-! ### Freezes (R254, R294, R316) -/

/-- Bank p freezes at the marker at tick m beside the other bank o; `last` is the tile's last commit tick. -/
def Pend.mayFreeze (p o : Pend) (m : Nat) (last : Option Nat) : Bool :=
  let armed := match p.armAt with
    | some a => decide (a < m)
    | none => false
  let earlier := match p.commit, o.commit with
    | some c, some c' => decide (o.st ≠ .free) && decide (c' < c)
    | _, _ => false
  let past := decide (o.st = .bursting) && (match last with
    | some c' => decide (c' < m)
    | none => false)
  decide (p.st = .staged) && armed && (!earlier || past)

/-- Target codes of the nodes a bank changes: park codes for plan 0, curve values otherwise (R165, R254). -/
def State.targetsOf (s : State) (t : Nat) (p : Pend) : List (Nat × Nat) :=
  if p.dark then (s.popElems t).flatMap (fun e => [(2 * e, s.parkOf t e 0), (2 * e + 1, s.parkOf t e 1)])
  else p.named.flatMap (fun q => [(2 * q.1, (s.tile t).targetCode q.1 0 q.2), (2 * q.1 + 1, (s.tile t).targetCode q.1 1 q.2)])

/-- R254: bank k of tile t freezes. -/
def State.freezeBank (s : State) (t k : Nat) : State :=
  let tl := s.tile t
  let p := tl.pend k
  let target := s.targetsOf t p
  let steepEn := s.flag DRV_CTRL_STEEP_EN t
  let steep := if steepEn then target.map (fun q => (q.1, s.steepCode t (q.1 % 2) q.2 (tl.cur.read 0 q.1))) else []
  let p := { p with st := .frozen, target := target, steep := steep, steepEn := steepEn,
                    dwell := s.reg DRV_CTRL_STEEP_DWELL t, frozenAt := some s.marker, report := none }
  s.setTile t (tl.setPend k { p with energy := s.bankEnergy t p })

/-- The banks of tile t that freeze at this marker. A span change bars those of transactions not frozen here at its write (R89). -/
def State.freezeTile (s : State) (t : Nat) : State :=
  let tl := s.tile t
  if !s.engineRuns t || decide (s.role = roleStandby) then s
  else
    let may (p o : Pend) : Bool := !tl.spanBlocks p && p.mayFreeze o s.marker tl.lastCommit
    let s := if may tl.pend0 tl.pend1 then s.freezeBank t 0 else s
    if may tl.pend1 tl.pend0 then s.freezeBank t 1 else s

/-- Elements that handle h names in domain d, and the energy computed for it there, in nJ. -/
def State.frozenPart (s : State) (i d : Nat) : Nat × Nat × Nat :=
  let t := s.slot i
  let h := s.handle i
  let ts := t.tiles.filter (fun k => decide (domOf k = d))
  let banks := ts.filterMap (fun k => ((s.tile k).bankOf h).map (fun b => (k, (s.tile k).pend b)))
  (d, (banks.map (fun q => if q.2.dark then (s.popElems q.1).length else q.2.named.length)).sum, toNJ (banks.map (fun q => q.2.energy)).sum)

/-- Every involved tile of transaction i has frozen. -/
def State.allFrozen (s : State) (i : Nat) : Bool :=
  (s.slot i).tiles.all (fun k => match (s.tile k).bankOf (s.handle i) with
    | some b => ((s.tile k).pend b).frozenAt.isSome
    | none => false)

/-- R294, R316: the energy of transaction i, whose tiles have all frozen, goes to the scheduler and, for the calendar, into `CAL_ENERGY`. (DESIGN CHOICE, log 73.) -/
def State.trueTxn (s : State) (i : Nat) : State :=
  let t := s.slot i
  if decide (t.st ≠ .arming) || t.trued || !s.allFrozen i then s
  else
    let doms := allDoms.filter (fun d => t.tiles.any (fun k => decide (domOf k = d)))
    let parts := doms.map (s.frozenPart i)
    let old : Charge := t.charge.getD { unit := s.effReg ADM_COST_E_UNIT }
    let new : Charge := match t.charge with
      | some c => { c with parts := c.parts.map (fun p => match parts.find? (fun q => decide (q.1 = p.1)) with
          | some q => (p.1, p.2.1, q.2.2)
          | none => (p.1, p.2.1, 0)) }
      | none => { old with parts := parts }
    let s := s.modSlot i (fun t => { t with trued := true, charge := some new })
    let s := { s with adm := { s.adm with trueups := s.adm.trueups ++ [{ handle := s.handle i, old := old, new := new }] } }
    match t.charge with
    | some _ => s
    | none => { s with cal := { s.cal with energy := (s.marker, (parts.map (fun p => p.2.2)).sum) :: s.cal.energy } }

/-! ### The drive banks, the tones and the ranges (R29, R104, R126) -/

def State.swapTile (s : State) (t : Nat) : State :=
  let tl := s.tile t
  let tl := { tl with prev := tl.cur, cur := tl.nxt, nxt := tl.cur, placedCur := tl.placedNxt, placedNxt := [] }
  let tl := tl.modLanes (fun e l => { l with phase := (l.phase + (s.toneOf t e).1) % 16777216 })
  (s.setTile t tl).selectRanges t

/-! ### Lane modes at the marker (R168, R169) -/

/-- What the transitions of one tile depend on. -/
structure LaneEnv where
  frame : Nat
  marker : Nat
  /-- The device stands by; or it leads and has the domain ready. -/
  standby : Bool
  takes : Bool
  /-- A span change, a clear, `RUN` = 0 or role `RESIGNED`. -/
  park : Bool
  /-- Role `RESIGNED`, or the domain released in a switchover, alone (R168, R447). -/
  resigned : Bool
  /-- A clear that no marker had met has ended at this one (R100). -/
  cleared : Bool
  /-- A hold or fence of the domain is in force. -/
  held : Bool
  driftAct : Bool
  bankChanged : Bool
  /-- A commit fell on the marker's tick. -/
  commits : Bool
  /-- Of R172 in frames, and of R170. -/
  holdMax : Nat
  reacq : Nat
  deriving DecidableEq, Repr

/-- What they depend on in one lane: the element's `LOOP_EN` and row, its park codes, the selected gain set, a sweep that it was in or
enters, and the codes of the frame just completed and of the drive bank. -/
structure LaneIn where
  parked : Bool
  parkP : Nat
  parkT : Nat
  gainOk : Bool
  wasCal : Bool
  enterCal : Bool
  prevP : Nat
  prevT : Nat
  bankP : Nat
  bankT : Nat
  deriving DecidableEq, Repr

def Lane.toPark (l : Lane) : Lane :=
  { l with mode := .park, reacq := false, freeze := false, handover := false, drift := false, driftRaised := false, divHold := false, dark := false, cleared := false }

def Lane.toHold (l : Lane) (p q holdMax : Nat) : Lane :=
  { l with mode := .hold, reacq := false, freeze := false, handover := false, heldP := p, heldT := q, holdCnt := 0, holdMax := holdMax,
           drift := false, driftRaised := false }

/-- Into `FEEDBACK` through re-acquire from the kept state. -/
def Lane.toReacq (l : Lane) (v : LaneEnv) : Lane :=
  { l.reacqKept v.reacq with mode := .feedback, fbFrom := v.frame, drift := false, driftRaised := false, divHold := false }

/-- The end of `BURST` (R168). (DEDUCED, log 70.) -/
def Lane.burstDone (l : Lane) (v : LaneEnv) (x : LaneIn) : Lane :=
  if l.dark then { l.toPark with tgtValid := false }
  else if v.park || x.parked || l.cleared then l.toPark
  else if v.held then l.toHold x.bankP x.bankT v.holdMax
  else { l with mode := .feedback, handover := true, reacq := false, freeze := false, fbFrom := v.frame, divRun := 0, satRun := 0 }

/-- The leave from `SHADOW` (R175). (DESIGN CHOICE, log 66; DEDUCED, log 71.) -/
def Lane.fromShadow (l : Lane) (v : LaneEnv) : Lane :=
  match l.snapMode with
  | .feedback => l.toReacq v
  | .burst => l.toReacq v
  | .cal => l.toReacq v
  | .hold => l.toHold l.uaP l.uaT v.holdMax
  | _ => l.toPark

/-- A lane in `HOLD`. (DEDUCED, log 68.) -/
def Lane.holdMarker (l : Lane) (v : LaneEnv) (x : LaneIn) : Lane :=
  let l := { l with holdCnt := l.holdCnt + 1, divHold := l.divHold && !v.bankChanged }
  if v.park || x.parked then l.toPark
  else if l.drift && v.driftAct then l.toPark
  else if v.held || l.divHold || decide (l.holdMax ≤ l.holdCnt) then l
  else l.toReacq v

/-- A lane in `PARK` at a marker. -/
def Lane.parkMarker (l : Lane) (v : LaneEnv) (x : LaneIn) : Lane :=
  if v.park || x.parked then l
  else if x.enterCal then { l with mode := .cal, origin := .park, heldP := l.uaP, heldT := l.uaT, cap := [] }
  else if l.tgtValid && x.gainOk && !v.held then
    { l.reacqFresh v.reacq l.uaP with mode := .feedback, fromPark := true, fbFrom := v.frame }
  else l

/-- A lane in `BURST` at a marker: span change, clear and `RUN` = 0 wait for the end of its bursts, the other causes of `PARK` do not
(R168). (DEDUCED, log 132.) -/
def Lane.burstMarker (l : Lane) (v : LaneEnv) (x : LaneIn) : Lane :=
  if v.resigned || x.parked then { l.toPark with tgtValid := l.tgtValid && !l.dark }
  else if l.burstTo ≤ v.marker then l.burstDone v x else l

/-- The mode that a lane takes at a marker. One that a clear held from its fall until this marker stands in `PARK` at its park codes and
leaves it (R97, R100). (DEDUCED, log 68; DEDUCED, log 133.) -/
def Lane.atMarker (l : Lane) (v : LaneEnv) (x : LaneIn) : Lane :=
  match l.mode with
  | .shadow => if v.takes then l.fromShadow v else l
  | m =>
    -- R169: a dark-plan commit, and the end of its bursts, before a change of role.
    if l.mode = .burst ∧ l.dark ∧ l.burstTo ≤ v.marker then l.burstDone v x
    else if l.mode = .burst ∧ l.dark ∧ v.commits then l
    else if v.standby then { l.toPark with mode := .shadow, snapMode := .park }
    else if v.cleared && decide (m ≠ .burst) then Lane.parkMarker { l.toPark with uaP := x.parkP, uaT := x.parkT } v x
    else match m with
      | .burst => l.burstMarker v x
      | .hold => l.holdMarker v x
      | .feedback =>
        if v.park || x.parked then l.toPark
        else if (v.held && !x.wasCal) || l.divHold then l.toHold x.prevP x.prevT v.holdMax
        else if x.enterCal then { l with mode := .cal, origin := .feedback, heldP := x.prevP, heldT := x.prevT, cap := [] }
        else l
      | .park => l.parkMarker v x
      | _ => l

/-- A lane that leaves `FEEDBACK` notes the frame (R261). -/
def Lane.noteLeave (old l : Lane) (frame : Nat) : Lane :=
  if old.mode = .feedback ∧ l.mode ≠ .feedback then { l with fbTo := frame } else l

/-- The device has resigned domain d: its role is `RESIGNED`, or a switchover has taken the domain from it (R168, R447). -/
def State.resignedIn (s : State) (d : Nat) : Bool :=
  decide (s.role = roleResigned) || (match s.twn.switch with
    | some (m, _, _) => bit m d
    | none => false)

/-- What a lane of tile t meets at a frame marker: its tile, domain and device. (DEDUCED, log 71.) -/
def State.laneEnv (s : State) (t : Nat) : LaneEnv :=
  let tl := s.tile t
  let d := domOf t
  { frame := tl.frame, marker := s.marker
    standby := s.running && decide (s.role = roleStandby) && decide (s.domState d ≠ 4)
    takes := s.leads && s.owns d && bit s.fab.ownReady d
    park := s.parkHold t || decide (s.effReg LOOP_CTRL_RUN t ≠ 1) || s.resignedIn d || decide (s.domState d = 4)
    resigned := s.resignedIn d, cleared := tl.clrLeft
    held := s.domHeld d, driftAct := decide (s.effReg LOOP_HOLD_DRIFT_ACT t = 1), bankChanged := tl.bankChanged
    commits := decide (tl.lastCommit = some s.marker)
    holdMax := 4000 * s.effReg LOOP_HOLD_HOLD_MAX t, reacq := s.effReg LOOP_CTRL_REACQ_FRAMES t }

/-- `LOOP_EN` = 0 or an unpopulated row keeps the lane in `PARK` (R168). (DEDUCED, log 68.) -/
def State.laneParked (s : State) (t e : Nat) : Bool :=
  !((s.tile t).cfg e).loopEn || !(s.populated t && s.rowPop t (rowOf e))

/-- A sweep can start, or go on, at this marker (R168, R169, R174, R581). (DEDUCED, log 69.) -/
def State.sweepMay (s : State) (t : Nat) (w : Sweep) : Bool :=
  let v := s.laneEnv t
  let ok (m : LaneMode) : Bool := if w.armed then decide (m = .feedback) || decide (m = .park) else decide (m = .cal)
  !v.standby && !v.park && !v.cleared && !v.held && w.elems.all (fun e =>
    ok ((s.tile t).lane e).mode && !s.laneParked t e && !(w.armed && ((s.tile t).lane e).divHold))

/-- An armed sweep runs from its marker on. -/
def Sweep.begin (w : Sweep) : Sweep := if w.armed then { w with armed := false, frames := 0 } else w

/-- What the transition of lane e depends on; `before` is the tile as the marker found it. (DEDUCED, log 69.) -/
def State.laneIn (s : State) (t : Nat) (before tl : Tile) (prev : Tab Nat) (e : Nat) (l : Lane) : LaneIn :=
  { parked := s.laneParked t e, parkP := s.parkOf t e 0, parkT := s.parkOf t e 1, gainOk := (tl.gainSet (s.gainIndex t (tl.cfg e) l)).isSome
    wasCal := decide ((before.lane e).mode = .cal)
    enterCal := match tl.sweep with
      | some w => w.armed && w.elems.contains e
      | none => false
    prevP := bankCode prev e 0, prevT := bankCode prev e 1, bankP := bankCode tl.cur e 0, bankT := bankCode tl.cur e 1 }

/-- A lane that enters `FEEDBACK` places u_a (R170, R171). -/
def Tile.placeEntered (after before : Tile) : Tile :=
  let es := allElems.filter (fun e => decide ((after.lane e).mode = .feedback) && decide ((before.lane e).mode ≠ .feedback))
  after.takeCodes (es.flatMap (fun e => [(2 * e, (after.lane e).uaP), (2 * e + 1, (after.lane e).uaT)]))

/-- A lane that leaves `HOLD`, or that may enter it from `BURST`, starts without a capture (R137). -/
def Tile.clearLeft (after before : Tile) : Tile :=
  let es := allElems.filter (fun e => decide ((after.lane e).mode ≠ (before.lane e).mode) &&
    (decide ((before.lane e).mode = .hold) || decide ((before.lane e).mode = .burst)))
  (es.flatMap (fun e => [2 * e, 2 * e + 1])).foldl Tile.clearTap after

/-- Lanes that a drift flag parks at this marker (R172). -/
def State.driftParks (s : State) (t : Nat) (v : LaneEnv) (tl : Tile) : Nat :=
  if v.driftAct && !v.park && !v.cleared && !v.standby then
    (allElems.filter (fun e => decide ((tl.lane e).mode = .hold) && (tl.lane e).drift && !s.laneParked t e)).length else 0

/-- The lanes that have changed mode or begun `FEEDBACK` anew at this marker, as they stood in the frame before it in tile `old`. -/
def Tile.noteLast (after old : Tile) : Tile :=
  { after with lanesLast := allElems.foldl (fun m e =>
      let l := after.lane e
      let o := old.lane e
      if decide (l.mode ≠ o.mode) || (decide (l.mode = .feedback) && decide (l.fbFrom = after.frame) && decide (o.fbFrom ≠ after.frame))
      then m.write none e (some o) else m) [] }

/-- The modes of tile t at this marker; `prev` is the drive bank of the frame just completed, and `old` the tile as that frame left it. -/
def State.lanesMarker (s : State) (t : Nat) (prev : Tab Nat) (old : Tile) : State :=
  let before := s.tile t
  let s := match before.sweep with
    | some w => if s.sweepMay t w then s else s.abortSweep t
    | none => s
  let v := s.laneEnv t
  let tl := s.tile t
  let after := tl.modLanes (fun e l => (before.lane e).noteLeave (l.atMarker v (s.laneIn t before tl prev e l)) v.frame)
  let after := { after with sweep := after.sweep.map Sweep.begin }
  let s := (s.setTile t (((after.placeEntered before).clearLeft before).noteLast old)).count LOOP_HEVT_DRIFT_PARKED t (s.driftParks t v tl)
  let s := match after.sweep with
    | some w => s.setReg LOOP_CAL_POINT t (min 31 w.point)
    | none => s
  s.refreshModes t

/-! ### Verify windows (R261) -/

/-- Windows open at the first marker after the last burst; a lane of a fenced domain is neither verified nor late. (DEDUCED, log 89.) -/
def State.verifyMarker (s : State) (t : Nat) : State :=
  let win := s.reg TXN_VERIFY_VERIFY_WIN * 128
  let tol := s.reg TXN_VERIFY_VERIFY_TOL
  let f (v : Verify) : Verify :=
    let v := if v.waiting then { v with waiting := false, opened := true, openAt := s.marker, closeAt := s.marker + win, tol := tol } else v
    if s.domHeld (domOf t) && !v.decided then { v with fenced := true, todo := [] } else v
  s.modTile t (fun tl => { tl with vers := tl.vers.map f })

/-! ### The marker -/

/-- A sweep's point that has dwelt since an earlier marker ends at this one (R174). -/
def State.sweepDue (s : State) (t : Nat) : Bool :=
  match (s.tile t).sweep with
  | some w => !w.armed && decide (w.dwell ≤ w.frames)
  | none => false

/-- Before the exchanges. (DESIGN CHOICE, log 4.) -/
def State.markerFirst (s : State) (t : Nat) : State :=
  let due := s.sweepDue t
  let s := (((s.overdue s.marker t).takeEffects (markerRegs t)).countFrame t).overlapClose t
  if due then s.calPointEnd t else s

/-- After the exchanges and before the lanes: the span, the clear and the freezes of one tile. -/
def State.markerFreeze (s : State) (t : Nat) : State := ((s.spanMarker t).clearMarker t).freezeTile t

/-- The drive banks, the lanes and the verify windows of one tile; `old` is the device as the frame left it. -/
def State.markerLanes (old : State) (s : State) (t : Nat) : State :=
  let prev := (s.tile t).cur
  let s := ((s.swapTile t).lanesMarker t prev (old.tile t)).verifyMarker t
  (s.setFlag DRV_STATUS_PARK_HOLD t (s.parkHold t)).refreshBurst t

/-- The first strobes after an assertion of `OWN_Dd` (R70), and the end of the frame that brings none (R125 order 3). -/
def State.ownMarker (s : State) : State :=
  let ready := allDoms.foldl (fun m d => withBit m d (s.owns d && decide (s.fab.ownAt.read 0 d + 384 ≤ s.marker))) 0
  { s with fab := { s.fab with ownReady := ready, ownSensed := Nat.land s.fab.ownReady ready } }

/-- R27: a frame marker. (DESIGN CHOICE, log 4; DEDUCED, log 5; DEDUCED, log 67.) -/
def State.frameMarker (s : State) : State :=
  let old := s
  let m := s.nextMarker
  let s := { (s.advanceTo m) with marker := m, started := true }
  if s.fab.treeLost then s.stepAtMarker.serviceMarker
  else
    let s := s.forEach State.markerFirst allTiles
    let s := s.stepAtMarker
    let s := if s.tmu.calPend then s.treeMarker else s.moveTrims
    let s := s.serviceMarker.ownMarker.exchangeTiles
    let s := s.forEach State.markerFreeze allTiles
    let s := s.forEach State.trueTxn allSlots
    (s.forEach (State.markerLanes old) allTiles).releaseDue.putAhead.captureSnap

def execFrameMarker (s : State) : Host.Outcome State Fault Refusal := .next (if s.inReset then s else s.frameMarker)

/-- Time between commands: one tick once the first marker has passed and no reset is asserted. (DESIGN CHOICE, log 3.) -/
def State.idle (s : State) : State := if s.started && !s.inReset then (((s.advance 1).egress 0).egress 1).tlGo else s

/-! ### Quarantine (R373) -/

/-- The quarantine of session record i ends: the record becomes invalid. -/
def execQuarantineEnd (i : Nat) (s : State) : Host.Outcome State Fault Refusal :=
  .next (let x := s.sess i
    if s.inReset || decide (16384 ≤ i) || !x.quar then s
    else (s.advance (x.ageAt - s.tick)).endQuarantine)

end Sys2Proof.Machine
end

