-- ==== Sys2Proof/Machine/RegWrite.lean ====
section
/-! DEFINITION. Reads and writes of the windows of the device: access codes, side effects, latching registers, the kick window, holes and
illegal accesses (R13 to R15, R195, R227, R391, R392, R600 to R603, R608, R610). -/

namespace Sys2Proof.Machine

open Reg

/-! ### Holes and paths (R599 to R602) -/

/-- The holes of R601. -/
def isHole (o : Nat) : Bool :=
  (decide (0x20000 ≤ o) && decide (o < 0x100000)) || (decide (0x160000 ≤ o) && decide (o < 0x200000)) ||
  (decide (0x2E0000 ≤ o) && decide (o < 0x1000000))

/-- The path can reach the registers: host software as R567 and R569 give, the supervisor once it executes. (DEDUCED, log 76.) -/
def State.onPath (s : State) : Window → Bool
  | .host => s.windowOpen
  | .kick => s.windowOpen
  | .config => s.configOpen
  | .supervisor => !s.inReset && decide (1 ≤ s.startup) && !s.retiring mtxSupervisor

/-- A default-target access at offset o (R599, R602, R605). Bits 39 to 32 of a host access's address are a free value. (DESIGN CHOICE, log 17.) -/
def State.holeAccess (s : State) (sup write : Bool) (o : Nat) : State :=
  let hi := if sup then 2 else (s.takeFree 8).1
  let s := if sup then s else (s.takeFree 8).2
  let s := s.defaultTarget (if sup then 3 else 0xF) write hi o
  if sup then s.superError else s

/-! ### Writes (R13 to R15) -/

/-- What a write starts in the SIU and in the drive stage when it clears a bit that held a condition (R536, R555). -/
def State.endCauses (s : State) (o : Nat) : State :=
  if o = SIU_STICKY_RST_HELD.off then (if s.flag SIU_STICKY_RST_HELD then s else s.setCause 791 false)
  else if isReg DRV_STATUS_DRV_FAULT o then
    let t := DRV_STATUS_DRV_FAULT.inst o
    if s.reg DRV_STATUS_DRV_FAULT t = 0 ∧ s.reg DRV_STATUS_ILIM_NOW t = 0 then s.setCause (srcTile t 1) false else s
  else s

/-- What a write of v to `TOUTn_CTRL` starts (R223, R224): with both bits set the output is armed and then stopped. (DESIGN CHOICE, log 120.) -/
def State.toutCtrl (n v : Nat) (s : State) : State :=
  let s := s.toutPin n
  let s := if bit v TOUT_CTRL_ARM.lo then s.toutArm n else s
  if bit v TOUT_CTRL_STOP.lo then s.toutStop n else s

/-- What a write of v to the register at offset o starts; `b` is the state before it. (DESIGN CHOICE, log 77.) -/
def State.afterWrite (b : State) (o v : Nat) (s : State) : State :=
  if o = HIF_CTRL_EN.off then s.hifCtrl
  else if o = HIF_ADM_CFG_EN.off then s.admCfg (b.flag HIF_ADM_CFG_EN)
  else if o = HIF_EVT_CFG_EN.off then s.evtCfg (b.flag HIF_EVT_CFG_EN)
  else if o = HIF_POLL_POLL_US.off then { s with hif := { s.hif with pollAt := s.tick } }
  else if o = TMU_CTRL_PTP_EN.off then s.tmuCtrl (b.word TMU_CTRL_PTP_EN.off).toNat
  else if o = KFI_CTRL_DESC_REREAD.off then (if bit v 1 then s.reread else s)
  else if isReg TOUT_CTRL_ARM o then State.toutCtrl (TOUT_CTRL_ARM.inst o) v s
  else if o = SIU_CMD_CFG_COMMIT.off then State.siuCmd v s
  else if o = SIU_CFG0_T_DISC.off ∨ o = SIU_CFG1_DEGRADE_MIN.off then s.cfgPend
  else if isReg CP_CTRL_EN o then State.cpCtrl (b.flag CP_CTRL_FEC_EN (CP_CTRL_EN.inst o)) (CP_CTRL_EN.inst o) s
  else if o = FLT_INJ_GO.off then State.fltInj v s
  else if o = FLT_SWTRIG_TRIG.off then State.swTrig v s
  else if o = FLT_HIST_SNAP_SNAP.off then (if bit v 0 then s.histSnap else s)
  else if o = BTU_CTRL_SEAL.off then State.btuCtrl v s
  else if isReg DOM_CTRL_FENCE o then State.domCtrl (DOM_CTRL_FENCE.inst o) v s
  else if o = HK_CTRL_CAL_REQ.off then State.hkCtrl v s
  else if o = HK_SCAN_MASK2.off then s.hkScan
  else s.endCauses o

/-- R136: a write of `SNS_CTRL`; bit 4 requests a line check. -/
def State.snsCtrl (s : State) (o v : Nat) : State :=
  let t := SNS_CTRL_LINE_CHECK.inst o
  let s' := (s.plainWrite o v).setFlag SNS_CTRL_LINE_CHECK t (s.flag SNS_CTRL_LINE_CHECK t)
  if bit v SNS_CTRL_LINE_CHECK.lo then s'.lineCheck t else s'

/-- R598, R608: a write of `MTX_CTRL`, which only the supervisor's changes. -/
def State.mtxCtrl (s : State) (sup : Bool) (o v : Nat) : State :=
  if !sup then s.badWrite o
  else if bit v 0 then s.setRemap
  else s

/-- A 32-bit write of v at offset o of BAR0. (DEDUCED, log 76.) -/
def State.barWrite (s : State) (sup : Bool) (o v : Nat) : State :=
  if isHole o then s.holeAccess sup true o
  else if o % 4 ≠ 0 ∨ fieldsAt o = [] then s
  else if isReg DRV_SPAN_SPAN_PRI o then s.writeSpan (DRV_SPAN_SPAN_PRI.inst o) v
  else if isReg SNS_CTRL_LINE_CHECK o then s.snsCtrl o v
  else if o = MTX_CTRL_REMAP.off then s.mtxCtrl sup o v
  else State.afterWrite s o v (s.plainWrite o v)

/-- R392: a write of `KICK`. -/
def State.writeKick (s : State) (v : Nat) : State :=
  let s := if bit v 15 then (s.inc HIF_CNT3_KICKS).kickLine (v % 1024) else s
  if bit v 14 then ({ s with hif := { s.hif with evtCi := v / 65536 % 65536 } }).evtMarker else s

/-- A write of word k of entry n of the MSI-X table, in the standard format (R391, R420). (PRESUMED, log 75.) -/
def State.writeMsix (s : State) (n k v : Nat) : State :=
  if k < 3 then { s with hif := { s.hif with msix := s.hif.msix.write 0 (4 * n + k) (BitVec.ofNat 32 v) } }
  else if bit v 0 then { s with hif := { s.hif with unmasked := s.hif.unmasked.filter (fun m => decide (m ≠ n)) } }
  else ({ s with hif := { s.hif with unmasked := if n ∈ s.hif.unmasked then s.hif.unmasked else n :: s.hif.unmasked } }).sendPending

/-- A 32-bit write of v at offset o of the kick window (R391). (DEDUCED, log 62.) -/
def State.kickWrite (s : State) (o v : Nat) : State :=
  if o % 4 ≠ 0 then s
  else if o = 0 then s.writeKick v
  else if 0x4000 ≤ o ∧ o < 0xC000 then s.writeMsix ((o - 0x4000) / 16) ((o - 0x4000) % 16 / 4) v
  else s

/-! ### What a read shows -/

/-- `HOLD_LEFT` (R187): the least remaining time among the lanes in `HOLD`, in 10 ms rounded up. -/
def Tile.holdLeft (tl : Tile) : Nat :=
  let l := (allElems.filter (fun e => decide ((tl.lane e).mode = .hold))).map (fun e => ((tl.lane e).holdMax - (tl.lane e).holdCnt + 3999) / 4000)
  match l with
  | [] => 0
  | a :: r => r.foldl min a

/-- State codes of R279. -/
def BankSt.code : BankSt → Nat
  | .free => 0
  | .staged => 1
  | .frozen => 2
  | .armed => 3
  | .bursting => 4

/-- `TXN_TBANKk` (R279). -/
def Pend.word (p : Pend) : Nat := if p.st = .free then 0 else p.handle % 65536 + 65536 * p.st.code + 524288 * b2n (decide (p.addrs.length < 32))

/-- `CAL_ENERGY` (R294, R308): the last 1 ms, in µJ. (DESIGN CHOICE, log 73.) -/
def State.calEnergy (s : State) : Nat :=
  min 65535 (((s.cal.energy.filter (fun p => decide (s.dt < p.1 + 1280000))).map Prod.snd).sum / 1000)

/-- `CPX_SESS.N_OPEN` (R386). -/
def State.nOpen (s : State) : Nat := (s.cpx.sessions.filter (fun p => p.2.isOpen)).length

/-- `FLT_STATUS.N_HELD` (R552). -/
def State.nHeld (s : State) : Nat := ((List.range 32).map (fun k => (bitsOf 32 (s.reg FLT_HELD_HELD k)).length)).sum

/-- `PRES_LEFT` (R500). -/
def State.presLeft (s : State) : Nat :=
  match s.siu.presEnd with
  | none => 0
  | some e => (e - s.tick + (ticksPerSec - 1)) / ticksPerSec

/-- `DEGRADE_LEFT` (R502). -/
def State.degradeLeft (s : State) : Nat :=
  if s.siuState = sDegraded then (s.siu.degAt + 240000 * s.siu.degMin - s.siu.evals + 3999) / 4000 else 0

/-- A signed value as a 32-bit word. -/
def word32 (x : Int) : Nat := (BitVec.ofInt 32 x).toNat

/-- A word with field f at v. -/
def Fd.put (f : Fd) (w v : Nat) : Nat := setBits w f.lo f.wd v

/-- The word that a read of offset o shows: the word held, with the fields that give the present value of other state. (DESIGN CHOICE, log 27; DESIGN CHOICE, log 74.) -/
def State.view (s : State) (o : Nat) : Nat :=
  let w := (s.word o).toNat
  if isReg LOOP_HOLD_HOLD_LEFT o then LOOP_HOLD_HOLD_LEFT.put w (s.tile (LOOP_HOLD_HOLD_LEFT.inst o)).holdLeft
  else if isReg DRV_SPAN_SPAN_WAIT o then
    let tl := s.tile (DRV_SPAN_SPAN_WAIT.inst o)
    DRV_SPAN_SPAN_WAIT.put w (b2n (decide (tl.span = .waiting) && tl.spanMustWait))
  else if isReg TXN_TBANK0_HANDLE o then (s.tile (TXN_TBANK0_HANDLE.inst o)).pend0.word
  else if isReg TXN_TBANK1_HANDLE o then (s.tile (TXN_TBANK1_HANDLE.inst o)).pend1.word
  else if o = TMU_NOW_NS_NS.off then s.now.ns
  else if o = TMU_NOW_FRAC_FRAC.off then s.now.frac
  else if o = TMU_NOW_SEC_LO_SEC_LO.off then s.now.sec % 2 ^ 32
  else if o = TMU_NOW_SEC_HI_SEC_HI.off then s.now.sec / 2 ^ 32
  else if o = TMU_SLEW_LEFT_SLEW_LEFT.off then word32 (Int.tdiv s.slewLeft 65536)
  else if o = TXN_STATUS_N_USED.off then TXN_STATUS_N_USED.put w s.nUsed
  else if o = CAL_ENERGY_ENERGY.off then s.calEnergy
  else if o = CPX_CTRL_MODE.off then CPX_CTRL_CHAIN.put (CPX_CTRL_MODE.put w (s.reg CPX_CTRL_MODE_LIVE)) (s.reg CPX_CTRL_CHAIN_LIVE)
  else if o = CPX_SESS_N_OPEN.off then CPX_SESS_PEAK.put (CPX_SESS_N_OPEN.put w s.nOpen) (max (s.reg CPX_SESS_PEAK) s.nOpen)
  else if o = ADM_POOL_HELD.off then ADM_POOL_PEAK.put (ADM_POOL_HELD.put w s.adm.reqs.length) (max (s.reg ADM_POOL_PEAK) s.adm.reqs.length)
  else if isReg ADM_DCRED_CREDIT o then word32 (Int.fdiv (s.adm.dCred.read 0 (ADM_DCRED_CREDIT.inst o)) 1000000)
  else if o = ADM_ECRED_CREDIT.off then word32 (Int.fdiv s.adm.eCred 256)
  else if o = TWN_STATUS_TWIN_SEEN.off then TWN_STATUS_TWIN_SEEN.put w (b2n s.twinSeen)
  else if o = TWN_TL_STATUS_HI_BER.off then
    match s.twn.berFree with
    | none => w
    | some n =>
      let v := (Config.freeValue n).toNat
      let w := TWN_TL_STATUS_HI_BER.put w (v % 2)
      if s.twn.fec && !s.flag TWN_STATUS_TL_UP then TWN_TL_STATUS_FEC_LOCK.put w (v / 2 % 2) else w
  else if o = TWN_SYNC_KEPT.off then TWN_SYNC_KEPT.put w s.twn.kept.length
  else if o = SIU_STATUS_PRES_LEFT.off then SIU_STATUS_PRES_LEFT.put w s.presLeft
  else if o = SIU_INPUTS_RAW.off then
    SIU_INPUTS_RAW.put (SIU_INPUTS_RST_RAW.put (SIU_INPUTS_EDM_RAW.put w (b2n (bit s.siu.level 11))) (b2n (bit s.siu.level 10))) (s.siu.level % 1024)
  else if o = SIU_DEGRADE_DEGRADE_LEFT.off then SIU_DEGRADE_DEGRADE_LEFT.put w s.degradeLeft
  else if o = FLT_STATUS_N_HELD.off then FLT_STATUS_N_HELD.put w s.nHeld
  else w

/-! ### Latching registers and RC fields (R195, R227, R603) -/

/-- The shadow words that a read of a latching register fills. -/
def latches (o : Nat) : List Nat :=
  if o = TMU_NOW_NS_NS.off ∨ o = TXN_QDT_NS_NS.off ∨ o = TWN_TAKE_NS_NS.off ∨ o = FLT_FF_NS_NS.off ∨ isReg TCAP_NS_NS o then
    [o + 4, o + 8, o + 12]
  else if o = TMU_OFFSET_LO_OFFSET.off ∨ o = TMU_PEND_STEP_LO_PEND_STEP.off ∨ o = TMU_MPD_LO_MPD.off ∨
    o = TMU_SRC_ID_LO_CLOCK_ID.off ∨ isReg HK_RES_LO_CODE o ∨ o = MTX_ERR_LO_ADDR_LO.off ∨ o = GLB_DIE_ID_LO_DIE_LO.off then [o + 4]
  else []

/-- The word at offset o is a shadow. -/
def isShadow (o : Nat) : Bool := (latches (o - 4)).contains o || (latches (o - 8)).contains o || (latches (o - 12)).contains o

/-- The shadow of offset o in the set of a path. -/
def State.shadowWord (s : State) (sup : Bool) (o : Nat) : Nat := (s.shadow.read (resetWord o) (2 * o + b2n sup)).toNat
def State.setShadow (s : State) (sup : Bool) (o v : Nat) : State :=
  { s with shadow := s.shadow.write (resetWord o) (2 * o + b2n sup) (BitVec.ofNat 32 v) }

/-- Fill the shadows of the latching register at offset o. -/
def State.latch (s : State) (sup : Bool) (o : Nat) : State :=
  s.forEach (fun s a => s.setShadow sup a (s.view a)) (latches o)

/-- What an RC field is cleared to: 0, and a largest count since the last read to the count of that instant (R13, R339, R386). (DEDUCED, log 139.) -/
def State.rcBase (s : State) (f : Fd) : Nat :=
  if f = CPX_SESS_PEAK then s.nOpen else if f = ADM_POOL_PEAK then s.adm.reqs.length else 0

/-- A read clears the RC fields of the register at offset o (R13); a read of `CPn_CNT_DROP` lets its port raise its event again (R379). -/
def State.clearRc (s : State) (o : Nat) : State :=
  let w := (fieldsAt o).foldl (fun w f => if f.acc = .rc then f.put w (s.rcBase f) else w) (s.word o).toNat
  let s := s.setWord o (BitVec.ofNat 32 w)
  if isReg CP_CNT_DROP_ING_DROP o then
    { s with cpx := { s.cpx with dropRaised := s.cpx.dropRaised.filter (fun n => decide (n ≠ CP_CNT_DROP_ING_DROP.inst o)) } }
  else s

/-- R227: a read of `TCAPn_NS` and the word it returns: 0 from an empty FIFO, whose shadows stand. (DESIGN CHOICE, log 120.) -/
def State.readTcap (s : State) (sup : Bool) (n : Nat) : State × Nat :=
  match s.tmu.caps.read [] n with
  | [] => (s, 0)
  | c :: r =>
    let d := dtOfUnits c.dt
    let s := { s with tmu := { s.tmu with caps := s.tmu.caps.write [] n r } }
    let s := s.setReg TCAP_CTRL_LEVEL n r.length
    let o := TCAP_NS_NS.offAt n
    let s := ((s.setShadow sup (o + 4) d.frac).setShadow sup (o + 8) (d.sec % 2 ^ 32)).setShadow sup (o + 12) (d.sec / 2 ^ 32)
    (s, TCAP_NS_VALID.put (TCAP_NS_FALL.put d.ns (b2n c.fall)) 1)

/-- A 32-bit read of offset o of BAR0: its side effects and the word it returns. -/
def State.barRead (s : State) (sup : Bool) (o : Nat) : State × Nat :=
  if isHole o then (s.holeAccess sup false o, if sup then 0 else 2 ^ 32 - 1)
  else if o % 4 ≠ 0 ∨ fieldsAt o = [] then (s, 0)
  else if isReg TCAP_NS_NS o then s.readTcap sup (TCAP_NS_NS.inst o)
  else if isShadow o then (s, s.shadowWord sup o)
  else ((s.latch sup o).clearRc o, s.view o)

/-- A 32-bit read of offset o of the kick window (R391, R392). (DEDUCED, log 62.) -/
def State.kickRead (s : State) (o : Nat) : Nat :=
  if o % 4 ≠ 0 then 0
  else if 0x4000 ≤ o ∧ o < 0xC000 then
    let n := (o - 0x4000) / 16
    let k := (o - 0x4000) % 16 / 4
    if k < 3 then (s.hif.msix.read 0 (4 * n + k)).toNat else b2n (!decide (n ∈ s.hif.unmasked))
  else if 0xC000 ≤ o ∧ o < 0xC100 then
    ((List.range 32).map (fun k => if 8 * (o - 0xC000) + k ∈ s.hif.pba then 2 ^ k else 0)).sum
  else 0

/-- A read of a path, with the value that goes to the reader. (DEDUCED, log 76.) -/
def State.readReg (s : State) (p : Window) (o : Nat) : State :=
  match p with
  | .kick => s.send (.value o (s.kickRead o))
  | .config => s.send (.value o (s.configRead o))
  | .host => (s.barRead false o).1.send (.value o (s.barRead false o).2)
  | .supervisor => (s.barRead true o).1.send (.value o (s.barRead true o).2)

/-! ### The rows -/

/-- R227. -/
def execTcapRead (p : Window) (n : Nat) (s : State) : Host.Outcome State Fault Refusal :=
  .next (if s.onPath p && decide (p = .host ∨ p = .supervisor) && decide (n < 4) then s.readReg p (TCAP_NS_NS.offAt n) else s)

/-- R195. (DESIGN CHOICE, log 77.) -/
def execLatchingRegisterRead (p : Window) (o : Nat) (s : State) : Host.Outcome State Fault Refusal :=
  .next (if s.onPath p && decide (p = .host ∨ p = .supervisor) && !(latches o).isEmpty && !isReg TCAP_NS_NS o then s.readReg p o else s)

/-- R13 to R15, R600, R603: a 32-bit write through a window, served whole before the next command. (DESIGN CHOICE, log 151.) -/
def execRegisterWrite (p : Window) (o v : Nat) (s : State) : Host.Outcome State Fault Refusal :=
  .next (if !s.onPath p then s
  else match p with
    | .kick => s.kickWrite o (v % 2 ^ 32)
    | .config => s.configWrite o (v % 2 ^ 32)
    | .host => s.barWrite false o (v % 2 ^ 32)
    | .supervisor => s.barWrite true o (v % 2 ^ 32))

/-- R13, R600, R603: a 32-bit read through a window, served whole before the next command. (DESIGN CHOICE, log 77; DESIGN CHOICE, log 151.) -/
def execRcRegisterRead (p : Window) (o : Nat) (s : State) : Host.Outcome State Fault Refusal :=
  .next (if s.onPath p then s.readReg p o else s)

/-- R602: an access of host software to BAR0 of `size` bytes at offset o. (DEDUCED, log 62.) -/
def State.bar0Access (s : State) (write : Bool) (o size v : Nat) : State :=
  if o % size ≠ 0 then
    let s := s.badWrite o
    if write then s else s.send (.value o (2 ^ (8 * size) - 1))
  else if write then
    if size < 4 then s.badWrite o
    else if size = 4 then s.barWrite false o (v % 2 ^ 32)
    else (s.barWrite false o (v % 2 ^ 32)).barWrite false (o + 4) (v / 2 ^ 32 % 2 ^ 32)
  else if size = 8 then
    let a := s.barRead false o
    let b := a.1.barRead false (o + 4)
    b.1.send (.value o (a.2 + 2 ^ 32 * b.2))
  else
    let a := s.barRead false (o / 4 * 4)
    a.1.send (.value o (a.2 / 2 ^ (8 * (o % 4)) % 2 ^ (8 * size)))

/-- R602. -/
def execBar0IllegalAccess (write : Bool) (o size v : Nat) (s : State) : Host.Outcome State Fault Refusal :=
  .next (if s.windowOpen && [1, 2, 4, 8].contains size && decide (o < 0x1000000) then s.bar0Access write o size v else s)

end Sys2Proof.Machine
end

