-- ==== Sys2Proof/Machine/Dispatch.lean ====
section
/-! DEFINITION. The command's effect: one arm per row of the opcode table. -/

namespace Sys2Proof.Machine

/-- The effect of a command on everything but the queue. (DESIGN CHOICE, log 2; DESIGN CHOICE, log 82.) -/
def exec (i : Instr) (s : State) : Host.Outcome State Fault Refusal :=
  match i with
  | .porstAssert => Sys2Proof.Machine.execPorstAssert s
  | .resetNAssert => Sys2Proof.Machine.execResetNAssert s
  | .porstRelease => Sys2Proof.Machine.execPorstRelease s
  | .resetNRelease => Sys2Proof.Machine.execResetNRelease s
  | .safetyIslandReset => Sys2Proof.Machine.execSafetyIslandReset s
  | .safetySupplyLoss => Sys2Proof.Machine.execSafetySupplyLoss s
  | .rstHeldTimeout => Sys2Proof.Machine.execRstHeldTimeout s
  | .parkOwnxSample => Sys2Proof.Machine.execParkOwnxSample s
  | .parkBurstStart => Sys2Proof.Machine.execParkBurstStart s
  | .parkBurstEnd => Sys2Proof.Machine.execParkBurstEnd s
  | .parkRepeat => Sys2Proof.Machine.execParkRepeat s
  | .porDone => Sys2Proof.Machine.execPorDone s
  | .bootDone => Sys2Proof.Machine.execBootDone s
  | .configRowDone => Sys2Proof.Machine.execConfigRowDone s
  | .joinWaitEnd => Sys2Proof.Machine.execJoinWaitEnd s
  | .internalBlockResetTimeout => Sys2Proof.Machine.execInternalBlockResetTimeout s
  | .treeClockLoss => Sys2Proof.Machine.execTreeClockLoss s
  | .treeLossOwnRelease => Sys2Proof.Machine.execTreeLossOwnRelease s
  | .frameMarker => Sys2Proof.Machine.execFrameMarker s
  | .slotStart slot bad => Sys2Proof.Machine.execSlotStart slot bad s
  | .columnCurrentLimit t c ends => Sys2Proof.Machine.execColumnCurrentLimit t c ends s
  | .frfBiasLimit t ends => Sys2Proof.Machine.execFrfBiasLimit t ends s
  | .sampleRecord t slot line c1 c2 sat1 sat2 => Sys2Proof.Machine.execSampleRecord t slot line c1 c2 sat1 sat2 s
  | .rangeFiner t e x => Sys2Proof.Machine.execRangeFiner t e x s
  | .senseFaultRun t e x => Sys2Proof.Machine.execSenseFaultRun t e x s
  | .loopRowUpdate t r => Sys2Proof.Machine.execLoopRowUpdate t r s
  | .loopFreeze t e => Sys2Proof.Machine.execLoopFreeze t e s
  | .reacqEnd t e => Sys2Proof.Machine.execReacqEnd t e s
  | .divergenceEpisode t e => Sys2Proof.Machine.execDivergenceEpisode t e s
  | .divergenceWindowEnd => Sys2Proof.Machine.execDivergenceWindowEnd s
  | .holdMaxExpiry t e => Sys2Proof.Machine.execHoldMaxExpiry t e s
  | .driftFlag t e => Sys2Proof.Machine.execDriftFlag t e s
  | .epochEnd => Sys2Proof.Machine.execEpochEnd s
  | .scarabStep t pairs sum => Sys2Proof.Machine.execScarabStep t pairs sum s
  | .scarabCalDone t ok => Sys2Proof.Machine.execScarabCalDone t ok s
  | .scarabOverlapStart t => Sys2Proof.Machine.execScarabOverlapStart t s
  | .senseStartupCalDone t slices lines opens => Sys2Proof.Machine.execSenseStartupCalDone t slices lines opens s
  | .lineCheck t => Sys2Proof.Machine.execLineCheck t s
  | .lineCheckDone t opens => Sys2Proof.Machine.execLineCheckDone t opens s
  | .ownxChange d level => Sys2Proof.Machine.execOwnxChange d level s
  | .ownershipConflict d => Sys2Proof.Machine.execOwnershipConflict d s
  | .descriptorBlockDone block ok => Sys2Proof.Machine.execDescriptorBlockDone block ok s
  | .fdiBusClear => Sys2Proof.Machine.execFdiBusClear s
  | .descReread => Sys2Proof.Machine.execDescReread s
  | .spanChange t v => Sys2Proof.Machine.execSpanChange t v s
  | .parkDwellEnd t => Sys2Proof.Machine.execParkDwellEnd t s
  | .steepDwellEnd t => Sys2Proof.Machine.execSteepDwellEnd t s
  | .burstsEnd t => Sys2Proof.Machine.execBurstsEnd t s
  | .fabricClrAssert => Sys2Proof.Machine.execFabricClrAssert s
  | .clearBurstEnd t => Sys2Proof.Machine.execClearBurstEnd t s
  | .fabricClrRelease => Sys2Proof.Machine.execFabricClrRelease s
  | .announceReceived m data steps ts => Sys2Proof.Machine.execAnnounceReceived m data steps ts s
  | .syncReceived m t1 twoStep => Sys2Proof.Machine.execSyncReceived m t1 twoStep s
  | .followUpReceived m t1 => Sys2Proof.Machine.execFollowUpReceived m t1 s
  | .delayReqSend t3 => Sys2Proof.Machine.execDelayReqSend t3 s
  | .delayRespReceived m t4 => Sys2Proof.Machine.execDelayRespReceived m t4 s
  | .pdelayReqSend p t1 => Sys2Proof.Machine.execPdelayReqSend p t1 s
  | .pdelayReqReceived m t3 => Sys2Proof.Machine.execPdelayReqReceived m t3 s
  | .pdelayRespReceived m turn => Sys2Proof.Machine.execPdelayRespReceived m turn s
  | .sourceLost => Sys2Proof.Machine.execSourceLost s
  | .tmuCtrlWrite v => Sys2Proof.Machine.execTmuCtrlWrite v s
  | .timeStepAccept c => Sys2Proof.Machine.execTimeStepAccept c s
  | .timeStepExplicit c => Sys2Proof.Machine.execTimeStepExplicit c s
  | .stepPlacementFixed => Sys2Proof.Machine.execStepPlacementFixed s
  | .timeStepAbort => Sys2Proof.Machine.execTimeStepAbort s
  | .slewEnd => Sys2Proof.Machine.execSlewEnd s
  | .treeCalDone delays => Sys2Proof.Machine.execTreeCalDone delays s
  | .treeRemeasure errs => Sys2Proof.Machine.execTreeRemeasure errs s
  | .returnCalDone d delays => Sys2Proof.Machine.execReturnCalDone d delays s
  | .toutArm n => Sys2Proof.Machine.execToutArm n s
  | .toutStop n => Sys2Proof.Machine.execToutStop n s
  | .toutEdge n => Sys2Proof.Machine.execToutEdge n s
  | .tcapEdge n u fall => Sys2Proof.Machine.execTcapEdge n u fall s
  | .tcapRead p n => Sys2Proof.Machine.execTcapRead p n s
  | .latchingRegisterRead p o => Sys2Proof.Machine.execLatchingRegisterRead p o s
  | .tcEgressTimeout p => Sys2Proof.Machine.execTcEgressTimeout p s
  | .objectLoad c => Sys2Proof.Machine.execObjectLoad c s
  | .objectLoadResume n => Sys2Proof.Machine.execObjectLoadResume n s
  | .objectLoadDone n same => Sys2Proof.Machine.execObjectLoadDone n same s
  | .txnStage c => Sys2Proof.Machine.execTxnStage c s
  | .stageCopyDone k => Sys2Proof.Machine.execStageCopyDone k s
  | .txnArm c => Sys2Proof.Machine.execTxnArm c s
  | .txnAbort c => Sys2Proof.Machine.execTxnAbort c s
  | .armedReport t k => Sys2Proof.Machine.execArmedReport t k s
  | .armDeadline k => Sys2Proof.Machine.execArmDeadline k s
  | .commitTick h => Sys2Proof.Machine.execCommit h s
  | .quenchDemand => Sys2Proof.Machine.execQuenchDemand s
  | .quenchTick => Sys2Proof.Machine.execQuenchTick s
  | .verifyWindowClose t h => Sys2Proof.Machine.execVerifyWindowClose t h s
  | .verifyOutcome t h => Sys2Proof.Machine.execVerifyOutcome t h s
  | .tableWrite c => Sys2Proof.Machine.execTableWrite c s
  | .tableCommit c => Sys2Proof.Machine.execTableCommit c s
  | .calendarStart c => Sys2Proof.Machine.execStart c s
  | .stopBoundary c => Sys2Proof.Machine.execStopBoundary c s
  | .stopNow c => Sys2Proof.Machine.execStopNow c s
  | .calendarSwap c => Sys2Proof.Machine.execSwap c s
  | .calIssuePoint n => Sys2Proof.Machine.execCalIssuePoint n s
  | .calCycleBoundary n => Sys2Proof.Machine.execCalCycleBoundary n s
  | .admissionTick => Sys2Proof.Machine.execAdmissionTick s
  | .refill => Sys2Proof.Machine.execRefill s
  | .requestExpiry => Sys2Proof.Machine.execRequestExpiry s
  | .queueSample => Sys2Proof.Machine.execQueueSample s
  | .histSwap => Sys2Proof.Machine.execHistSwap s
  | .linkUp n => Sys2Proof.Machine.execLinkUp n s
  | .linkDown n lock ber fec => Sys2Proof.Machine.execLinkDown n lock ber fec s
  | .frameReceived f => Sys2Proof.Machine.execFrameReceived f s
  | .reorderTimeout n => Sys2Proof.Machine.execReorderTimeout n s
  | .versionDrain => Sys2Proof.Machine.execVersionDrain s
  | .arpRequest n b => Sys2Proof.Machine.execArpRequest n b s
  | .neighbourSolicitation n b => Sys2Proof.Machine.execNeighbourSolicitation n b s
  | .planSelect r => Sys2Proof.Machine.execPlanSelect r s
  | .editApply r => Sys2Proof.Machine.execEditApply r s
  | .circuit r => Sys2Proof.Machine.execCircuit r s
  | .query r => Sys2Proof.Machine.execQuery r s
  | .sessionOpen r => Sys2Proof.Machine.execSessionOpen r s
  | .sessionClose r => Sys2Proof.Machine.execSessionClose r s
  | .heartbeat r => Sys2Proof.Machine.execHeartbeat r s
  | .sessionIdleExpiry k => Sys2Proof.Machine.execSessionIdleExpiry k s
  | .quarantineEnd k => Sys2Proof.Machine.execQuarantineEnd k s
  | .functionLevelReset => Sys2Proof.Machine.execFunctionLevelReset s
  | .hotReset => Sys2Proof.Machine.execHotReset s
  | .pcieLinkLoss => Sys2Proof.Machine.execPcieLinkLoss s
  | .pciePerst => Sys2Proof.Machine.execPciePerst s
  | .busMasterEnable on => Sys2Proof.Machine.execBusMasterEnable on s
  | .hostInterfaceEnable v => Sys2Proof.Machine.execHostInterfaceEnable v s
  | .adminRingEnable v => Sys2Proof.Machine.execAdminRingEnable v s
  | .eventRingEnable v => Sys2Proof.Machine.execEventRingEnable v s
  | .kickGroup g => Sys2Proof.Machine.execKickGroup g s
  | .kickEvtCi k => Sys2Proof.Machine.execKickEvtCi k s
  | .badKick => Sys2Proof.Machine.execBadKick s
  | .doorbellLineDone g entries ok => Sys2Proof.Machine.execDoorbellLineDone g entries ok s
  | .doorbellPoll => Sys2Proof.Machine.execDoorbellPoll s
  | .descriptorFetch => Sys2Proof.Machine.execDescriptorFetch s
  | .descriptorReturned c ok => Sys2Proof.Machine.execDescriptorReturned c ok s
  | .coalesceTimer ring => Sys2Proof.Machine.execCoalesceTimer ring s
  | .calLoad c => Sys2Proof.Machine.execCalLoad c s
  | .calSwap c => Sys2Proof.Machine.execCalSwap c s
  | .calStart c => Sys2Proof.Machine.execCalStart c s
  | .calPointEnd t => Sys2Proof.Machine.execCalPointEnd t s
  | .sessionOpOpen c => Sys2Proof.Machine.execSessionOpOpen c s
  | .sessionOpClose c => Sys2Proof.Machine.execSessionOpClose c s
  | .sessionOpSetClass c => Sys2Proof.Machine.execSessionOpSetClass c s
  | .sessionOpAnswer c => Sys2Proof.Machine.execSessionOpAnswer c s
  | .telemetryRead c => Sys2Proof.Machine.execTelemetryRead c s
  | .hkInject c => Sys2Proof.Machine.execHkInject c s
  | .faultClear c => Sys2Proof.Machine.execFaultClear c s
  | .twinOpSwitchover c => Sys2Proof.Machine.execTwinOpSwitchover c s
  | .switchoverTimeout => Sys2Proof.Machine.execSwitchoverTimeout s
  | .twinOpResign c => Sys2Proof.Machine.execTwinOpResign c s
  | .twinOpRejoin c => Sys2Proof.Machine.execTwinOpRejoin c s
  | .heartbeatSend => Sys2Proof.Machine.execHeartbeatSend s
  | .tlHeartbeat m => Sys2Proof.Machine.execTlHeartbeat m s
  | .resign m => Sys2Proof.Machine.execResign m s
  | .txnNote m => Sys2Proof.Machine.execTxnNote m s
  | .tlCommand m => Sys2Proof.Machine.execTlCommand m s
  | .message m => Sys2Proof.Machine.execMessage m s
  | .snapshot m => Sys2Proof.Machine.execSnapshot m s
  | .snapshotSend => Sys2Proof.Machine.execSnapshotSend s
  | .syncData m => Sys2Proof.Machine.execSyncData m s
  | .syncEnd m img => Sys2Proof.Machine.execSyncEnd m img s
  | .tlLinkDown => Sys2Proof.Machine.execTlLinkDown s
  | .heartbeatLost => Sys2Proof.Machine.execHeartbeatLost s
  | .takeover d => Sys2Proof.Machine.execTakeover d s
  | .siuEvaluation e => Sys2Proof.Machine.execSiuEvaluation e s
  | .siuSelfTestDone pass => Sys2Proof.Machine.execSiuSelfTestDone pass s
  | .outputTest x => Sys2Proof.Machine.execOutputTest x s
  | .outputTestEnd fell => Sys2Proof.Machine.execOutputTestEnd fell s
  | .startSelfTestDone passA passB => Sys2Proof.Machine.execStartSelfTestDone passA passB s
  | .degradeExpiry => Sys2Proof.Machine.execDegradeExpiry s
  | .edmCheck => Sys2Proof.Machine.execEdmCheck s
  | .safeRstRelease => Sys2Proof.Machine.execSafeRstRelease s
  | .safeRstStuck => Sys2Proof.Machine.execSafeRstStuck s
  | .resetReq => Sys2Proof.Machine.execResetReq s
  | .cfgCommit => Sys2Proof.Machine.execCfgCommit s
  | .cfgCrcCheck => Sys2Proof.Machine.execCfgCrcCheck s
  | .presencePress => Sys2Proof.Machine.execPresencePress s
  | .presenceWindowExpiry => Sys2Proof.Machine.execPresenceWindowExpiry s
  | .presClose => Sys2Proof.Machine.execPresClose s
  | .presenceStuck => Sys2Proof.Machine.execPresenceStuck s
  | .kilnReading vf => Sys2Proof.Machine.execKilnReading vf s
  | .shutdownRelease => Sys2Proof.Machine.execShutdownRelease s
  | .hkConversionDone c q => Sys2Proof.Machine.execHkConversionDone c q s
  | .hkCalRequest v => Sys2Proof.Machine.execHkCalRequest v s
  | .hkCalAuto => Sys2Proof.Machine.execHkCalAuto s
  | .vhvExcursion mv => Sys2Proof.Machine.execVhvExcursion mv s
  | .vhvRecovered mv => Sys2Proof.Machine.execVhvRecovered mv s
  | .eventRecord => Sys2Proof.Machine.execEventRecord s
  | .faultInject v => Sys2Proof.Machine.execFaultInject v s
  | .softwareTrigger v => Sys2Proof.Machine.execSoftwareTrigger v s
  | .historySnap => Sys2Proof.Machine.execHistorySnap s
  | .watchdogFire t => Sys2Proof.Machine.execWatchdogFire t s
  | .sealCask => Sys2Proof.Machine.execSeal s
  | .sealStepDone same => Sys2Proof.Machine.execSealStepDone same s
  | .svnCommit => Sys2Proof.Machine.execSvnCommit s
  | .keyRevoke mask => Sys2Proof.Machine.execKeyRevoke mask s
  | .fence d => Sys2Proof.Machine.execFence d s
  | .update d => Sys2Proof.Machine.execUpdate d s
  | .reload d => Sys2Proof.Machine.execReload d s
  | .loadingStart d => Sys2Proof.Machine.execLoadingStart d s
  | .loadDone d ok => Sys2Proof.Machine.execLoadDone d ok s
  | .returnService d => Sys2Proof.Machine.execReturn d s
  | .remap => Sys2Proof.Machine.execRemap s
  | .scrub found => Sys2Proof.Machine.execScrub found s
  | .masterReset r => Sys2Proof.Machine.execMasterReset r s
  | .retirementDone k => Sys2Proof.Machine.execRetirementDone k s
  | .registerWrite p o v => Sys2Proof.Machine.execRegisterWrite p o v s
  | .rcRegisterRead p o => Sys2Proof.Machine.execRcRegisterRead p o s
  | .bar0IllegalAccess write o size v => Sys2Proof.Machine.execBar0IllegalAccess write o size v s
  | .tapReset => Sys2Proof.Machine.execTapReset s
  | .extest => Sys2Proof.Machine.execExtest s
  | .samplePreload cells => Sys2Proof.Machine.execSamplePreload cells s
  | .idcode => Sys2Proof.Machine.execIdcode s
  | .highz => Sys2Proof.Machine.execHighz s
  | .clamp => Sys2Proof.Machine.execClamp s
  | .extestPulse => Sys2Proof.Machine.execExtestPulse s
  | .extestTrain => Sys2Proof.Machine.execExtestTrain s
  | .mbistRun => Sys2Proof.Machine.execMbistRun s
  | .mbistDone failed => Sys2Proof.Machine.execMbistDone failed s
  | .dieId => Sys2Proof.Machine.execDieId s
  | .bypass code => Sys2Proof.Machine.execBypass code s
  | .siuChannelSample raw => Sys2Proof.Machine.execSiuChannelSample raw s
  | .presenceStuckEnd => Sys2Proof.Machine.execPresenceStuckEnd s
  | .twinLinkUp => Sys2Proof.Machine.execTwinLinkUp s
  | .pcieLinkUp => Sys2Proof.Machine.execPcieLinkUp s
  | .timeBasePllUnlock => Sys2Proof.Machine.execTimeBasePllUnlock s
  | .timeBasePllRelock => Sys2Proof.Machine.execTimeBasePllRelock s
  | .supervisorLockstepMismatch => Sys2Proof.Machine.execSupervisorLockstepMismatch s
  | .tlFrameRejected => Sys2Proof.Machine.execTlFrameRejected s
  | .syncSend data last => Sys2Proof.Machine.execSyncSend data last s
  | .msixVectorUnmask v => Sys2Proof.Machine.execMsixVectorUnmask v s

end Sys2Proof.Machine
end

