-- ==== Sys2Proof/WellFormed.lean ====
section
/-! DEFINITION. Which commands the device can be given: every operand inside the range the spec gives it. -/

namespace Sys2Proof

open Machine

/-- A host command (R398, R408): a ring pair of the 65,536 and a descriptor of 64 bytes. -/
def Machine.HostCmd.wellFormed (c : HostCmd) : Bool := decide (c.ring < 65536) && decide (c.desc.length = 64) && !c.orphan

/-- A PTP message (R199): one of the two control ports, an 8-bit domain and a 16-bit sequence. -/
def Machine.PtpMsg.wellFormed (m : PtpMsg) : Bool := decide (m.port < 2) && decide (m.domain < 256) && decide (m.seq < 65536) && decide (m.transport < 3)

/-- A GCRP request (R362, R370): one of the two control ports. -/
def Machine.GcrpReq.wellFormed (r : GcrpReq) : Bool := decide (r.port < 2)

/-- A burst on the fast matrix (R591, R592, R597): a master of the seven, one of its 16 IDs and a 40-bit address. -/
def Machine.MtxReq.wellFormed (r : MtxReq) : Bool :=
  decide (r.master < 7) && decide (r.id < 16) && decide (r.addr < 2 ^ 40) && decide (r.delivered.getD 0 ≤ r.beats.length)

/-- Every operand lies in its range. -/
def Instr.wellFormed : Instr → Bool
  | .porstAssert => true
  | .resetNAssert => true
  | .porstRelease => true
  | .resetNRelease => true
  | .safetyIslandReset => true
  | .safetySupplyLoss => true
  | .rstHeldTimeout => true
  | .parkOwnxSample => true
  | .parkBurstStart => true
  | .parkBurstEnd => true
  | .parkRepeat => true
  | .porDone => true
  | .bootDone => true
  | .configRowDone => true
  | .joinWaitEnd => true
  | .internalBlockResetTimeout => true
  | .treeClockLoss => true
  | .treeLossOwnRelease => true
  | .frameMarker => true
  | .slotStart slot bad => decide (slot < 32) && bad.all (fun p => decide (p.1 < 96 ∧ p.2 < 8))
  | .columnCurrentLimit t c _ => decide (t < 96) && decide (c < 8)
  | .frfBiasLimit t _ => decide (t < 96)
  | .sampleRecord t slot line c1 c2 _ _ => decide (t < 96) && decide (slot < 32) && decide (line < 8) && decide (c1 < 16384) && decide (c2 < 16384)
  | .rangeFiner t e x => decide (t < 96) && decide (e < 128) && decide (x < 2)
  | .senseFaultRun t e x => decide (t < 96) && decide (e < 128) && decide (x < 2)
  | .loopRowUpdate t r => decide (t < 96) && decide (r < 16)
  | .loopFreeze t e => decide (t < 96) && decide (e < 128)
  | .reacqEnd t e => decide (t < 96) && decide (e < 128)
  | .divergenceEpisode t e => decide (t < 96) && decide (e < 128)
  | .divergenceWindowEnd => true
  | .holdMaxExpiry t e => decide (t < 96) && decide (e < 128)
  | .driftFlag t e => decide (t < 96) && decide (e < 128)
  | .epochEnd => true
  | .scarabStep t _ _ => decide (t < 96)
  | .scarabCalDone t _ => decide (t < 96)
  | .scarabOverlapStart t => decide (t < 96)
  | .senseStartupCalDone t slices lines opens => decide (t < 96) && decide (slices < 512) && decide (lines < 256) && decide (opens < 256)
  | .lineCheck t => decide (t < 96)
  | .lineCheckDone t opens => decide (t < 96) && decide (opens < 256)
  | .ownxChange d _ => decide (d < 8)
  | .ownershipConflict d => decide (d < 8)
  | .descriptorBlockDone block _ => decide (block.length ≤ 256)
  | .fdiBusClear => true
  | .descReread => true
  | .spanChange t v => decide (t < 96) && decide (v < 2 ^ 32)
  | .parkDwellEnd t => decide (t < 96)
  | .steepDwellEnd t => decide (t < 96)
  | .burstsEnd t => decide (t < 96)
  | .fabricClrAssert => true
  | .clearBurstEnd t => decide (t < 96)
  | .fabricClrRelease => true
  | .announceReceived m _ steps _ => m.wellFormed && decide (steps < 65536)
  | .syncReceived m _ _ => m.wellFormed
  | .followUpReceived m _ => m.wellFormed
  | .delayReqSend _ => true
  | .delayRespReceived m _ => m.wellFormed
  | .pdelayReqSend p _ => decide (p < 2)
  | .pdelayReqReceived m _ => m.wellFormed
  | .pdelayRespReceived m _ => m.wellFormed
  | .sourceLost => true
  | .tmuCtrlWrite v => decide (v < 2 ^ 32)
  | .timeStepAccept c => c.wellFormed
  | .timeStepExplicit c => c.wellFormed
  | .stepPlacementFixed => true
  | .timeStepAbort => true
  | .slewEnd => true
  | .treeCalDone delays => decide (delays.length = 96)
  | .treeRemeasure errs => decide (errs.length = 96)
  | .returnCalDone d delays => decide (d < 8) && decide (delays.length = 12)
  | .toutArm n => decide (n < 4)
  | .toutStop n => decide (n < 4)
  | .toutEdge n => decide (n < 4)
  | .tcapEdge n _ _ => decide (n < 4)
  | .tcapRead p n => decide (p ≠ .kick) && decide (n < 4)
  | .latchingRegisterRead p o => decide (p ≠ .kick) && decide (o % 4 = 0) && decide (o < 0x1000000)
  | .tcEgressTimeout p => decide (p < 2)
  | .objectLoad c => c.wellFormed
  | .objectLoadResume _ => true
  | .objectLoadDone _ _ => true
  | .txnStage c => c.wellFormed
  | .stageCopyDone i => decide (i < 63)
  | .txnArm c => c.wellFormed
  | .txnAbort c => c.wellFormed
  | .armedReport t k => decide (t < 96) && decide (k < 2)
  | .armDeadline i => decide (i < 63)
  | .commitTick h => decide (h < 65536)
  | .quenchDemand => true
  | .quenchTick => true
  | .verifyWindowClose t h => decide (t < 96) && decide (h < 65536)
  | .verifyOutcome t h => decide (t < 96) && decide (h < 65536)
  | .tableWrite c => c.wellFormed
  | .tableCommit c => c.wellFormed
  | .calendarStart c => c.wellFormed
  | .stopBoundary c => c.wellFormed
  | .stopNow c => c.wellFormed
  | .calendarSwap c => c.wellFormed
  | .calIssuePoint n => decide (n < 16)
  | .calCycleBoundary n => decide (n < 16)
  | .admissionTick => true
  | .refill => true
  | .requestExpiry => true
  | .queueSample => true
  | .histSwap => true
  | .linkUp n => decide (n < 2)
  | .linkDown n _ _ _ => decide (n < 2)
  | .frameReceived f => decide (f.port < 2)
  | .reorderTimeout n => decide (n < 2)
  | .versionDrain => true
  | .arpRequest n _ => decide (n < 2)
  | .neighbourSolicitation n _ => decide (n < 2)
  | .planSelect r => r.wellFormed
  | .editApply r => r.wellFormed
  | .circuit r => r.wellFormed
  | .query r => r.wellFormed
  | .sessionOpen r => r.wellFormed
  | .sessionClose r => r.wellFormed
  | .heartbeat r => r.wellFormed
  | .sessionIdleExpiry i => decide (i < 16384)
  | .quarantineEnd i => decide (i < 16384)
  | .functionLevelReset => true
  | .hotReset => true
  | .pcieLinkLoss => true
  | .pciePerst => true
  | .busMasterEnable _ => true
  | .hostInterfaceEnable v => decide (v < 2 ^ 32)
  | .adminRingEnable v => decide (v < 2 ^ 32)
  | .eventRingEnable v => decide (v < 2 ^ 32)
  | .kickGroup g => decide (g < 1024)
  | .kickEvtCi k => decide (k.ci < 65536)
  | .badKick => true
  | .doorbellLineDone g entries _ => decide (g < 1024) && decide (entries.length = 64) && entries.all (fun e => decide (e < 2 ^ 32))
  | .doorbellPoll => true
  | .descriptorFetch => true
  | .descriptorReturned c _ => c.wellFormed
  | .coalesceTimer ring => ring.all (fun r => decide (r < 65536))
  | .calLoad c => c.wellFormed
  | .calSwap c => c.wellFormed
  | .calStart c => c.wellFormed
  | .calPointEnd t => decide (t < 96)
  | .sessionOpOpen c => c.wellFormed
  | .sessionOpClose c => c.wellFormed
  | .sessionOpSetClass c => c.wellFormed
  | .sessionOpAnswer c => c.wellFormed
  | .telemetryRead c => c.wellFormed
  | .hkInject c => c.wellFormed
  | .faultClear c => c.wellFormed
  | .twinOpSwitchover c => c.wellFormed
  | .switchoverTimeout => true
  | .twinOpResign c => c.wellFormed
  | .twinOpRejoin c => c.wellFormed
  | .heartbeatSend => true
  | .tlHeartbeat _ => true
  | .resign _ => true
  | .txnNote _ => true
  | .tlCommand _ => true
  | .message _ => true
  | .snapshot _ => true
  | .snapshotSend => true
  | .syncData _ => true
  | .syncEnd _ _ => true
  | .tlLinkDown => true
  | .heartbeatLost => true
  | .takeover d => decide (d < 8)
  | .siuEvaluation _ => true
  | .siuSelfTestDone _ => true
  | .outputTest x => decide (x < 2)
  | .outputTestEnd _ => true
  | .startSelfTestDone _ _ => true
  | .degradeExpiry => true
  | .edmCheck => true
  | .safeRstRelease => true
  | .safeRstStuck => true
  | .resetReq => true
  | .cfgCommit => true
  | .cfgCrcCheck => true
  | .presencePress => true
  | .presenceWindowExpiry => true
  | .presClose => true
  | .presenceStuck => true
  | .kilnReading vf => decide (vf.length = 24)
  | .shutdownRelease => true
  | .hkConversionDone c _ => decide (c < 4)
  | .hkCalRequest v => decide (v < 2 ^ 32)
  | .hkCalAuto => true
  | .vhvExcursion _ => true
  | .vhvRecovered _ => true
  | .eventRecord => true
  | .faultInject v => decide (v < 2 ^ 32)
  | .softwareTrigger v => decide (v < 2 ^ 32)
  | .historySnap => true
  | .watchdogFire t => decide (t < 96)
  | .sealCask => true
  | .sealStepDone _ => true
  | .svnCommit => true
  | .keyRevoke mask => decide (mask < 16)
  | .fence d => decide (d < 8)
  | .update d => decide (d < 8)
  | .reload d => decide (d < 8)
  | .loadingStart d => decide (d < 8)
  | .loadDone d _ => decide (d < 8)
  | .returnService d => decide (d < 8)
  | .remap => true
  | .scrub found => found.all (fun p => decide (p.1 < 2 ^ 40))
  | .masterReset r => decide (r.master < 7) && r.held.all MtxReq.wellFormed
  | .retirementDone k => decide (k < 7)
  | .registerWrite _ o v => decide (o % 4 = 0) && decide (o < 0x1000000) && decide (v < 2 ^ 32)
  | .rcRegisterRead _ o => decide (o % 4 = 0) && decide (o < 0x1000000)
  | .bar0IllegalAccess _ o size v => [1, 2, 4, 8].contains size && decide (o < 0x1000000) && decide (v < 2 ^ (8 * size))
  | .tapReset => true
  | .extest => true
  | .samplePreload cells => decide (cells < 2 ^ 2025)
  | .idcode => true
  | .highz => true
  | .clamp => true
  | .extestPulse => true
  | .extestTrain => true
  | .mbistRun => true
  | .mbistDone failed => decide (failed < 2 ^ 13)
  | .dieId => true
  | .bypass code => decide (code < 256)
  | .siuChannelSample raw => decide (raw < 2 ^ 12)
  | .presenceStuckEnd => true
  | .twinLinkUp => true
  | .pcieLinkUp => true
  | .timeBasePllUnlock => true
  | .timeBasePllRelock => true
  | .supervisorLockstepMismatch => true
  | .tlFrameRejected => true
  | .syncSend _ _ => true
  | .msixVectorUnmask v => v.all (fun n => decide (n < 2048))

end Sys2Proof
end

