-- ==== Sys2Proof/Safety.lean ====
section
/-! DEFINITION. What the manual promises of every step, in the terms that claims use: the bounds of the stores whose size it gives. -/

namespace Sys2Proof.Machine

/-- The bounds of the stores whose capacity the manual gives: 32 entries in the history queue (R544), 16 entries in each capture FIFO
(R226), 2,025 boundary cells and an 8-bit TAP instruction (R622, R623). -/
def State.bounded (s : State) : Prop :=
  s.flt.hist.length ≤ 32 ∧ (∀ p ∈ s.tmu.caps, p.2.length ≤ 16) ∧ s.tap.cells < 2 ^ 2025 ∧ s.tap.ir < 256

/-- A host command of kind k starts now: host software has access, `ORDER` and no sync holds it, its header is well formed and its
buffer read succeeds (R406 to R408, R445). It runs as `s.asFetched c`, on `s.startCmd (s.asFetched c)`. -/
def State.hostReady (s : State) (c : HostCmd) (k : Nat) : Bool :=
  let c := s.asFetched c
  s.windowOpen && decide (c.kind = k) && s.mayStart c && !(s.startCmd c).holdsCmd c && c.headerOk && c.readOk

end Sys2Proof.Machine
end

