-- ==== Sys2Proof/Certificates/Slice0/Obligations.lean ====
section
/-! DEFINITION. The statements for the provers. -/

open Sys2Proof Sys2Proof.Machine Sys2Proof.Machine.Reg

/-- For every command c and state s: when c stands at the front of the queue, a step of s is exec of c on s with the queue's rest. The
model's own rule (assumption log 3) for an empty queue: with the first marker passed and PORST_N and RESET_N released, DT and the tick
count rise by one and each control port, then TL, sends the queued frames whose transmission begins by then (log 122), and nothing else
happens; otherwise nothing changes. -/
def Obligations.StepRunsFrontCommandOrPassesOneTick : Prop :=
  (∀ (c : Instr) (rest : List Instr) (s : State), s.pending = c :: rest → step s = exec c { s with pending := rest }) ∧
  (∀ s : State, s.pending = [] →
    (s.started = true ∧ s.pins.porstN = true ∧ s.pins.resetN = true → step s = .next (((s.advance 1).egress 0).egress 1).tlGo) ∧
    (¬ (s.started = true ∧ s.pins.porstN = true ∧ s.pins.resetN = true) → step s = .next s))

/-- Every command of the table, whatever its operands, takes the device from every state to a next state: the manual answers what it
does not allow with a status, an event or no effect. -/
def Obligations.EveryCommandAnswersNext : Prop :=
  ∀ (c : Instr) (s : State), ∃ t, exec c s = .next t

/-- The queue belongs to whoever sends commands: whatever a command does to the device, the commands that wait behind it stay as they
are and in their order. -/
def Obligations.CommandsKeepTheQueue : Prop :=
  ∀ (c : Instr) (s t : State), exec c s = .next t → t.pending = s.pending

/-- State.reset has every register of the set-up window at the value that the register tables give it (POR as the start-up state; K_P,
severities and thresholds as tabulated), and every queue, store and table empty: no command waiting and none in a ring, no tile record
or bank swap, no descriptor, no transaction in a slot, no load, list, reservation or queued request, no event, kept raise or history
entry, no session, notice or queued frame, no TL frame, held command or synchronisation, no matrix burst and no byte written in its
stores, no register value awaiting its effect or latched, no free value taken; DT and the tick are 0 with no marker passed, and nothing
has left the device. -/
def Obligations.ResetLeavesRegistersAtTheirResetValues : Prop :=
  (∀ o, State.reset.word o = resetWord o) ∧ State.reset.pending = [] ∧ State.reset.tiles = [] ∧ State.reset.swaps = [] ∧ State.reset.txn = {} ∧
  (∀ h, (State.reset.slot h).st = .free) ∧ State.reset.fab.desc = none ∧ State.reset.fab.parkPh = List.replicate 8 .off ∧
  State.reset.tmu = {} ∧ State.reset.cal = {} ∧ State.reset.adm = {} ∧ State.reset.hif = {} ∧ State.reset.cpx = {} ∧ State.reset.twn = {} ∧
  State.reset.siu = {} ∧ State.reset.kln = {} ∧ State.reset.btu = {} ∧ State.reset.tap = {} ∧ State.reset.mtx = {} ∧
  State.reset.flt.hist = [] ∧ State.reset.flt.raises = [] ∧ State.reset.flt.kept = [] ∧ State.reset.flt.stamp = [] ∧
  State.reset.eff = [] ∧ State.reset.shadow = [] ∧ State.reset.free = 0 ∧ State.reset.marker = 0 ∧ State.reset.tick = 0 ∧
  State.reset.out = [] ∧ State.reset.dt = 0 ∧ State.reset.started = false ∧
  State.reset.startup = 0 ∧ State.reset.reg TWN_STATUS_TWIN_ROLE = 7 ∧ State.reset.reg FLT_SEV_SEV 0 = 1 ∧
  State.reset.domState 3 = 0

/-- At every offset of the set-up window, two different fields of the register there occupy disjoint bit ranges of the 32-bit word; each
field's reset value fits its width. -/
def Obligations.FieldsOfTheRegisterMapDoNotOverlap : Prop :=
  ∀ o, (∀ f ∈ fieldsAt o, ∀ g ∈ fieldsAt o, f ≠ g → f.lo + f.wd ≤ g.lo ∨ g.lo + g.wd ≤ f.lo) ∧
    (∀ f ∈ fieldsAt o, f.lo + f.wd ≤ 32 ∧ f.rst < 2 ^ f.wd)

/-- When the device sets field f of instance i to v, the field reads v in its width; every field of another register, and every field of
the same register in other bits, reads as before; and every other part of the state is as it was. -/
def Obligations.WriteOfAFieldKeepsEveryOtherField : Prop :=
  ∀ (s : State) (f g : Fd) (i j v : Nat), f.lo + f.wd ≤ 32 →
    (s.setReg f i v).reg f i = v % 2 ^ f.wd ∧
    (g.offAt j ≠ f.offAt i ∨ g.lo + g.wd ≤ f.lo ∨ f.lo + f.wd ≤ g.lo → (s.setReg f i v).reg g j = s.reg g j) ∧
    { s.setReg f i v with regs := s.regs } = s

/-- Outside reset a raise joins the raises that wait for the logger, in order. While a reset holds the logger nothing reaches it: with
PORST_N released the safety island keeps its own sources (768 to 799) up to 8 of them, and every other raise is lost. A state that keeps
at most 8 raises keeps at most 8 whatever is raised. A raise changes nothing but these two lists. When a condition of source n (0 to
1023) begins outside reset, its bit of FLT_CAUSE is set, the cause of every other source and every register outside FLT_CAUSE stand, one
raise of source n with the given INFO joins the logger's, and nothing else changes. -/
def Obligations.RaisesReachTheLoggerOrTheIsland : Prop :=
  (∀ (s : State) (r : Raise),
    (s.pins.porstN = true → s.pins.resetN = true → s.raiseEv r = { s with flt := { s.flt with raises := s.flt.raises ++ [r] } }) ∧
    (s.pins.porstN = true → s.pins.resetN = false → 768 ≤ r.src → r.src < 800 → s.flt.kept.length < 8 →
      s.raiseEv r = { s with flt := { s.flt with kept := s.flt.kept ++ [r] } }) ∧
    ((s.pins.porstN = false ∨ s.pins.resetN = false) → (s.pins.porstN = false ∨ r.src < 768 ∨ 800 ≤ r.src ∨ 8 ≤ s.flt.kept.length) →
      s.raiseEv r = s) ∧
    (s.flt.kept.length ≤ 8 → (s.raiseEv r).flt.kept.length ≤ 8)) ∧
  (∀ (s : State) (n info : Nat), n < 1024 → s.pins.porstN = true → s.pins.resetN = true →
    (s.raiseCond n info).cause n = true ∧ (∀ m, m < 1024 → m ≠ n → (s.raiseCond n info).cause m = s.cause m) ∧
    (∀ o, o ≠ FLT_CAUSE_CAUSE.offAt (n / 32) → (s.raiseCond n info).word o = s.word o) ∧
    s.raiseCond n info = { s with regs := (s.raiseCond n info).regs,
                                  flt := { s.flt with raises := s.flt.raises ++ [{ src := n, info := info }] } })

/-- After a power-on reset the history queue holds at most 32 entries, every capture FIFO at most 16, the boundary register lies in its
2,025 cells and the TAP instruction in 8 bits. -/
def Obligations.BoundedStoresAtReset : Prop :=
  State.reset.bounded

/-- From every state within the bounds (history queue at most 32 entries, each capture FIFO at most 16, boundary cells below 2^2025, TAP
instruction below 256) a step to a next state stays within them, whatever command is at the front and whatever its operands. -/
def Obligations.EveryStepKeepsBoundedStores : Prop :=
  ∀ s t : State, s.bounded → step s = .next t → t.bounded

/-- With PORST_N released, PORST_ASSERT takes effect at tick e, the first on which no tile's strobe is high (R101), and answers a state
in which PORST_N is low, every field of every register reads its reset value except those that report pins, straps and fuses (which
stand) and the two that follow FABRIC_CLR_N (DRV_STATUS.CLR of every tile and the cause of source 792), and the safety island, the event
logger with its history, the kiln, the tiles, transactions, time unit, calendar, admission, control ports, host interface, twin, matrix,
latching shadows and marker are all as after reset; the assertion lasts at least 10 us from the edge (R560); the flash images and the
cask copies, the park store and what the fabric shows, the TAP, the queue and what has left the device stand. With PORST_N low already
it changes nothing. -/
def Obligations.PowerOnResetEffect : Prop :=
  ∀ s : State, (s.pins.porstN = false → exec .porstAssert s = .next s) ∧ (s.pins.porstN = true → ∃ t e, exec .porstAssert s = .next t ∧
    s.dt ≤ e ∧ (∀ k, k < 96 → (s.tile k).strobeFree s.dt ≤ e) ∧ (e = s.dt ∨ ∃ k, k < 96 ∧ e = (s.tile k).strobeFree s.dt) ∧
    t = { ({} : State) with
          pending := s.pending, free := s.free, dt := e, tick := s.tick + (e - s.dt), regs := t.regs, tap := s.tap, out := s.out
          pins := { s.pins with porstN := false, txOff := false }
          fab := { ownxRaw := s.fab.ownxRaw, clrN := s.fab.clrN, parkDef := s.fab.parkDef, parkStore := s.fab.parkStore
                   parkLoaded := s.fab.parkLoaded, parkDoms := s.fab.parkDoms, vhv := s.fab.vhv }
          btu := { fwA := s.btu.fwA, fwB := s.btu.fwB, ucA := s.btu.ucA, ucB := s.btu.ucB, cask0 := s.btu.cask0, cask1 := s.btu.cask1
                   porTo := s.tick + 12800, resTo := s.btu.resTo } } ∧
    (∀ o, o ∉ pinFields.map Fd.off → (s.fab.clrN = true ∨ (o ≠ FLT_CAUSE_CAUSE.offAt 24 ∧ ∀ k, k < 96 → o ≠ DRV_STATUS_CLR.offAt k)) →
      t.word o = resetWord o) ∧
    (∀ (f : Fd) (i : Nat), f ∈ fieldsAt (f.offAt i) → f ∉ pinFields → f ∉ [DRV_STATUS_CLR, FLT_CAUSE_CAUSE] → t.reg f i = State.reset.reg f i) ∧
    (∀ f ∈ pinFields, t.reg f = s.reg f) ∧
    (∀ k, k < 96 → t.reg DRV_STATUS_CLR k = b2n (!s.fab.clrN)) ∧ (∀ n, n < 1024 → t.cause n = (decide (n = 792) && !s.fab.clrN)))

/-- With both resets released, RESET_N_ASSERT takes effect at tick e, the first on which no tile's strobe is high (R101), and answers a
state with RESET_N low in which the safety island (its registers and its inner state), the history queue, the held statuses, the
first-fault record, the memory-test result, KLN_STATUS.SHUTDOWN and the fields that report pins, straps and fuses stand, the causes that
lie outside the part it resets stand and all others end, DRV_STATUS.CLR and source 792 show FABRIC_CLR_N and BTU_RESET shows WARM and
not PORST, with WARM_CNT one more up to its largest value; every other field reads its reset value, the start-up state POR among them;
raises that wait for the logger are lost; every other part of the state is as after reset but for flash, cask copies, park store, fabric
lines, TAP, queue and what has left the device; the instant is noted for the 10 s limit and for the 10 us that the assertion lasts.
Under PORST_N the pin and that minimum alone change. -/
def Obligations.WarmResetEffect : Prop :=
  ∀ s : State, (s.pins.resetN = false → exec .resetNAssert s = .next s) ∧
    (s.pins.porstN = false → s.pins.resetN = true →
      exec .resetNAssert s = .next { s with pins := { s.pins with resetN := false }, btu := { s.btu with resTo := s.tick + 12800 } }) ∧
    (s.pins.porstN = true → s.pins.resetN = true → ∃ t e, exec .resetNAssert s = .next t ∧
    s.dt ≤ e ∧ (∀ k, k < 96 → (s.tile k).strobeFree s.dt ≤ e) ∧ (e = s.dt ∨ ∃ k, k < 96 ∧ e = (s.tile k).strobeFree s.dt) ∧
    t = { ({} : State) with
          pending := s.pending, free := s.free, dt := e, tick := s.tick + (e - s.dt), regs := t.regs, tap := s.tap, out := s.out, siu := s.siu
          flt := { hist := s.flt.hist, kept := s.flt.kept }, kln := { shutAt := s.kln.shutAt, released := s.kln.released }
          pins := { s.pins with resetN := false, txOff := false }
          fab := { ownxRaw := s.fab.ownxRaw, clrN := s.fab.clrN, parkDef := s.fab.parkDef, parkStore := s.fab.parkStore
                   parkLoaded := s.fab.parkLoaded, parkDoms := s.fab.parkDoms, vhv := s.fab.vhv }
          btu := { fwA := s.btu.fwA, fwB := s.btu.fwB, ucA := s.btu.ucA, ucB := s.btu.ucB, cask0 := s.btu.cask0, cask1 := s.btu.cask1
                   heldFrom := s.tick, resTo := s.tick + 12800 } } ∧
    t.startup = 0 ∧ (∀ o, 0x290000 ≤ o → o < 0x2A0000 → t.word o = s.word o) ∧ (∀ n, n < 1024 → t.held n = s.held n) ∧
    (∀ o, FLT_STATUS_FF_VALID.off ≤ o → o ≤ FLT_FF_SEC_HI_SEC_HI.off → t.word o = s.word o) ∧
    t.word GLB_MBIST_RESULT.off = s.word GLB_MBIST_RESULT.off ∧ t.reg KLN_STATUS_SHUTDOWN = s.reg KLN_STATUS_SHUTDOWN ∧
    (∀ f ∈ pinFields, t.reg f = s.reg f) ∧ (∀ k, k < 96 → t.reg DRV_STATUS_CLR k = b2n (!s.fab.clrN)) ∧
    (∀ n, n < 1024 → t.cause n = (outerCauses.contains n && s.cause n || decide (n = 792) && !s.fab.clrN)) ∧
    t.reg BTU_RESET_PORST = 0 ∧ t.reg BTU_RESET_WARM = 1 ∧
    t.reg BTU_RESET_WARM_CNT = min (2 ^ BTU_RESET_WARM_CNT.wd - 1) (s.reg BTU_RESET_WARM_CNT + 1) ∧
    (∀ (f : Fd) (i : Nat), f ∈ fieldsAt (f.offAt i) → keptByReset (f.offAt i) = false → f ∉ pinFields →
      f ∉ [KLN_STATUS_SHUTDOWN, BTU_RESET_PORST, BTU_RESET_WARM, BTU_RESET_WARM_CNT, FLT_CAUSE_CAUSE, DRV_STATUS_CLR] →
      t.reg f i = State.reset.reg f i) ∧
    (∀ o, keptByReset o = false → o ∉ pinFields.map Fd.off → o ≠ KLN_STATUS_SHUTDOWN.off → o ≠ BTU_RESET_WARM_CNT.off →
      (∀ i, i < 32 → o ≠ FLT_CAUSE_CAUSE.offAt i) → (∀ k, k < 96 → o ≠ DRV_STATUS_CLR.offAt k) → t.word o = resetWord o))

/-- The release of either reset while the other is already released sets DT to 0 with no marker passed yet and keeps every raise that
the safety island kept, which follow into the logger one at a time; raises of conditions that still hold may join the logger's.
PORST_N's release samples TEST_EN into GLB_TEST and the strap KFI_PORT into PORT_STRAP and restarts the tick count; RESET_N's keeps it,
but lasts until 10 us after its fall (R560). The safety island, the start-up state and what has left the device stand. Once the 10 us
are over, each tile's park burst that is in progress goes on in the new DT and its domain stays owned (R101); a domain asserted whose
burst has not begun is released (the model's choice, log 138). A release of a reset that is not asserted changes nothing. -/
def Obligations.ResetReleasesStartTimeAtZero : Prop :=
  ∀ s : State, (s.pins.porstN = true → exec .porstRelease s = .next s) ∧ (s.pins.resetN = true → exec .resetNRelease s = .next s) ∧
    (s.pins.porstN = false → s.pins.resetN = true → ∃ t, exec .porstRelease s = .next t ∧ t.pins = { s.pins with porstN := true } ∧
      t.dt = 0 ∧ t.marker = 0 ∧ t.started = false ∧ t.tick = 0 ∧ t.reg GLB_TEST_TEST_EN = b2n s.pins.testEn ∧
      t.reg KFI_STATUS_PORT_STRAP = b2n s.pins.kfiPort ∧
      t.flt.kept = s.flt.kept ∧ s.flt.raises <+: t.flt.raises ∧ t.startup = s.startup ∧ t.siu = s.siu ∧ t.out = s.out ∧
      (s.btu.porTo ≤ s.tick → (∀ k, k < 96 → t.tile k = (s.tile k).rebase s.dt) ∧
        ∀ d, d < 8 → t.fab.parkPh.getD d .off = (if s.fab.parkPh.getD d .off = .burst then .burst else .off) ∧
          t.owns d = (s.owns d && decide (s.fab.parkPh.getD d .off ≠ .owned)))) ∧
    (s.pins.porstN = true → s.pins.resetN = false → s.reg GLB_MBIST_RESULT < 2 ^ 31 →
      ∃ t, exec .resetNRelease s = .next t ∧ t.pins = { s.pins with resetN := true } ∧
      t.dt = 0 ∧ t.marker = 0 ∧ t.started = false ∧ t.tick = max s.tick s.btu.resTo ∧
      t.flt.kept = s.flt.kept ∧ s.flt.raises <+: t.flt.raises ∧ t.startup = s.startup ∧ t.siu = s.siu ∧ t.out = s.out ∧
      (s.btu.resTo ≤ s.tick → (∀ k, k < 96 → t.tile k = (s.tile k).rebase s.dt) ∧
        ∀ d, d < 8 → t.fab.parkPh.getD d .off = (if s.fab.parkPh.getD d .off = .burst then .burst else .off) ∧
          t.owns d = (s.owns d && decide (s.fab.parkPh.getD d .off ≠ .owned))))

/-- The safety island's own reset puts its registers and its inner state at their reset values, ends the conditions that its latches
hold and clears the safety hold (the model's reading, log 126), and touches nothing else. The loss of its supplies turns both outputs
off. RESET_N held low (PORST_N released) for more than 10 s sets SIU_STICKY.RST_HELD at the first tick past 10 s after its fall. An
internal block reset that has not completed within 1 ms begins the condition of source 929. -/
def Obligations.SafetySupplyAndResetLimits : Prop :=
  ∀ s : State,
    (∃ t, exec .safetyIslandReset s = .next t ∧ t = { s with regs := t.regs, siu := {} } ∧
      (∀ o, 0x290000 ≤ o → o < 0x2A0000 → t.word o = resetWord o) ∧ t.reg TXN_STATUS_SAFETY_HOLD = 0 ∧
      (∀ n, n < 1024 → t.cause n = (s.cause n && !siuCauses.contains n)) ∧
      (∀ o, o < 0x290000 ∨ 0x2A0000 ≤ o → o ≠ FLT_CAUSE_CAUSE.offAt 24 → o ≠ TXN_STATUS_SAFETY_HOLD.off → t.word o = s.word o)) ∧
    (∃ t, exec .safetySupplyLoss s = .next t ∧ t = { s with regs := t.regs } ∧ t.reg SIU_OUTPUTS_SO_A_ON = 0 ∧
      t.reg SIU_OUTPUTS_SO_B_ON = 0 ∧ (∀ o, o ≠ SIU_OUTPUTS_SO_A_ON.off → t.word o = s.word o)) ∧
    (s.pins.porstN = true → s.pins.resetN = false → s.tick ≤ s.btu.heldFrom + 12800000001 →
      ∃ t, exec .rstHeldTimeout s = .next t ∧ t.tick = s.btu.heldFrom + 12800000001 ∧ t.reg SIU_STICKY_RST_HELD = 1 ∧
        (∀ o, o ≠ SIU_STICKY_RST_HELD.off → t.word o = s.word o) ∧
        t = { s with regs := t.regs, dt := t.dt, tick := t.tick }) ∧
    (s.pins.porstN = true → s.pins.resetN = true → exec .internalBlockResetTimeout s = .next (s.raiseCond 929))

/-- For a device in reset, with every OWNX_D low, VHV at 23 V or more, no drive instruction of the TAP, and every domain known to hold a
populated tile or none known: from no park sequence the sample asserts all eight OWN_D; the burst start then leaves them asserted and
starts in every tile one full burst with strobes, at whose j-th slot of 32 ticks the address is j and the column codes are the park
codes of that address in the 0 to 20 V range; its last address is 31; the burst end deasserts every OWN_D, with address 0 and every
column at 0 V; the repeat asserts them again. Nothing but OWN and the park phases, and tiles at the burst, changes. In general the
sample asserts OWN_D in a domain alone when its OWNX_D is low, VHV is 23 V or more, the TAP drives nothing and a populated tile is known
in it, and leaves the domain waiting otherwise; a domain whose OWNX_D has risen by the burst start is released again and writes nothing;
a domain with no asserted OWN_D keeps its phase and its tiles there. -/
def Obligations.ParkSequenceOfR101 : Prop :=
  ∀ s : State, s.pins.resetN = false →
    (s.fab.parkPh = List.replicate 8 .off → ∃ t, exec .parkOwnxSample s = .next t ∧ t = { s with regs := t.regs, fab := { s.fab with parkPh := t.fab.parkPh } } ∧
      ∀ d, d < 8 → if bit s.fab.ownxRaw d = true ∨ s.fab.vhv < 23000 ∨ s.tap.drive.isSome = true ∨ bit s.fab.parkDoms d = false
        then t.owns d = s.owns d ∧ t.fab.parkPh.getD d .off = .waiting else t.owns d = true ∧ t.fab.parkPh.getD d .off = .owned) ∧
    (s.fab.parkPh.length = 8 → ∃ t, exec .parkBurstStart s = .next t ∧
      t = { s with regs := t.regs, tiles := t.tiles, fab := { s.fab with parkPh := t.fab.parkPh } } ∧
      ∀ d, d < 8 → (s.fab.parkPh.getD d .off = .owned → bit s.fab.ownxRaw d = true ∨ s.fab.vhv < 23000 →
          t.owns d = false ∧ t.fab.parkPh.getD d .off = .waiting ∧ ∀ k, k / 12 = d → t.tile k = s.tile k) ∧
        (s.fab.parkPh.getD d .off ≠ .owned → t.owns d = s.owns d ∧ t.fab.parkPh.getD d .off = s.fab.parkPh.getD d .off ∧ ∀ k, k / 12 = d → t.tile k = s.tile k)) ∧
    (s.fab.ownxRaw = 0 → 23000 ≤ s.fab.vhv → s.tap.drive = none → s.fab.parkDoms = 255 →
    (s.fab.parkPh = List.replicate 8 .off → ∃ t, exec .parkOwnxSample s = .next t ∧ t.reg KFI_STATUS_OWN = 255 ∧
      t = { s with regs := t.regs, fab := { s.fab with parkPh := List.replicate 8 .owned } } ∧ (∀ o, o ≠ KFI_STATUS_OWN.off → t.word o = s.word o)) ∧
    (s.fab.parkPh = List.replicate 8 .owned → ∃ t, exec .parkBurstStart s = .next t ∧
      t = { s with tiles := t.tiles, fab := { s.fab with parkPh := List.replicate 8 .burst } } ∧
      (∀ k, k < 96 → (t.tile k).fra = 31 ∧
        (∀ j n, j < 32 → s.dt + 32 * j ≤ n → n < s.dt + 32 * j + 32 → (t.tile k).fraAt n = j ∧
          (t.tile k).frsAt n = (decide (s.dt + 32 * j + 24 < n) && decide (n < s.dt + 32 * j + 30))) ∧
        t.tile k = (s.tile k).startRun { burst := true, start := s.dt, addrs := List.range 32
                                         codes := (List.range 32).flatMap (fun a => (List.range 8).map (fun c =>
                                           parkCode (s.parkMv (128 * k + (2 * (8 * (a / 2) + c) + a % 2) / 2) ((2 * (8 * (a / 2) + c) + a % 2) % 2)) 20000))
                                         base := colTab (fun c => (s.tile k).fcdBefore c s.dt), step := s.effReg DRV_SLEW_B_STEP k
                                         rate := s.effReg DRV_SLEW_B_RATE k, strobe := true })) ∧
    (s.fab.parkPh = List.replicate 8 .burst → ∃ t, exec .parkBurstEnd s = .next t ∧ t.reg KFI_STATUS_OWN = 0 ∧
      t = { s with regs := t.regs, tiles := t.tiles, fab := { s.fab with parkPh := List.replicate 8 .waiting } } ∧
      (∀ k, k < 96 → t.tile k = { s.tile k with run := none, fra := 0, fcd := [] }) ∧ (∀ o, o ≠ KFI_STATUS_OWN.off → t.word o = s.word o)) ∧
    (s.fab.parkPh = List.replicate 8 .waiting → ∃ t, exec .parkRepeat s = .next t ∧ t.reg KFI_STATUS_OWN = 255 ∧
      t = { s with regs := t.regs, fab := { s.fab with parkPh := List.replicate 8 .owned } } ∧ (∀ o, o ≠ KFI_STATUS_OWN.off → t.word o = s.word o)))

/-- Outside reset and factory mode POR_DONE goes from POR to BOOT, the PCIe link trains, and nothing else changes. BOOT_DONE starts the
first verifying firmware slot, in order of falling version, in CONFIG row 1 (slot, version, security version, REMAP shown), or goes to
RECOVERY when none verifies; source 869 is raised once for each slot tried in vain. The end of CONFIG row 1 shows and applies the valid
cask copy of this device with the highest GEN (trims, reference trims, kiln and twin registers; the SIU's in S_INIT or S_STOP under the
sealed CRC alone), or shows none and raises 869; it starts the descriptor read and the tree calibration in row 2. Row 2 ends once
descriptor read, sense and tree calibration are over: every domain runs the microcode of the first verifying slot, and the role decision
begins: SOLO with no twin paired, STANDBY with an OWNX_D asserted, else the join wait of row 3, which CONFIG_ROW_DONE does not end. When
rows 1 to 4 are over and every condition of R568 holds, CONFIG_ROW_DONE enters RUN: a domain that cannot be owned becomes UNAVAILABLE,
and role SOLO asserts OWN for every domain that can. -/
def Obligations.StartUpStates : Prop :=
  ∀ s : State, s.pins.porstN = true → s.pins.resetN = true →
    (s.startup = 0 → s.factory = false → exec .porDone s = .next (({ s with hif := { s.hif with link := true } } : State).setReg BTU_STATE_STATE 0 1)) ∧
    (s.startup = 1 → ∃ t, exec .bootDone s = .next t ∧
      t = { s with regs := t.regs, btu := t.btu, mtx := t.mtx, flt := { s.flt with
        raises := s.flt.raises ++ List.replicate (s.bootFails (slotOrder s.btu.fwA s.btu.fwB)) { src := 869 } } } ∧
      match s.pickImage 1 (slotOrder s.btu.fwA s.btu.fwB) with
      | none => t.startup = 2 ∧ t.btu = s.btu ∧ t.mtx = s.mtx ∧ ∀ o, o ≠ BTU_STATE_STATE.off → t.word o = s.word o
      | some (k, b) => t.startup = 3 ∧ t.reg BTU_STATE_FW_SLOT = k % 2 ∧ t.reg BTU_STATE_REMAP = 1 ∧ t.reg MTX_CTRL_REMAP = 1 ∧
          t.reg BTU_FW_VER_IMG_VER = imgVer b % 2 ^ 32 ∧
          t.reg BTU_FUSE_SVN_RUN = imgSvn b % 2 ^ BTU_FUSE_SVN_RUN.wd ∧ t.btu = { s.btu with row := 1 } ∧
          t.mtx = { s.mtx with map := s.mtx.map || s.mtx.queue.all (fun r => decide (0x200000 ≤ r.addr)) }) ∧
    (s.startup = 3 → s.btu.row = 1 → s.newestCask = none → ∃ t, exec .configRowDone s = .next t ∧ t.reg BTU_STATE_CASK_VALID = 0 ∧
      t.reg KFI_STATUS_READING = 1 ∧ t.reg TMU_TREE_CAL_BUSY = 1 ∧ t.reg TMU_STATUS_PLL_LOCK = 1 ∧
      t = { s with regs := t.regs, fab := { s.fab with rd := some {} }, btu := { s.btu with row := 2 },
                   flt := { s.flt with raises := s.flt.raises ++ [{ src := 869 }] } }) ∧
    (∀ k c, s.startup = 3 → s.btu.row = 1 → s.newestCask = some (k, c) → ∃ t, exec .configRowDone s = .next t ∧
      t.reg BTU_STATE_CASK_VALID = 1 ∧ t.reg BTU_STATE_CASK_COPY = k % 2 ∧ t.reg BTU_CASK_GEN = c.gen % 2 ^ 32 ∧
      t.reg KFI_STATUS_READING = 1 ∧ t.reg TMU_TREE_CAL_BUSY = 1 ∧ t.reg TMU_STATUS_PLL_LOCK = 1 ∧
      t.word KLN_THR_WARN.off = BitVec.ofNat 32 c.thr ∧ t.reg KLN_THROTTLE_K_SLOPE = c.throttle % 256 ∧
      t.word KLN_CTRL_CASK_WIN_EN.off = BitVec.ofNat 32 c.ctrl ∧ t.word TWN_CTRL_PAIRED.off = BitVec.ofNat 32 c.twn ∧
      (if (s.reg SIU_STATUS_STATE = 0 ∨ s.reg SIU_STATUS_STATE = 1) ∧ siuCrc c.cfg0 c.cfg1 = c.crc
        then t.word SIU_CFG0_T_DISC.off = BitVec.ofNat 32 c.cfg0 ∧ t.word SIU_CFG1_DEGRADE_MIN.off = BitVec.ofNat 32 c.cfg1 ∧
          t.siu = { s.siu with cfg0 := c.cfg0, cfg1 := c.cfg1, crcSet := true }
        else t.siu = s.siu ∧ ∀ o, 0x290000 ≤ o → o < 0x2A0000 → t.word o = s.word o) ∧
      (∀ i, i < 16 → c.base.length = 16 → t.kln.base.read 0 i = c.base.getD i 0) ∧
      t = { s with regs := t.regs, siu := t.siu, kln := { s.kln with base := t.kln.base }, fab := { s.fab with rd := some {} },
                   btu := { s.btu with trims := c.trims, senseCal := [], row := 2 } }) ∧
    (s.startup = 3 → s.btu.row = 2 → s.rowTwoOver = false → exec .configRowDone s = .next s) ∧
    (s.startup = 3 → s.btu.row = 2 → s.rowTwoOver = true → ∃ t, exec .configRowDone s = .next t ∧
      (∀ k b d, s.pickImage 2 (slotOrder s.btu.ucA s.btu.ucB) = some (k, b) → d < 8 →
        (t.domSt d).live = some (imgVer b, imgBody b) ∧ t.reg BTU_STATE_UC_SLOT = k % 2 ∧ t.reg DOM_UC_VER_IMG_VER d = imgVer b % 2 ^ 32) ∧
      t.twn.paired = s.flag TWN_CTRL_PAIRED ∧ t.twn.fec = s.flag TWN_CTRL_TL_FEC ∧
      (s.flag TWN_CTRL_PAIRED = false → t.role = roleSolo ∧ t.reg TWN_SYNC_NEED_SYNC = 0 ∧ t.twn.deciding = none) ∧
      (s.flag TWN_CTRL_PAIRED = true → s.reg KFI_STATUS_OWNX ≠ 0 → t.role = roleStandby ∧ t.reg TWN_SYNC_NEED_SYNC = 1 ∧ t.twn.deciding = none) ∧
      (s.flag TWN_CTRL_PAIRED = true → s.reg KFI_STATUS_OWNX = 0 → t.role = s.role ∧ t.twn.deciding = some s.tick ∧ t.btu.row = 3 ∧ t.startup = 3)) ∧
    (s.startup = 3 → s.btu.row = 3 → exec .configRowDone s = .next s) ∧
    (s.startup = 3 → s.btu.row = 4 → s.runReady = false → exec .configRowDone s = .next s) ∧
    (s.btu.row = 4 → s.runReady = true → s.role = roleSolo → s.fab.inhibit = false → ∃ t, exec .configRowDone s = .next t ∧ t.startup = 4 ∧
      ∀ d, d < 8 → (s.canOwn d = false → t.domState d = 4) ∧ (s.canOwn d = true → t.owns d = true ∧ t.domState d = s.domState d))

/-- When the 100 ms join wait ends in CONFIG, the device takes role STANDBY if it has heard during the wait a twin that was deciding and
its port strap is S, and SOLO otherwise; NEED_SYNC is set for STANDBY and cleared for SOLO, and the tick is at least 100 ms after the
wait began. Where a condition of R568 does not hold (no descriptor accepted among them), row 4 of CONFIG is the present one and nothing
else changes. With a descriptor accepted and every condition of R568 met, the device enters RUN: a domain that cannot be owned is
UNAVAILABLE, and role SOLO asserts OWN for every other. With no join wait nothing changes. -/
def Obligations.JoinWaitDecidesTheRole : Prop :=
  ∀ s : State, (s.twn.deciding = none → exec .joinWaitEnd s = .next s) ∧ (∀ n : Nat, s.twn.deciding = some n → s.startup = 3 →
    (({ s with btu := { s.btu with row := 4 } } : State).runReady = false → ∃ t, exec .joinWaitEnd s = .next t ∧
      t.role = (if (s.twn.heardDeciding && s.flag KFI_STATUS_PORT_STRAP) = true then roleStandby else roleSolo) ∧
      t.reg TWN_SYNC_NEED_SYNC = (if t.role = roleStandby then 1 else 0) ∧ n + 128000000 ≤ t.tick ∧
      (∀ o, o ≠ TWN_STATUS_ROLE.off → o ≠ TWN_SYNC_NEED_SYNC.off → t.word o = s.word o) ∧
      t = { s with regs := t.regs, dt := t.dt, tick := t.tick, twn := { s.twn with deciding := none }, btu := { s.btu with row := 4 } }) ∧
    (s.flag KFI_STATUS_DESC_VALID = true → s.flag KLN_STATUS_SHUTDOWN = false → (∃ d, d < 8 ∧ s.canOwn d = true) →
      (∀ k, k < 96 → s.populated k = true → (s.domSt (domOf k)).live.isSome = true) → ∃ t, exec .joinWaitEnd s = .next t ∧ t.startup = 4 ∧
      t.role = (if (s.twn.heardDeciding && s.flag KFI_STATUS_PORT_STRAP) = true then roleStandby else roleSolo) ∧
      t.reg TWN_SYNC_NEED_SYNC = (if t.role = roleStandby then 1 else 0) ∧ n + 128000000 ≤ t.tick ∧ t.twn.deciding = none ∧
      ∀ d, d < 8 → (s.canOwn d = false → t.domState d = 4) ∧
        (s.canOwn d = true → t.domState d = s.domState d ∧ (t.role = roleStandby → t.owns d = s.owns d) ∧
          (t.role = roleSolo → s.fab.inhibit = false → t.owns d = true))))

/-- The loss of the tree clock forces every strobe low: every tile's address and columns hold where they stand at that tick, and nothing
else changes. 10 ns later every OWN_D is deasserted and held so, no domain can strobe or is sensed, addresses go to 0 and columns to 0
V, and the ownership conflicts end; every register but OWN and those causes stands. No later assertion of OWN_D has an effect. -/
def Obligations.TreeClockLossHoldsTheFabric : Prop :=
  ∀ s : State,
    (∃ t, exec .treeClockLoss s = .next t ∧ t = { s with tiles := t.tiles, fab := { s.fab with treeLost := true } } ∧
      ∀ k, k < 96 → t.tile k = { s.tile k with run := none, fra := (s.tile k).fraAt s.dt, fcd := (t.tile k).fcd } ∧
        (∀ n, (t.tile k).frsAt n = false) ∧ ∀ c, c < 8 → (t.tile k).fcdAt c s.dt = (s.tile k).fcdAt c s.dt) ∧
    (s.fab.treeLost = true → ∃ t, exec .treeLossOwnRelease s = .next t ∧ t.reg KFI_STATUS_OWN = 0 ∧
      (∀ d, d < 8 → t.cause (srcDom d 0) = false ∧ t.assertOwn d = t) ∧
      t = { s with regs := t.regs, tiles := t.tiles, fab := { s.fab with inhibit := true, ownReady := 0, ownSensed := 0 } } ∧
      (∀ k, k < 96 → (t.tile k).fra = 0 ∧ (t.tile k).fcd = [] ∧ (t.tile k).run = none ∧ (t.tile k).lanes = (s.tile k).lanes) ∧
      (∀ o, o ≠ KFI_STATUS_OWN.off → (∀ d, d < 8 → o ≠ FLT_CAUSE_CAUSE.offAt (srcDom d 0 / 32)) → t.word o = s.word o))

/-- Outside reset and tree-clock loss, row slot n of 32 begins at tick 100 n of the frame in all 96 tiles; a tile that has begun this
slot or a later one in the frame stands. Every other tile notes the slot and its sense REASON. In a tile whose sequencer is in normal
row slots, FRA is the slot while the domain is owned and 0 otherwise, and the strobe is high for the ticks between 40 and 50 of the slot
where the tile drives and low elsewhere. Where the row has been handed over, or is in its second slot, each lane's u_a of that node is
the code that the sequencer's source gives, and each column stands where the slew limiter has moved it towards code plus dither by tick
24, or at 0 V where the domain is not owned. In the first slot of a row whose handover is missing while a lane takes its codes from the
tile engine, those lanes' codes of both nodes come from the previous frame's handover, the slot presents them so, the miss is counted
and the missed-handover source raised. In a domain whose park burst outlasts its reset the lines go on with that burst. Time, registers,
raises and tiles are all that may change. -/
def Obligations.RowSlotWritesEveryTile : Prop :=
  ∀ (s : State) (n : Nat) (bad : List (Nat × Nat)), s.pins.porstN = true → s.pins.resetN = true → s.fab.treeLost = false → n < 32 →
    ∃ t, exec (.slotStart n bad) s = .next t ∧ t.dt = max s.dt (s.marker + 100 * n) ∧
      t = { s with dt := t.dt, tick := t.tick, regs := t.regs, tiles := t.tiles, flt := t.flt } ∧
      ∀ k, k < 96 → (n < (s.tile k).begun → t.tile k = s.tile k) ∧ ((s.tile k).begun ≤ n →
        (t.tile k).slot = n ∧ (t.tile k).begun = n + 1 ∧ (t.tile k).slotSt.read 2 n = s.slotReason k ∧
        ((s.tile k).seq ≠ .normal → (t.tile k).fra = (s.tile k).fra ∧ (t.tile k).fcd = (s.tile k).fcd ∧ (t.tile k).run = (s.tile k).run) ∧
        ((s.tile k).seq = .normal → s.ownsTile k = true → s.parkRuns k = true →
          (t.tile k).fra = (s.tile k).fra ∧ (t.tile k).fcd = (s.tile k).fcd ∧ (t.tile k).run = (s.tile k).run) ∧
        ((s.tile k).seq = .normal → s.parkRuns k = false → (t.tile k).fra = (if s.ownsTile k then n else 0) ∧
          ∀ m, (t.tile k).frsAt m = (s.drives k && decide (t.dt + 40 < m) && decide (m < t.dt + 50))) ∧
        (let miss := n % 2 = 0 ∧ (s.tile k).placedCur.contains (n / 2) = false ∧
           (List.range 8).any (fun c => engineMode ((s.tile k).lane (8 * (n / 2) + c)).mode) = true
         let code := fun c => if miss ∧ s.parkHold k = false ∧ engineMode ((s.tile k).lane (8 * (n / 2) + c)).mode = true
           then bankCode (s.tile k).nxt (8 * (n / 2) + c) 0 else s.slotCode k (8 * (n / 2) + c) (n % 2)
         (s.tile k).seq = .normal →
          (miss → t.reg DRV_MISS_MISS k = min (2 ^ DRV_MISS_MISS.wd - 1) (s.reg DRV_MISS_MISS k + 1) ∧
            { src := srcTile k 0, info := k + 256 * 0xFF } ∈ t.flt.raises ∧
            ∀ c, c < 8 → engineMode ((s.tile k).lane (8 * (n / 2) + c)).mode = true →
              bankCode (t.tile k).cur (8 * (n / 2) + c) 1 = bankCode (s.tile k).nxt (8 * (n / 2) + c) 1) ∧
          (¬ miss → t.reg DRV_MISS_MISS k = s.reg DRV_MISS_MISS k) ∧
          ∀ c, c < 8 →
          (if n % 2 = 0 then ((t.tile k).lane (8 * (n / 2) + c)).uaP else ((t.tile k).lane (8 * (n / 2) + c)).uaT) = code c ∧
          bankCode (t.tile k).cur (8 * (n / 2) + c) (n % 2) = code c ∧
          (s.parkRuns k = false → (t.tile k).fcd.read 0 c = if s.ownsTile k then
            slewReach ((s.tile k).fcdBefore c t.dt)
              (clampCode ((code c : Nat) + (if s.dithers k (8 * (n / 2) + c)
                then ditherOf (s.toneAmp k (8 * (n / 2) + c) (n % 2)) (((s.tile k).lane (8 * (n / 2) + c)).phase / 4096) else 0)))
              (s.effReg DRV_SLEW_N_STEP k) (s.effReg DRV_SLEW_N_RATE k) 24 else 0)))

/-- A column of a tile at its current limit outside reset shows in ILIM_NOW, is counted in that column's counter and begins the tile's
drive-fault condition with INFO naming the column; a bias at its limit begins the tile's sense-fault condition with no column and holds
the bias at a level that the spec does not give (a free value, log 103); the end of either clears its mark, and the bias is back at
1,800 mV. A write of DRV_SPAN with allowed spans of which one differs from the live one stores them, sets SPAN_BUSY and SPAN_WAIT
(whether a transaction frozen, armed or bursting in the tile is to be waited for) and starts the sequence; the same write while busy is
a bad write that changes nothing. When the dwell has run out the stored spans become live. -/
def Obligations.DriveFaultsAndSpans : Prop :=
  ∀ (s : State) (k : Nat), k < 96 →
    (∀ c, c < 8 → s.pins.porstN = true → s.pins.resetN = true →
      let u := s.setReg DRV_STATUS_ILIM_NOW k (withBit (s.reg DRV_STATUS_ILIM_NOW k) c false)
      exec (.columnCurrentLimit k c true) s =
        .next (if u.reg DRV_STATUS_ILIM_NOW k = 0 ∧ u.reg DRV_STATUS_DRV_FAULT k = 0 then u.setCause (srcTile k 1) false else u)) ∧
    (∀ c ctr, [DRV_ILIM0_C0, DRV_ILIM0_C1, DRV_ILIM0_C2, DRV_ILIM0_C3, DRV_ILIM1_C4, DRV_ILIM1_C5, DRV_ILIM1_C6, DRV_ILIM1_C7][c]? = some ctr →
      s.pins.porstN = true → s.pins.resetN = true → exec (.columnCurrentLimit k c false) s =
        .next (((s.setReg DRV_STATUS_ILIM_NOW k (withBit (s.reg DRV_STATUS_ILIM_NOW k) c true)).inc ctr k).raiseCond (srcTile k 1) (k + 256 * c))) ∧
    (s.pins.porstN = true → s.pins.resetN = true → exec (.frfBiasLimit k false) s =
      .next (((s.takeFree 11).2.modTile k (fun tl => { tl with frfLimit := true, frfMv := (s.takeFree 11).1 })).raiseCond (srcTile k 2) (k + 256 * 0xFF))) ∧
    (s.pins.porstN = true → s.pins.resetN = true → exec (.frfBiasLimit k true) s =
      .next ((s.modTile k (fun tl => { tl with frfLimit := false, frfMv := 1800 })).senseCause k)) ∧
    (∀ d p q, s.windowOpen = true → s.fab.desc = some d → s.flag DRV_SPAN_SPAN_BUSY k = false → p ≤ 2 → q ≤ 2 → p ≤ d.maxSpanPri → q ≤ d.maxSpanTrim →
      (p ≠ s.reg DRV_SPAN_LIVE_PRI k ∨ q ≠ s.reg DRV_SPAN_LIVE_TRIM k) → ∃ t, exec (.spanChange k (p + 4 * q)) s = .next t ∧
        t.reg DRV_SPAN_SPAN_PRI k = p ∧ t.reg DRV_SPAN_SPAN_TRIM k = q ∧ t.reg DRV_SPAN_SPAN_BUSY k = 1 ∧
        t.reg DRV_SPAN_SPAN_WAIT k = b2n ({ s.tile k with spanFor := (s.tile k).spanHandles } : Tile).spanMustWait ∧
        t.reg DRV_SPAN_LIVE_PRI k = s.reg DRV_SPAN_LIVE_PRI k ∧ t.reg DRV_SPAN_LIVE_TRIM k = s.reg DRV_SPAN_LIVE_TRIM k ∧
        t.tile k = { s.tile k with span := .waiting, spanFor := (s.tile k).spanHandles } ∧ (∀ j, j ≠ k → t.tile j = s.tile j) ∧
        (∀ o, o ≠ DRV_SPAN_SPAN_PRI.offAt k → t.word o = s.word o) ∧ t = { s with regs := t.regs, tiles := t.tiles }) ∧
    (∀ v, s.windowOpen = true → s.flag DRV_SPAN_SPAN_BUSY k = true →
      exec (.spanChange k v) s = .next (s.raise 864 (DRV_SPAN_SPAN_PRI.offAt k))) ∧
    ((s.tile k).span = .dwell 0 → exec (.parkDwellEnd k) s = .next
      (((s.setReg DRV_SPAN_LIVE_PRI k (s.reg DRV_SPAN_SPAN_PRI k)).setReg DRV_SPAN_LIVE_TRIM k (s.reg DRV_SPAN_SPAN_TRIM k)).modTile k
        (fun tl => { tl with span := .live })))

/-- When STEEP_DWELL ends in a tile whose sequencer runs the steep burst of pending bank b or dwells after it, the target burst of that
bank begins one burst length before the bank's last tick, time having reached it: while the domain is owned and the tree clock runs, the
lines present the bank's addresses in their order with the target code of each node, or its present code, and the slew limiter of burst
slots, and strobe where the tile drives; in a domain that is not owned the lines stand. In a tile whose QUENCH bursts run and whose
second burst is due, that burst presents all 32 addresses with the park code of each node, 1,024 ticks before its end. When a clear's
park burst ends with no release of ownership waiting, the tile idles until the next marker and DRV_STATUS.BURST is clear, time having
reached the burst's end. Nothing else changes. -/
def Obligations.BurstsOfACommitEnd : Prop :=
  ∀ (s : State) (k : Nat), k < 96 →
    (∀ b, (s.tile k).seq = .steep b ∨ (s.tile k).seq = .dwell b → ∃ t, exec (.steepDwellEnd k) s = .next t ∧
      let p := (s.tile k).pend b
      let start := p.endAt - 32 * p.addrs.length
      t.dt = max s.dt start ∧ t = { s with dt := t.dt, tick := t.tick, tiles := t.tiles } ∧ (∀ j, j ≠ k → t.tile j = s.tile j) ∧
      (s.ownsTile k = false → t.tile k = { s.tile k with seq := .target b }) ∧
      (s.ownsTile k = true → s.fab.treeLost = false → s.parkRuns k = false → p.addrs ≠ [] → (t.tile k).fra = p.addrs.getLastD 0 ∧
        t.tile k = ({ s.tile k with seq := .target b } : Tile).startRun {
          burst := true, start := start, addrs := p.addrs
          codes := p.addrs.flatMap (fun a => (List.range 8).map (fun c => burstCode (s.tile k) p.target (2 * (8 * (a / 2) + c) + a % 2)))
          base := colTab (fun c => (s.tile k).fcdBefore c start), step := s.effReg DRV_SLEW_B_STEP k, rate := s.effReg DRV_SLEW_B_RATE k
          strobe := s.drives k })) ∧
    (∀ r, (s.tile k).seq = .quench → (s.tile k).run = some r → r.start < (s.tile k).burstEnd - 1024 → s.ownsTile k = true → s.fab.treeLost = false →
      s.parkRuns k = false → ∃ t, exec (.steepDwellEnd k) s = .next t ∧
      let start := (s.tile k).burstEnd - 1024
      t.dt = max s.dt start ∧ t = { s with dt := t.dt, tick := t.tick, tiles := t.tiles } ∧ (∀ j, j ≠ k → t.tile j = s.tile j) ∧
      t.tile k = (s.tile k).startRun {
          burst := true, start := start, addrs := List.range 32
          codes := (List.range 32).flatMap (fun a => (List.range 8).map (fun c =>
            s.parkOf k ((2 * (8 * (a / 2) + c) + a % 2) / 2) ((2 * (8 * (a / 2) + c) + a % 2) % 2)))
          base := colTab (fun c => (s.tile k).fcdBefore c start), step := s.effReg DRV_SLEW_B_STEP k, rate := s.effReg DRV_SLEW_B_RATE k
          strobe := s.drives k }) ∧
    ((s.tile k).seq = .clear → s.fab.releasing = 0 → ∃ t, exec (.clearBurstEnd k) s = .next t ∧ t.dt = max s.dt (s.tile k).burstEnd ∧
      t = { s with dt := t.dt, tick := t.tick, tiles := t.tiles, regs := t.regs } ∧
      t.tile k = { s.tile k with seq := .idle } ∧ (∀ j, j ≠ k → t.tile j = s.tile j) ∧ t.reg DRV_STATUS_BURST k = 0 ∧
      (∀ o, o ≠ DRV_STATUS_BURST.offAt k → t.word o = s.word o))

/-- The filtered fall of FABRIC_CLR_N sets DRV_STATUS.CLR in every tile and begins condition 792. Outside reset every owned tile's
sequencer runs the clear's burst from the first tick at which its strobe is low, with PARK_HOLD and BURST set and its lanes held; its
verifications and its lanes in BURST are marked by the clear; while the tree clock runs the lines present all 32 addresses with the park
code of each node, after the strobe pulse in progress has ended at its address; a tile that is not owned keeps its sequencer and lines.
QUENCH_BUSY then tells whether a QUENCH burst is left. Under reset no tile changes (the park sequencer writes). The filtered rise clears
CLR in every tile and ends the condition; the lanes' hold lasts until a marker. -/
def Obligations.FabricClearParksOwnedTiles : Prop :=
  ∀ s : State,
    (s.pins.porstN = true → s.pins.resetN = true → s.fab.clrN = true → ∃ t, exec .fabricClrAssert s = .next t ∧ t.fab = { s.fab with clrN := false } ∧
      t.cause 792 = true ∧ t.flt = { s.flt with raises := s.flt.raises ++ [{ src := 792 }] } ∧
      t = { s with regs := t.regs, tiles := t.tiles, fab := t.fab, flt := t.flt } ∧
      t.reg TXN_STATUS_QUENCH_BUSY = b2n (allTiles.any (fun k => decide ((t.tile k).seq = .quench))) ∧
      ∀ k, k < 96 → t.reg DRV_STATUS_CLR k = 1 ∧
        (s.ownsTile k = false → t.tile k = s.tile k) ∧
        (s.ownsTile k = true → let start := (s.tile k).strobeFree s.dt
          (t.tile k).seq = .clear ∧ (t.tile k).clr = true ∧ (t.tile k).burstEnd = start + 1024 ∧
          t.reg DRV_STATUS_PARK_HOLD k = 1 ∧ t.reg DRV_STATUS_BURST k = 1 ∧
          (∀ v ∈ (t.tile k).vers, v.cleared = true) ∧ (∀ e, e < 128 → ((s.tile k).lane e).mode = .burst → ((t.tile k).lane e).cleared = true) ∧
          (s.fab.treeLost = false → s.parkRuns k = false → (t.tile k).fra = 31 ∧
            (∀ n, s.dt ≤ n → n < start → (t.tile k).frsAt n = true ∧ (t.tile k).fraAt n = (s.tile k).fraAt s.dt) ∧ (t.tile k).run = some {
            burst := true, start := start, addrs := List.range 32
            codes := (List.range 32).flatMap (fun a => (List.range 8).map (fun c =>
              s.parkOf k ((2 * (8 * (a / 2) + c) + a % 2) / 2) ((2 * (8 * (a / 2) + c) + a % 2) % 2)))
            base := colTab (fun c => (s.tile k).fcdBefore c start), step := s.effReg DRV_SLEW_B_STEP k, rate := s.effReg DRV_SLEW_B_RATE k
            strobe := s.drives k, cut := if s.dt < start then some ((s.tile k).fraAt s.dt) else none }))) ∧
    (s.pins.porstN = false ∨ s.pins.resetN = false → s.fab.clrN = true → ∃ t, exec .fabricClrAssert s = .next t ∧
      t.fab = { s.fab with clrN := false } ∧ t.tiles = s.tiles ∧ t.cause 792 = true ∧ ∀ k, k < 96 → t.reg DRV_STATUS_CLR k = 1) ∧
    (s.fab.clrN = false → ∃ t, exec .fabricClrRelease s = .next t ∧ t.fab = { s.fab with clrN := true } ∧ t.cause 792 = false ∧
      t = { s with regs := t.regs, fab := t.fab } ∧ ∀ k, k < 96 → t.reg DRV_STATUS_CLR k = 0 ∧ t.reg DRV_STATUS_PARK_HOLD k = s.reg DRV_STATUS_PARK_HOLD k)

/-- A re-read requested while any OWN_D is asserted changes only REREAD_IGN and its own request bit; with none asserted (window open,
CONFIG reached, no read in progress) it starts a read and keeps the descriptor. However a block of a read ends it, either the new
descriptor passed every check and is the one in force with DESC_ERR 0, or the earlier one stays in force and DESC_ERR is not 0. While a
descriptor is being read: a good block that leaves the header incomplete only joins the bytes read, with the retry count back at 0; a
failed block counts one more retry up to three and then refuses the descriptor with DESC_ERR 1; a header whose check fails refuses it
with that check's code. A refusal ends the read, raises and holds condition 930, and keeps the descriptor in force. A complete
descriptor that passes every check ends the read and is the one in force, with DESC_VALID, DESC_ERR 0, its header CRC in DESC_CRC and
its park voltages loaded, and every domain without a populated tile or marked by the tree calibration is UNAVAILABLE; a descriptor
accepted over an earlier one drops every plan and edit. -/
def Obligations.DescriptorReadChecksAndAccepts : Prop :=
  (∀ s : State, s.windowOpen = true →
    (s.reg KFI_STATUS_OWN ≠ 0 → exec .descReread s = .next ((s.setFlag KFI_CTRL_DESC_REREAD 0 false).inc KFI_STATUS_REREAD_IGN)) ∧
    (s.reg KFI_STATUS_OWN = 0 → s.fab.rd = none → 3 ≤ s.startup → ∃ t : State, exec .descReread s = .next t ∧ t.fab = { s.fab with rd := some {} } ∧
      t.flag KFI_STATUS_READING = true ∧ t = { s with fab := t.fab, regs := t.regs })) ∧
  (∀ (s : State) (r : DescRead) (b : List Byte), s.fab.rd = some r → s.pins.porstN = true → s.pins.resetN = true →
    (∀ ok, ∃ t : State, exec (.descriptorBlockDone b ok) s = .next t ∧ (t.fab.rd.isSome = true → t.fab.desc = s.fab.desc) ∧
      (t.fab.rd = none → let d := r.bytes ++ b.take 256; let n := if le32 d 0x148 = 0 then 512 else 49668
        (t.fab.desc = s.fab.desc ∧ t.reg KFI_STATUS_DESC_ERR ≠ 0) ∨
        (ok = true ∧ n ≤ d.length ∧ headerErr d = 0 ∧ descErr (d.take n) = 0 ∧ t.fab.desc = some (Desc.ofBytes (d.take n)) ∧
          t.reg KFI_STATUS_DESC_ERR = 0))) ∧
    ((r.bytes ++ b.take 256).length < 512 → exec (.descriptorBlockDone b true) s =
      .next { s with fab := { s.fab with rd := some { bytes := r.bytes ++ b.take 256, retries := 0 } } }) ∧
    (r.retries < 3 → exec (.descriptorBlockDone b false) s = .next { s with fab := { s.fab with rd := some { r with retries := r.retries + 1 } } }) ∧
    (∀ ok e, (ok = false ∧ 3 ≤ r.retries ∧ e = 1) ∨ (ok = true ∧ 512 ≤ (r.bytes ++ b.take 256).length ∧ e = headerErr (r.bytes ++ b.take 256) ∧ e ≠ 0) →
      ∃ t, exec (.descriptorBlockDone b ok) s = .next t ∧ t.reg KFI_STATUS_DESC_ERR = e ∧ t.reg KFI_STATUS_READING = 0 ∧
        t.reg KFI_CTRL_DESC_REREAD = 0 ∧ t.cause 930 = true ∧ t.fab = { s.fab with rd := none } ∧
        t = { s with regs := t.regs, fab := t.fab, flt := { s.flt with raises := s.flt.raises ++ [{ src := 930 }] } }) ∧
    (512 ≤ (r.bytes ++ b.take 256).length → headerErr (r.bytes ++ b.take 256) = 0 → le32 (r.bytes ++ b.take 256) 0x148 = 0 →
      descErr ((r.bytes ++ b.take 256).take 512) = 0 → s.startup = 3 → s.btu.row = 2 →
      ∃ t, exec (.descriptorBlockDone b true) s = .next t ∧ t.reg KFI_STATUS_DESC_VALID = 1 ∧ t.reg KFI_STATUS_DESC_ERR = 0 ∧
        t.reg KFI_STATUS_READING = 0 ∧ t.reg KFI_STATUS_PARK_TABLE = 0 ∧ t.reg KFI_DESC_CRC_CRC = le32 (r.bytes ++ b.take 256) 0x1FC ∧
        t.fab.desc = some (Desc.ofBytes ((r.bytes ++ b.take 256).take 512)) ∧ t.fab.rd = none ∧ t.cause 930 = false ∧
        t.fab.parkDef = (le16 (r.bytes ++ b.take 256) 0x10A, le16 (r.bytes ++ b.take 256) 0x10C) ∧
        (∀ d, d < 8 → t.domPop d = false ∨ bit s.tmu.bad d = true → t.domState d = 4) ∧
        t.txn = (if s.fab.desc.isSome then { s.txn with plans := [], edits := [] } else s.txn) ∧ t.tiles = s.tiles))

/-- A bus clear during a read with fewer than three retries counts one retry. DESC_REREAD with no OWN_D asserted, no read in progress
and CONFIG reached starts a read (READING and DESC_REREAD read 1); with some OWN_D asserted it only counts REREAD_IGN; with none
asserted in RECOVERY it is dropped (the model's choice, log 123). A change of OWNX_D shows in KFI_STATUS; outside reset its fall notes
the instant and ends the domain's conflict, and its rise notes the instant and withdraws the twin's announced release; at a standby in
RUN that has lost the twin's heartbeats the rise begins the split-brain guard's condition, which is counted once in an episode. OWN_D
and OWNX_D asserted together for 1.0 microsecond begin the domain's conflict condition with INFO naming its first tile; the port-S
device also releases the domain. -/
def Obligations.FabricBusAndOwnershipLines : Prop :=
  ∀ (s : State),
    (∀ r, s.fab.rd = some r → r.retries < 3 → exec .fdiBusClear s = .next { s with fab := { s.fab with rd := some { r with retries := r.retries + 1 } } }) ∧
    (s.windowOpen = true → s.reg KFI_STATUS_OWN = 0 → s.fab.rd = none → 3 ≤ s.startup → exec .descReread s =
      .next ((({ s with fab := { s.fab with rd := some {} } }).setFlag KFI_STATUS_READING 0 true).setFlag KFI_CTRL_DESC_REREAD 0 true)) ∧
    (s.windowOpen = true → s.reg KFI_STATUS_OWN ≠ 0 → exec .descReread s =
      .next ((s.setFlag KFI_CTRL_DESC_REREAD 0 false).inc KFI_STATUS_REREAD_IGN)) ∧
    (s.windowOpen = true → s.reg KFI_STATUS_OWN = 0 → s.fab.rd = none → s.startup = 2 → exec .descReread s =
      .next (s.setFlag KFI_CTRL_DESC_REREAD 0 false)) ∧
    (∀ d b, d < 8 → s.pins.porstN = false ∨ s.pins.resetN = false → ∃ t, exec (.ownxChange d b) s = .next t ∧ t.ownx d = b ∧
      t = { s with regs := t.regs, fab := t.fab }) ∧
    (∀ d, d < 8 → s.ownx d = true → s.pins.porstN = true → s.pins.resetN = true → s.startup = 3 → ∃ t, exec (.ownxChange d false) s = .next t ∧
      t.ownx d = false ∧ (∀ e, e < 8 → e ≠ d → t.ownx e = s.ownx e) ∧ t.cause (srcDom d 0) = false ∧
      t.fab = { s.fab with ownxRaw := withBit s.fab.ownxRaw d false, ownxFell := s.fab.ownxFell.write 0 d (s.dt + 1) } ∧
      t = { s with regs := t.regs, fab := t.fab }) ∧
    (∀ d, d < 8 → s.ownx d = false → s.pins.porstN = true → s.pins.resetN = true → s.twn.deciding = none → s.twn.switch = none → s.twn.lost = false →
      ∃ t, exec (.ownxChange d true) s = .next t ∧ t.ownx d = true ∧ (∀ e, e < 8 → e ≠ d → t.ownx e = s.ownx e) ∧
      t = { s with regs := t.regs, fab := { s.fab with ownxRaw := withBit s.fab.ownxRaw d true, ownxRose := s.fab.ownxRose.write 0 d s.dt },
                   twn := { s.twn with released := withBit s.twn.released d false } }) ∧
    (∀ d, d < 8 → s.ownx d = false → s.running = true → s.role = roleStandby → s.twn.lost = true → s.twn.guarded = false → s.twn.deciding = none →
      s.twn.switch = none → ∃ t, exec (.ownxChange d true) s = .next t ∧ t.ownx d = true ∧ t.twn.guarded = true ∧ t.cause 748 = true ∧
      t.reg TWN_CNT3_GUARD = min (2 ^ TWN_CNT3_GUARD.wd - 1) (s.reg TWN_CNT3_GUARD + 1) ∧
      t.flt = { s.flt with raises := s.flt.raises ++ [{ src := 748 }] }) ∧
    (∀ d, d < 8 → s.pins.porstN = true → s.pins.resetN = true → s.owns d = true → s.ownx d = true →
      let u := (s.advanceTo (max (s.fab.ownAt.read 0 d) (s.fab.ownxRose.read 0 d) + 1280)).raiseCond (srcDom d 0) (12 * d + 256 * 0xFF)
      exec (.ownershipConflict d) s = .next (if s.flag KFI_STATUS_PORT_STRAP then u.releaseOwn d else u))

/-- Outside reset the record of tile k, slot n and line c replaces the last one of that slot and line, which is kept for a late row
unless it is of the same frame. It belongs to the present frame, or to the frame before when its slot has not begun in the present one,
and carries the range, the firefly index and the dither that its slot held from its start. Its REASON is 5 for a line found open, else 4
for a line no slice serves, else what the slot sequencer noted. A record with a REASON carries no values and changes nothing else. A
valid record carries N = (code - 512) x 4^(3 - range) for both samples, the over-range flag for a code of 16,320 or more or a reported
saturation, and the under-range flag for a code of 64 or less; the line's counters rise by its over- and under-range samples; the tap's
fault run grows by one when the record is flagged (over-range at the coarsest range, or under-range) and restarts otherwise. Other tiles
stand. -/
def Obligations.SampleRecordIsFormedAndAccumulated : Prop :=
  ∀ (s : State) (k n c a b : Nat) (sa sb : Bool), s.pins.porstN = true → s.pins.resetN = true → k < 96 → n < 32 → c < 8 → a < 16384 → b < 16384 →
    ∃ t, exec (.sampleRecord k n c a b sa sb) s = .next t ∧ (∀ j, j ≠ k → t.tile j = s.tile j) ∧
      t = { s with regs := t.regs, tiles := t.tiles, flt := t.flt } ∧
      let q := if bit (s.reg SNS_STATUS_LINE_OPEN k) c then 5 else if bit (s.reg SNS_STATUS_UNSERVED k) c then 4 else (s.tile k).slotSt.read 2 n
      let h : Latch := (s.tile k).latch.read {} (2 * (8 * (n / 2) + c) + n % 2)
      let old := (s.tile k).record n c
      let r := (t.tile k).record n c
      r.reason = q ∧ r.range = h.range ∧ r.idx = h.idx ∧ r.dith = h.dith ∧
      r.frame = (if (s.tile k).begun ≤ n then (s.tile k).frame - 1 else (s.tile k).frame) ∧
      (old.frame ≠ r.frame → (t.tile k).recsLast.read {} (8 * n + c) = old) ∧
      (q ≠ 0 → t.regs = s.regs ∧ t.flt = s.flt ∧ t.tile k = { s.tile k with recs := (t.tile k).recs, recsLast := (t.tile k).recsLast } ∧
        r.n1 = 0 ∧ r.n2 = 0) ∧
      (q = 0 → r.n1 = ((a : Int) - 512) * (4 ^ (3 - h.range) : Nat) ∧ r.n2 = ((b : Int) - 512) * (4 ^ (3 - h.range) : Nat) ∧
        r.ovr1 = (decide (16320 ≤ a) || sa) ∧ r.ovr2 = (decide (16320 ≤ b) || sb) ∧ r.unr1 = decide (a ≤ 64) ∧ r.unr2 = decide (b ≤ 64) ∧
        t.reg (ovrCtr c) k = min (2 ^ (ovrCtr c).wd - 1) (s.reg (ovrCtr c) k + b2n r.ovr1 + b2n r.ovr2) ∧
        t.reg (unrCtr c) k = min (2 ^ (unrCtr c).wd - 1) (s.reg (unrCtr c) k + b2n r.unr1 + b2n r.unr2) ∧
        ((t.tile k).tap (8 * (n / 2) + c) (n % 2)).run =
          if ((r.ovr1 || r.ovr2) && decide (r.range = 0)) || r.unr1 || r.unr2 then ((s.tile k).tap (8 * (n / 2) + c) (n % 2)).run + 1 else 0)

/-- Outside reset and with automatic ranging, a tap below range 3 whose fine counter has reached FINE_FRAMES takes one step finer with
the counter at 0; the change is counted for the tile and the element. A tap not yet in an episode whose fault run has reached
FAULT_FRAMES begins one: FAULT_NOW is recomputed and the tile's sense-fault condition begins with INFO naming its column. A lane in HOLD
without the flag, one of whose drift runs has reached DRIFT_CNT, has its drift flag set, and raises the tile's hold event unless this
hold has raised it already. -/
def Obligations.TapConditionsRaiseOnce : Prop :=
  ∀ (s : State) (k e x : Nat), s.pins.porstN = true → s.pins.resetN = true → k < 96 → e < 128 → x < 2 →
    (s.effReg SNS_CTRL_RANGE_MODE k ≠ 1 → ((s.tile k).tap e x).range < 3 → s.effReg SNS_CTRL_FINE_FRAMES k ≤ ((s.tile k).tap e x).fine →
      exec (.rangeFiner k e x) s = .next ((s.modTile k (fun tl =>
        (tl.setTap e x { tl.tap e x with range := (tl.tap e x).range + 1, fine := 0 }).modLane e (fun l => { l with rchg := min 255 (l.rchg + 1) }))).inc
          SNS_EVENTS_RANGE_CHG k)) ∧
    (((s.tile k).tap e x).episode = false → s.effReg SNS_CTRL_FAULT_FRAMES k ≤ ((s.tile k).tap e x).run →
      exec (.senseFaultRun k e x) s = .next (((s.modTile k (fun tl => tl.setTap e x { tl.tap e x with episode := true })).refreshFaultNow k).raiseCond
        (srcTile k 2) (k + 256 * (e % 8)))) ∧
    (((s.tile k).lane e).mode = .hold → ((s.tile k).lane e).drift = false → s.effReg SNS_DRIFT_DRIFT_CNT k ≤ ((s.tile k).tap e x).driftRun →
      exec (.driftFlag k e) s = .next (
        let u := s.modTile k (fun tl => tl.setLane e { tl.lane e with drift := true, driftEp := true, driftRaised := true })
        if ((s.tile k).lane e).driftRaised then u else u.raise (srcTile k 4) (k + 256 * (e % 8))))

/-- Outside reset, each tile whose epoch has lasted 256 frames freezes, for every element, the sense entry of its taps (sums, counts,
flags, ranges) and the loop entry of its lane with the slope updated by R148, counts one epoch, and starts the next with its sums,
counts and range flags at 0; every other tile, every register and everything else stands. -/
def Obligations.EpochEndFreezesTheTelemetry : Prop :=
  ∀ s : State, s.pins.porstN = true → s.pins.resetN = true → ∃ t, exec .epochEnd s = .next t ∧ t = { s with tiles := t.tiles } ∧
    ∀ k, k < 96 → ((s.tile k).epoch < 256 → t.tile k = s.tile k) ∧
      (256 ≤ (s.tile k).epoch → (t.tile k).epoch = 0 ∧ (t.tile k).epochs = (s.tile k).epochs + 1 ∧
        ∀ e, e < 128 → (t.tile k).senseTel.read {} e = (s.tile k).senseEntry e ∧
          (t.tile k).loopTel.read {} e =
            (((s.tile k).lane e).slopeUpdate (decide (s.toneAmp k e 0 ≠ 0) || decide (s.toneAmp k e 1 ≠ 0))).loopEntry ∧
          ∀ x, x < 2 → (t.tile k).tap e x = { (s.tile k).tap e x with sum := 0, cnt := 0, ovr := 0, unr := false })

/-- Outside reset with rotation enabled: at the end of a 250 ms period of a tile in overlap, whichever slice e of 0 to 8 is the spare,
the period restarts, OVERLAP clears and the spare calibrates again. With fewer than 2,048 usable pairs that is all (postponed). With the
mean difference within SCARAB_TOL sixteenths the step is made: the spare becomes e + 1 at slice 0 or with DIR 1 below slice 8 and e - 1
otherwise, DIR is 1 from slice 0 on and until slice 8 is reached, SWAPS counts, the refusals restart, and the tile's sense trims are
those of a new calibration (a free value, log 150). Otherwise SWAP_REFUSED counts; a first refusal does no more, and a second in a row
fails the spare: FAILED marks it, the rotation stops and the tile's sense-calibration condition begins. A calibration that ends well
makes the spare ready and one that does not fails it in the same way. A ready spare overlaps from 65 frames before the end of the period
on, and OVERLAP shows it. -/
def Obligations.ScarabRotationSteps : Prop :=
  ∀ (s : State) (k : Nat), s.pins.porstN = true → s.pins.resetN = true → k < 96 →
    (∀ pairs sum e, s.effReg SNS_CTRL_SCARAB_EN k = 1 → (s.tile k).scarab = .overlap → 100000 ≤ (s.tile k).period → s.reg SNS_SCARAB_SPARE k = e → e ≤ 8 →
      let u := (s.setFlag SNS_SCARAB_OVERLAP k false).setTile k { s.tile k with scarab := .calibrating, period := 0 }
      (pairs < 2048 → exec (.scarabStep k pairs sum) s = .next u) ∧
      (2048 ≤ pairs → 16 * sum.natAbs ≤ u.reg SNS_SCARAB_SCARAB_TOL k * pairs → ∃ t, exec (.scarabStep k pairs sum) s = .next t ∧
        (let up := decide (e = 0) || (decide (e < 8) && s.flag SNS_SCARAB_DIR k)
         t.reg SNS_SCARAB_SPARE k = (if up then e + 1 else e - 1) ∧
         t.reg SNS_SCARAB_DIR k = b2n (decide (t.reg SNS_SCARAB_SPARE k = 0) || (up && decide (t.reg SNS_SCARAB_SPARE k < 8)))) ∧
        t.reg SNS_SCARAB_OVERLAP k = 0 ∧
        t.reg SNS_EVENTS_SWAPS k = min (2 ^ SNS_EVENTS_SWAPS.wd - 1) (s.reg SNS_EVENTS_SWAPS k + 1) ∧
        t.tile k = { s.tile k with scarab := .calibrating, period := 0, refusals := 0 } ∧ (∀ j, j ≠ k → t.tile j = s.tile j) ∧
        t = { s with regs := t.regs, tiles := t.tiles, free := s.free + 1, btu := { s.btu with senseCal := s.btu.senseCal.write none k (some s.free) } }) ∧
      (2048 ≤ pairs → u.reg SNS_SCARAB_SCARAB_TOL k * pairs < 16 * sum.natAbs →
        let w := (u.inc SNS_EVENTS_SWAP_REFUSED k).setTile k { s.tile k with scarab := .calibrating, period := 0, refusals := (s.tile k).refusals + 1 }
        ((s.tile k).refusals = 0 → exec (.scarabStep k pairs sum) s = .next w) ∧
        ((s.tile k).refusals ≠ 0 → exec (.scarabStep k pairs sum) s = .next (w.sliceFailed k e)))) ∧
    ((s.tile k).scarab = .calibrating → exec (.scarabCalDone k true) s = .next (s.setTile k { s.tile k with scarab := .ready })) ∧
    ((s.tile k).scarab = .calibrating → exec (.scarabCalDone k false) s = .next (s.sliceFailed k (s.reg SNS_SCARAB_SPARE k))) ∧
    (∀ e, e ≤ 8 → bit ((s.sliceFailed k e).reg SNS_SCARAB_FAILED k) e = true ∧ (s.sliceFailed k e).reg SNS_SCARAB_OVERLAP k = 0 ∧
      (s.sliceFailed k e).tile k = { s.tile k with scarab := .stopped } ∧ (s.sliceFailed k e).cause (srcTile k 3) = true ∧
      (s.sliceFailed k e).flt = { s.flt with raises := s.flt.raises ++ [{ src := srcTile k 3, info := k + 256 * 0xFF }] } ∧
      s.sliceFailed k e = { s with regs := (s.sliceFailed k e).regs, tiles := (s.sliceFailed k e).tiles, flt := (s.sliceFailed k e).flt }) ∧
    (s.effReg SNS_CTRL_SCARAB_EN k = 1 → (s.tile k).scarab = .ready → 99935 ≤ (s.tile k).period →
      exec (.scarabOverlapStart k) s = .next ((s.setTile k { s.tile k with scarab := .overlap }).setFlag SNS_SCARAB_OVERLAP k true))

/-- In CONFIG, the end of a tile's start-up calibration marks the slices that failed, leaves slice 8 spare, marks as unserved the lines
whose front end failed and those of the failed slices, stores the lines found open, sets CAL_DONE and takes the calibration's trims (a
free value, log 150); with no failed slice the rotation begins with a calibration, else it does not start. With a failed slice or front
end the tile's sense-calibration condition begins, with an unserved or open line its sense-fault condition, and without either no raise
is made. A line check in a tile that is not owned sets LINE_CHECK and CHECK_BUSY, and is a bad write in an owned one. The check's end
clears both and stores the lines found open, with the tile's sense-fault condition when there is one, and with that condition recomputed
when there is none. -/
def Obligations.StartUpCalibrationAndLineChecks : Prop :=
  ∀ (s : State) (k : Nat), k < 96 →
    (∀ sl ln op, s.pins.porstN = true → s.pins.resetN = true → s.startup = 3 → sl < 512 → ln < 256 → op < 256 →
      ∃ t, exec (.senseStartupCalDone k sl ln op) s = .next t ∧
      t.reg SNS_SCARAB_SPARE k = 8 ∧ t.reg SNS_SCARAB_FAILED k = sl ∧ t.reg SNS_STATUS_LINE_OPEN k = op ∧ t.reg SNS_STATUS_CAL_DONE k = 1 ∧
      (∀ c, c < 8 → bit (t.reg SNS_STATUS_UNSERVED k) c = (bit ln c || bit sl c)) ∧
      t.tile k = { s.tile k with lineUnserved := ln, scarab := if sl = 0 then .calibrating else .stopped, period := 0, refusals := 0 } ∧
      (sl ≠ 0 ∨ ln ≠ 0 → t.cause (srcTile k 3) = true) ∧ (t.reg SNS_STATUS_UNSERVED k ≠ 0 ∨ op ≠ 0 → t.cause (srcTile k 2) = true) ∧
      (sl = 0 → ln = 0 → op = 0 → t.flt = s.flt) ∧
      (∀ j, j ≠ k → t.tile j = s.tile j) ∧ t = { s with regs := t.regs, tiles := t.tiles, flt := t.flt, free := s.free + 1,
                                                            btu := { s.btu with senseCal := s.btu.senseCal.write none k (some s.free) } }) ∧
    (s.windowOpen = true → s.ownsTile k = false → exec (.lineCheck k) s =
      .next ((s.setFlag SNS_CTRL_LINE_CHECK k true).setFlag SNS_STATUS_CHECK_BUSY k true)) ∧
    (s.windowOpen = true → s.ownsTile k = true → exec (.lineCheck k) s = .next (s.raise 864 (SNS_CTRL_LINE_CHECK.offAt k))) ∧
    (∀ m, s.pins.porstN = true → s.pins.resetN = true → s.flag SNS_STATUS_CHECK_BUSY k = true → m < 256 →
      let u := ((s.setFlag SNS_CTRL_LINE_CHECK k false).setFlag SNS_STATUS_CHECK_BUSY k false).setReg SNS_STATUS_LINE_OPEN k m
      exec (.lineCheckDone k m) s = .next (if m = 0 then u.senseCause k else u.raiseCond (srcTile k 2) (infoTile k (bitsOf 8 m).head?)))

/-- Outside reset, for a tile whose engine runs and a row whose records of the present frame are in, not yet computed and next in their
order, LOOP_ROW_UPDATE notes that the engine has handed over a row, marks the row placed for the next frame, and places for each enabled
lane of the row the codes that the lane's update gives (u_a in PARK, the held codes in HOLD), computed once for that frame; the codes of
a lane that is not enabled stand, as do the current bank, the lanes and codes of every other row, every other tile, and the
transactions, ownership and time. A row whose records are of the frame just ended (row 15's come after the marker) is computed for that
frame: while its first slot of the present frame has not begun its codes go into the current bank and the row is marked placed for the
present frame, and the next bank stands; after that both banks and both marks stand; either way its lanes keep the mode that they have.
A row whose records are not in or not the next in their order changes nothing. -/
def Obligations.RowUpdatePlacesTheNextCodes : Prop :=
  ∀ (s : State) (k r : Nat), s.pins.porstN = true → s.pins.resetN = true → k < 96 → r < 16 → s.engineRuns k = true →
    ((s.tile k).rowNext r = false → exec (.loopRowUpdate k r) s = .next s) ∧
    ((s.tile k).rowFrame r = (s.tile k).frame → (s.tile k).rowNext r = true → ∃ t, exec (.loopRowUpdate k r) s = .next t ∧
      t = { s with regs := t.regs, tiles := t.tiles, flt := t.flt } ∧ (∀ j, j ≠ k → t.tile j = s.tile j) ∧
      (t.tile k).handed = true ∧ r ∈ (t.tile k).placedNxt ∧ (t.tile k).cur = (s.tile k).cur ∧
      ∀ e, e < 128 →
        (rowOf e = r → ((s.tile k).cfg e).loopEn = true →
          bankCode (t.tile k).nxt e 0 = (s.updateLane k e (s.tile k).frame (s.tile k)).codeP ∧
          bankCode (t.tile k).nxt e 1 = (s.updateLane k e (s.tile k).frame (s.tile k)).codeT ∧
          (((s.tile k).lane e).mode = .park → bankCode (t.tile k).nxt e 0 = ((s.tile k).lane e).uaP) ∧
          (((s.tile k).lane e).mode = .hold → bankCode (t.tile k).nxt e 1 = ((s.tile k).lane e).heldT) ∧
          ((t.tile k).lane e).upd = (s.tile k).frame + 1) ∧
        (rowOf e = r → ((s.tile k).cfg e).loopEn = false → (t.tile k).lane e = (s.tile k).lane e ∧
          ∀ x, x < 2 → bankCode (t.tile k).nxt e x = bankCode (s.tile k).nxt e x) ∧
        (rowOf e ≠ r → (t.tile k).lane e = (s.tile k).lane e ∧ ∀ x, x < 2 → bankCode (t.tile k).nxt e x = bankCode (s.tile k).nxt e x)) ∧
    (∀ f, (s.tile k).rowFrame r = f → f + 1 = (s.tile k).frame → (s.tile k).rowNext r = true → ∃ t, exec (.loopRowUpdate k r) s = .next t ∧
      t = { s with regs := t.regs, tiles := t.tiles, flt := t.flt } ∧ (∀ j, j ≠ k → t.tile j = s.tile j) ∧
      (t.tile k).handed = true ∧ (t.tile k).nxt = (s.tile k).nxt ∧ (t.tile k).placedNxt = (s.tile k).placedNxt ∧
      (2 * r < (s.tile k).begun → (t.tile k).cur = (s.tile k).cur ∧ (t.tile k).placedCur = (s.tile k).placedCur) ∧
      ((s.tile k).begun ≤ 2 * r → r ∈ (t.tile k).placedCur ∧ ∀ e, e < 128 →
        (rowOf e = r → ((s.tile k).cfg e).loopEn = true → bankCode (t.tile k).cur e 0 = (s.updateLane k e f (s.tile k)).codeP ∧
          bankCode (t.tile k).cur e 1 = (s.updateLane k e f (s.tile k)).codeT) ∧
        (rowOf e ≠ r ∨ ((s.tile k).cfg e).loopEn = false → ∀ x, x < 2 → bankCode (t.tile k).cur e x = bankCode (s.tile k).cur e x)) ∧
      ∀ e, e < 128 →
        (rowOf e = r → ((s.tile k).cfg e).loopEn = true → ((t.tile k).lane e).upd = f + 1 ∧ ((t.tile k).lane e).mode = ((s.tile k).lane e).mode) ∧
        (rowOf e ≠ r ∨ ((s.tile k).cfg e).loopEn = false → (t.tile k).lane e = (s.tile k).lane e))

/-- For every tile, lane, gain set with z_min at most z_max, configuration and measurement, one evaluation of steps 3 to 9 of R150 gives
two 16-bit codes, an observer state within Q8.15, integrators within the gain set's limits whenever they were so before or a handover is
due, and a ramped setpoint that has moved towards the target by at most the ramp and that reaches the target when it lies within one
step. -/
def Obligations.ControlLawKeepsItsRanges : Prop :=
  ∀ (tl : Tile) (e frame : Nat) (l : Lane) (g : GainSet) (cfg : LaneCfg) (m : Option Meas), g.zmin0 ≤ g.zmax0 → g.zmin1 ≤ g.zmax1 →
    l.r ≤ 65535 → l.rT ≤ 65535 →
    let o := tl.control e frame l g cfg m
    o.codeP ≤ 65535 ∧ o.codeT ≤ 65535 ∧
    (∀ v ∈ o.lane.x, -8388608 ≤ v ∧ v ≤ 8388607) ∧
    (l.handover = true ∨ (g.zmin0 ≤ l.z0 ∧ l.z0 ≤ g.zmax0) → g.zmin0 ≤ o.lane.z0 ∧ o.lane.z0 ≤ g.zmax0) ∧
    (l.handover = true ∨ (g.zmin1 ≤ l.z1 ∧ l.z1 ≤ g.zmax1) → g.zmin1 ≤ o.lane.z1 ∧ o.lane.z1 ≤ g.zmax1) ∧
    o.lane.handover = false ∧ o.lane.r ≤ l.r + cfg.ramp ∧ l.r ≤ o.lane.r + cfg.ramp ∧
    (l.rT ≤ l.r + cfg.ramp → l.r ≤ l.rT + cfg.ramp → o.lane.r = l.rT)

/-- Outside reset: a FEEDBACK lane with MISS_MAX unmeasured frames in a row freezes, and MISS_FREEZE counts. A lane at its last frame of
re-acquire, which is no frame before the one in which it entered FEEDBACK (the first with REACQ_FRAMES 0, else a measured one whose
records are in and not yet computed) ends it with a handover due, and one that came from PARK takes that frame's measured value, or the
last one, as its ramped setpoint. A lane whose innovation run has reached DIV_FRAMES goes into re-acquire from its reset state with the
code it placed last and an episode is counted; below DIV_LIMIT nothing is raised, and DIV_LANE_MAX episodes hold the lane. The counting
window of a tile closes after 100,000 frames and ends its divergence condition. A lane whose time in HOLD has reached its limit enters
PARK without its drift captures, LOOP_MODES shows it, and the hold event is counted and raised. -/
def Obligations.LoopConditionsReachTheirLimits : Prop :=
  ∀ (s : State) (k e : Nat), s.pins.porstN = true → s.pins.resetN = true → k < 96 → e < 128 →
    (((s.tile k).lane e).mode = .feedback → ((s.tile k).lane e).freeze = false → s.effReg LOOP_MEAS_MISS_MAX k ≤ ((s.tile k).lane e).fbMiss →
      exec (.loopFreeze k e) s = .next ((s.modTile k (fun tl => tl.setLane e { tl.lane e with freeze := true })).inc LOOP_DIV_MISS_FREEZE k)) ∧
    (((s.tile k).lane e).mode = .feedback → ((s.tile k).lane e).reacq = true → ((s.tile k).lane e).reacqLeft = 0 → s.measLane k e = none →
      ((s.tile k).lane e).fbFrom ≤ (s.tile k).rowFrame (rowOf e) → exec (.reacqEnd k e) s = .next (s.modTile k (fun tl => tl.setLane e { tl.lane e with
        reacq := false, reacqLeft := 0, handover := true, divRun := 0, satRun := 0, fromPark := false, reacqTo := 0,
        r := if (tl.lane e).fromPark then (tl.lane e).kappa0 else (tl.lane e).r }))) ∧
    (∀ m, ((s.tile k).lane e).mode = .feedback → ((s.tile k).lane e).reacq = true → ((s.tile k).lane e).reacqLeft = 1 → s.measLane k e = some m →
      ((s.tile k).lane e).upd ≤ (s.tile k).rowFrame (rowOf e) → ((s.tile k).lane e).fbFrom ≤ (s.tile k).rowFrame (rowOf e) →
      exec (.reacqEnd k e) s = .next (s.modTile k (fun tl => tl.setLane e { tl.lane e with
        reacq := false, reacqLeft := 0, handover := true, divRun := 0, satRun := 0, fromPark := false,
        reacqTo := (s.tile k).rowFrame (rowOf e) + 1, r := if (tl.lane e).fromPark then m.kappa0 else (tl.lane e).r }))) ∧
    ((s.tile k).rowFrame (rowOf e) < ((s.tile k).lane e).fbFrom → exec (.reacqEnd k e) s = .next s) ∧
    (((s.tile k).lane e).mode = .feedback → ((s.tile k).lane e).reacq = false → s.effReg LOOP_CTRL_DIV_FRAMES k ≤ ((s.tile k).lane e).divRun →
      (s.tile k).divWin + 1 < s.effReg LOOP_MEAS_DIV_LIMIT k → ∃ t, exec (.divergenceEpisode k e) s = .next t ∧
        t = { s with regs := t.regs, tiles := t.tiles } ∧ (∀ o, o ≠ LOOP_DIV_DIV_EPISODES.offAt k → t.word o = s.word o) ∧
        t.reg LOOP_DIV_DIV_EPISODES k = min (2 ^ LOOP_DIV_DIV_EPISODES.wd - 1) (s.reg LOOP_DIV_DIV_EPISODES k + 1) ∧
        (t.tile k).divWin = (s.tile k).divWin + 1 ∧
        let l := (t.tile k).lane e
        l.mode = .feedback ∧ l.reacq = true ∧ l.reacqLeft = s.effReg LOOP_CTRL_REACQ_FRAMES k ∧ l.x0 = 0 ∧ l.x1 = 0 ∧
        l.x2 = 128 * (((s.tile k).lane e).placedP : Int) ∧ l.x3 = 0 ∧ l.z0 = 0 ∧ l.z1 = 0 ∧ l.divRun = 0 ∧
        l.divHold = (((s.tile k).lane e).divHold || decide (s.effReg LOOP_CTRL_DIV_LANE_MAX k ≤ ((s.tile k).lane e).divWin + 1))) ∧
    (((s.tile k).lane e).mode = .hold → ((s.tile k).lane e).holdMax ≤ ((s.tile k).lane e).holdCnt → ∃ t, exec (.holdMaxExpiry k e) s = .next t ∧
      ((t.tile k).lane e).mode = .park ∧ ((t.tile k).lane e).drift = false ∧ ((t.tile k).lane e).uaP = ((s.tile k).lane e).uaP ∧
      (∀ x, x < 2 → ((t.tile k).tap e x).entry = none ∧ ((t.tile k).tap e x).driftRun = 0) ∧
      t.reg LOOP_HEVT_HOLD_EXPIRED k = min (2 ^ LOOP_HEVT_HOLD_EXPIRED.wd - 1) (s.reg LOOP_HEVT_HOLD_EXPIRED k + 1) ∧
      t.reg LOOP_MODES_N_HOLD k = (allElems.filter (fun i => decide (((t.tile k).lane i).mode = .hold))).length % 2 ^ LOOP_MODES_N_HOLD.wd ∧
      t.reg LOOP_MODES_N_PARK k = (allElems.filter (fun i => decide (((t.tile k).lane i).mode = .park))).length % 2 ^ LOOP_MODES_N_PARK.wd ∧
      (∀ o, o ≠ LOOP_HEVT_HOLD_EXPIRED.offAt k → o ≠ LOOP_MODES_N_HOLD.offAt k → t.word o = s.word o) ∧ (∀ j, j ≠ k → t.tile j = s.tile j) ∧
      t = { s with regs := t.regs, tiles := t.tiles,
                   flt := { s.flt with raises := s.flt.raises ++ [{ src := srcTile k 4, info := k + 256 * (e % 8) }] } }) ∧
    (∃ t, exec .divergenceWindowEnd s = .next t ∧ t = { s with regs := t.regs, tiles := t.tiles } ∧
      ((s.tile k).window < 100000 → t.tile k = s.tile k) ∧
      (100000 ≤ (s.tile k).window → (t.tile k).window = 0 ∧ (t.tile k).divWin = 0 ∧ (t.tile k).divRaised = false ∧
        ((t.tile k).lane e).divWin = 0 ∧ t.cause (srcTile k 5) = false))

/-- In a running sweep whose present point has dwelt its frames: at points 0 to 31 the point rises by one with its frame count at 0,
CAL_POINT shows it (31 at most), and each named lane's captures are stored for the point, as means of its last measured frames (0xFFFF
when there is none), and emptied; at the return point the sweep ends, CAL_BUSY is cleared and CAL_DONE set, lanes in CAL go back to
FEEDBACK through re-acquire or to PARK as they came, and every other lane stands. -/
def Obligations.SweepPointsAndTheEndOfASweep : Prop :=
  ∀ (s : State) (k : Nat) (w : Sweep), s.pins.porstN = true → s.pins.resetN = true → k < 96 → (s.tile k).sweep = some w → w.armed = false →
    w.dwell ≤ w.frames →
    (w.point < 32 → (∀ e ∈ w.elems, e < 128) → w.elems.Nodup → ∃ t, exec (.calPointEnd k) s = .next t ∧
      (t.tile k).sweep = some { w with point := w.point + 1, frames := 0 } ∧ t.reg LOOP_CAL_POINT k = min 31 (w.point + 1) ∧
      (∀ e ∈ w.elems, ((t.tile k).lane e) = { (s.tile k).lane e with cap := [], capLast := ((s.tile k).lane e).cap } ∧
        (((s.tile k).lane e).cap = [] → ((t.tile k).capture.read (0, 0) (32 * e + w.point)).1 = 0xFFFF) ∧
        (((s.tile k).lane e).cap ≠ [] → ((t.tile k).capture.read (0, 0) (32 * e + w.point)).2 =
          clampCode ((((s.tile k).lane e).cap.map Prod.snd).sum / (32 * (((s.tile k).lane e).cap.length : Int))) ∧
        ((t.tile k).capture.read (0, 0) (32 * e + w.point)).1 =
          clampCode (roundDiv ((((s.tile k).lane e).cap.map (fun p => (p.1 : Int))).sum) ((s.tile k).lane e).cap.length))) ∧
      (∀ j, j ≠ k → t.tile j = s.tile j) ∧ t = { s with free := t.free, regs := t.regs, tiles := t.tiles }) ∧
    (w.point = 32 → w.src = .nobody → ∃ t, exec (.calPointEnd k) s = .next t ∧ (t.tile k).sweep = none ∧
      t.reg LOOP_CAL_BUSY k = 0 ∧ t.reg LOOP_CAL_DONE k = 1 ∧ (t.tile k).capture = (s.tile k).capture ∧
      (∀ e, e < 128 → ((s.tile k).lane e).mode = .cal → e ∈ w.elems →
        (((s.tile k).lane e).origin = .feedback → ((t.tile k).lane e).mode = .feedback ∧ ((t.tile k).lane e).reacq = true) ∧
        (((s.tile k).lane e).origin ≠ .feedback → ((t.tile k).lane e).mode = .park)) ∧
      (∀ e, e < 128 → ((s.tile k).lane e).mode ≠ .cal → (t.tile k).lane e = (s.tile k).lane e) ∧
      t = { s with regs := t.regs, tiles := t.tiles })

/-- For every output U in Q8.15: the code is U + 64 shifted right by 7 (arithmetic) and clamped to 0 to 65,535. It is 256 u rounded half
up: where nothing is clamped, code − 1/2 ≤ U / 128 < code + 1/2. The conversion is marked clamped exactly when the shifted value is
outside 0 to 65,535. A code converts back to code × 2^7, and that value converts to the same code without a clamp. In the lane update
the codes are those of the two outputs u0 and u1 of steps 4 to 7 of R150 (from the lane's new observer state, its integrators or their
handover values, the neighbours' term and the feedforward), and the frame counts in the lane's output saturation count, which stops at
255, exactly when the conversion of u0 or of u1 was clamped. -/
def Obligations.OutputsBecomeCodesRoundedHalfUpAndClamped : Prop :=
  (∀ U : Int,
    ((codeOfU U).1 : Int) = max (0 : Int) (min (65535 : Int) ((U + 64) >>> (7 : Nat))) ∧
    ((codeOfU U).2 = true ↔ (U + 64) >>> (7 : Nat) < 0 ∨ 65535 < (U + 64) >>> (7 : Nat)) ∧
    ((codeOfU U).2 = false → 256 * ((codeOfU U).1 : Int) - 128 ≤ 2 * U ∧ 2 * U < 256 * ((codeOfU U).1 : Int) + 128)) ∧
  (∀ c : Nat, uOfCode c = c * 2 ^ 7 ∧ (c ≤ 65535 → codeOfU (uOfCode c) = (c, false))) ∧
  (∀ (tl : Tile) (e frame : Nat) (l : Lane) (g : GainSet) (cfg : LaneCfg) (m : Option Meas), let o := tl.control e frame l g cfg m
    let lo := (g.observe l (m.map (fun m => measY m l.r cfg.sRef))).1
    let nu := fun j => (tl.nu g cfg frame j).1
    let ff := fun j => uOfCode (tl.targetCode e j l.r)
    let z := fun j => if l.handover then (g.handoverZ lo j (nu j) (ff j) (uOfCode (if j = 0 then l.uaP else l.uaT))).1 else if j = 0 then l.z0 else l.z1
    let u := fun j => (g.control lo j (z j) (nu j) (ff j)).1
    o.codeP = (codeOfU (u 0)).1 ∧ o.codeT = (codeOfU (u 1)).1 ∧
      o.lane.outSat = if (codeOfU (u 0)).2 = true ∨ (codeOfU (u 1)).2 = true then min 255 (l.outSat + 1) else l.outSat)

/-- On the receiving port, in RUN with PTP on, for messages of the transport in use to its group address in the domain in use: the first
Announce of the first sender is recorded and selects nothing; its second within four intervals selects it, shows its identity, port and
class, and takes the servo to ACQUIRE. A Sync by another transport, to another address or in another domain is only counted as ignored.
A two-step Sync waits for its Follow_Up; a one-step Sync, and the Follow_Up of a waiting one, give the offset sample t2 - t1 -
(corrections + asymmetry) - MPD, shown in TMU_OFFSET, with receive times in steps of 6,400 units and seconds of 48 bits. Losing the
selected source, at the end of its limit, drops its records and takes the servo to HOLDOVER with source 611 when it had ever locked, and
to FREERUN otherwise. -/
def Obligations.PtpMessagesOfTheSelectedSource : Prop :=
  ∀ (s : State) (m : PtpMsg), s.ptpHere m = true →
    (∀ data steps ts, s.ptpOurs m = true → -3 ≤ m.logInt → m.logInt ≤ 4 → s.tmu.sources = [] → s.tmu.sel = none → exec (.announceReceived m data steps ts) s = .next { s with tmu := { s.tmu with
        sources := [{ id := m.id, port := m.idPort, data := data, steps := steps, ptpTimescale := ts, logInt := m.logInt, last := s.tick }] } }) ∧
    (∀ data steps ts n, s.ptpOurs m = true → -3 ≤ m.logInt → m.logInt ≤ 4 → s.tmu.sources = [{ id := m.id, port := m.idPort, data := data, steps := steps, ptpTimescale := ts, logInt := m.logInt, last := n }] →
      n ≤ s.tick → s.tick ≤ n + 4 * logTicks m.logInt → s.tmu.sel = none → s.tmu.lost = false → ∃ t, exec (.announceReceived m data steps ts) s = .next t ∧
        t.tmu.sel = some (m.id, m.idPort) ∧ t.servo = 1 ∧ t.reg TMU_SRC_ID_LO_CLOCK_ID = m.id % 2 ^ 32 ∧ t.reg TMU_SRC_PORT_PORT_NUM = m.idPort % 2 ^ 16 ∧
        t.reg TMU_SRC_ID_HI_CLOCK_ID = m.id / 2 ^ 32 % 2 ^ 32 ∧ t.reg TMU_SRC_PORT_CLOCK_CLASS = data.getD 1 0 % 2 ^ TMU_SRC_PORT_CLOCK_CLASS.wd ∧
        t.tmu.eval = [] ∧ t.reg TMU_STATUS_TRACEABLE = 0 ∧ t = { s with regs := t.regs, tmu := t.tmu }) ∧
    (∀ t1 two, s.ptpOurs m = false → exec (.syncReceived m t1 two) s = .next (s.inc TMU_CNT_MSG_MSG_IGNORED)) ∧
    (∀ t1, s.ptpOurs m = true → -7 ≤ m.logInt → m.logInt ≤ 1 → s.tmu.sel = some (m.id, m.idPort) → exec (.syncReceived m t1 true) s =
      .next { s with tmu := { s.tmu with syncInt := m.logInt, syncAt := s.tick, waitFup := some (m.seq, stampOf m.rx, m.corr) } }) ∧
    (∀ t1, s.ptpOurs m = true → -7 ≤ m.logInt → m.logInt ≤ 1 → s.tmu.sel = some (m.id, m.idPort) → ∃ t, exec (.syncReceived m t1 false) s = .next t ∧
      (let d := ptpTime (stampOf m.rx) - ptpTime t1 - (m.corr + s.asym (s.reg TMU_CTRL_PORT))
       t.tmu.lastSync = some d ∧ t.reg TMU_OFFSET_LO_OFFSET = unsigned 64 (d - s.mpd) % 2 ^ 32 ∧ t.reg TMU_OFFSET_HI_OFFSET = unsigned 64 (d - s.mpd) / 2 ^ 32) ∧
      t.tmu.waitFup = none ∧ t.tiles = s.tiles ∧ t.txn = s.txn) ∧
    (∀ t1 t2 corr, s.ptpOurs m = true → -7 ≤ m.logInt → m.logInt ≤ 1 → s.tmu.sel = some (m.id, m.idPort) → s.tmu.waitFup = some (m.seq, t2, corr) → ∃ t, exec (.followUpReceived m t1) s = .next t ∧
      (let d := ptpTime t2 - ptpTime t1 - (corr + m.corr + s.asym (s.reg TMU_CTRL_PORT))
       t.tmu.lastSync = some d ∧ t.reg TMU_OFFSET_LO_OFFSET = unsigned 64 (d - s.mpd) % 2 ^ 32 ∧ t.reg TMU_OFFSET_HI_OFFSET = unsigned 64 (d - s.mpd) / 2 ^ 32) ∧
      t.tmu.waitFup = none ∧ t.tiles = s.tiles ∧ t.txn = s.txn) ∧
    (s.tmu.sel.isSome = true → ∃ t, exec .sourceLost s = .next t ∧ t.tmu.sel = none ∧ t.tmu.lost = true ∧ t.tick = max s.tick s.lossTick ∧
      t.tmu.sources = s.tmu.sources.filter (fun x => decide (some (x.id, x.port) ≠ s.tmu.sel)) ∧
      t.servo = (if s.tmu.lockedOnce then 5 else 0) ∧
      t.flt = (if s.tmu.lockedOnce then { s.flt with raises := s.flt.raises ++ [{ src := 611 }] } else s.flt))

/-- With end-to-end delay, a selected source and its port up a Delay_Req leaves when it is due, with the next sequence number and the
negated asymmetry, its departure time at least 400 ns ahead; from a port that is down none leaves. Its Delay_Resp gives the delay sample
x, half of (t2 - t1 - corrections) + (t4 - t3 - correction), and the interval of the next request; the first sample sets MPD, and each
later one moves it by (x - MPD) / 2^MPD_WEIGHT rounded. With peer-to-peer delay each port runs its own exchange: a Pdelay_Req leaves
with the port's next number, a peer's is answered one-step with the turnaround in the correction, and a response to the port's own
request gives the port's delay, which is the delay sample on the receiver's port; a peer delay message on the receiver's port, where the
receiver measures end to end, is counted as ignored. A forwarded event message that still waits 20 microseconds after it came is dropped
and counted. A write of TMU_CTRL that turns PTP off without a selected source drops every recorded source. -/
def Obligations.PathDelayMessages : Prop :=
  ∀ (s : State),
    (∀ t3, s.running = true → s.flag TMU_CTRL_PTP_EN = true → s.reg TMU_CTRL_DELAY_MECH = 0 → s.tmu.sel.isSome = true →
      let p := s.reg TMU_CTRL_PORT
      let u := s.advance (s.reqDue - s.tick)
      exec (.delayReqSend t3) s = .next (if s.portUp p then
        ({ u with tmu := { s.tmu with delaySeq := (s.tmu.delaySeq + 1) % 65536, reqAt := some u.tick,
                                      delayReq := some (s.tmu.delaySeq, max t3 ((u.dt * 51200 + 400 * 65536 : Nat) : Int)) } }).sendPtp p 1 s.tmu.delaySeq
          [unsigned 64 (-(s.asym p))] else s)) ∧
    (∀ m t3 t4 d, s.ptpHere m = true → s.ptpOurs m = true → -7 ≤ m.logInt → m.logInt ≤ 5 → s.tmu.sel = some (m.id, m.idPort) →
      s.reg TMU_CTRL_DELAY_MECH = 0 → s.tmu.delayReq = some (m.seq, t3) → s.tmu.lastSync = some d → s.tmu.mpdFirst = true →
      exec (.delayRespReceived m t4) s = .next { s with
        regs := (s.setPair TMU_MPD_LO_MPD TMU_MPD_HI_MPD (roundDiv (d + (ptpTime t4 - ptpTime t3 - m.corr)) 2)).regs
        tmu := { s.tmu with delayReq := none, delayInt := some m.logInt, mpdFirst := false } }) ∧
    (∀ m t3 t4 d, s.ptpHere m = true → s.ptpOurs m = true → -7 ≤ m.logInt → m.logInt ≤ 5 → s.tmu.sel = some (m.id, m.idPort) →
      s.reg TMU_CTRL_DELAY_MECH = 0 → s.tmu.delayReq = some (m.seq, t3) → s.tmu.lastSync = some d → s.tmu.mpdFirst = false →
      let x := roundDiv (d + (ptpTime t4 - ptpTime t3 - m.corr)) 2
      exec (.delayRespReceived m t4) s = .next { s with
        regs := (s.setPair TMU_MPD_LO_MPD TMU_MPD_HI_MPD (s.mpd + roundDiv (x - s.mpd) (2 ^ s.effReg TMU_LOSS_MPD_WEIGHT : Nat))).regs
        tmu := { s.tmu with delayReq := none, delayInt := some m.logInt } }) ∧
    (∀ m turn t1, s.peerPort m.port = true → s.ptpOurs m = true → s.tmu.peerReq.read none m.port = some (m.seq, t1) → s.flag TMU_CTRL_PTP_EN = true →
      s.reg TMU_CTRL_DELAY_MECH = 1 → m.port = s.reg TMU_CTRL_PORT →
      let x := roundDiv (stampOf m.rx - t1 - turn - (m.corr + s.asym m.port)) 2
      exec (.pdelayRespReceived m turn) s = .next { s with
        regs := (s.setPair TMU_MPD_LO_MPD TMU_MPD_HI_MPD (if s.tmu.mpdFirst then x
          else s.mpd + roundDiv (x - s.mpd) (2 ^ s.effReg TMU_LOSS_MPD_WEIGHT : Nat))).regs
        tmu := { s.tmu with peerReq := s.tmu.peerReq.write none m.port none, peer := s.tmu.peer.write 0 m.port x, mpdFirst := false } }) ∧
    (∀ m t3 turn, s.peerPort m.port = false → s.ptpHere m = true →
      exec (.pdelayReqReceived m t3) s = .next (s.inc TMU_CNT_MSG_MSG_IGNORED) ∧
      exec (.pdelayRespReceived m turn) s = .next (s.inc TMU_CNT_MSG_MSG_IGNORED)) ∧
    (∀ p t1, s.peerPort p = true → exec (.pdelayReqSend p t1) s = .next (if s.portUp p then
        let q := s.tmu.peerSeq.read 0 p
        ({ s with tmu := { s.tmu with peerSeq := s.tmu.peerSeq.write 0 p ((q + 1) % 65536),
                                      peerReq := s.tmu.peerReq.write none p (some (q, s.egressAt t1)) } }).sendPtp p 2 q [unsigned 64 (-(s.asym p))]
        else s)) ∧
    (∀ m t3, s.peerPort m.port = true → s.ptpOurs m = true → -7 ≤ m.logInt → m.logInt ≤ 5 → exec (.pdelayReqReceived m t3) s =
      .next (s.sendPtp m.port 3 m.seq [m.id, m.idPort, unsigned 64 (m.corr + (s.egressAt t3 - stampOf m.rx))])) ∧
    (∀ m turn t1, s.peerPort m.port = true → s.ptpOurs m = true → s.tmu.peerReq.read none m.port = some (m.seq, t1) → s.flag TMU_CTRL_PTP_EN = false →
      exec (.pdelayRespReceived m turn) s = .next { s with tmu := { s.tmu with
        peerReq := s.tmu.peerReq.write none m.port none
        peer := s.tmu.peer.write 0 m.port (roundDiv (stampOf m.rx - t1 - turn - (m.corr + s.asym m.port)) 2) } }) ∧
    (∀ p o, p < 2 → s.pins.porstN = true → s.pins.resetN = true → s.cpx.egress.find? (fun o => decide (o.port = p) && o.event) = some o →
      let u := (s.advance (o.since + 25600 - s.tick)).egress p
      exec (.tcEgressTimeout p) s = .next (if o ∈ u.cpx.egress then ({ u with cpx := { u.cpx with egress := u.cpx.egress.erase o } }).txDrop p else u)) ∧
    (∀ v, s.windowOpen = true → s.reg TMU_CTRL_PTP_EN = 1 → v % 2 = 0 → s.tmu.sel = none → ∃ t, exec (.tmuCtrlWrite v) s = .next t ∧
      t.reg TMU_CTRL_PTP_EN = 0 ∧ t.tmu = { s.tmu with sources := [] } ∧ (∀ o, o ≠ TMU_CTRL_PTP_EN.off → t.word o = s.word o) ∧
      t = { s with regs := t.regs, tmu := t.tmu, flt := t.flt })

/-- For every state and offset sample, one step of the servo law leaves the integrator and the adjustment within plus and minus FREQ_MAX
ppm and keeps at most the newest 255 adjustments taken in LOCKED. A sample in LOCKED whose offset against the unslewed remainder exceeds
JUMP_THR is not steered: the adjustment stands, the refusal is counted, the opposite step becomes pending under the next STEP_ID, the
servo enters STEP_PENDING and source 608 is raised. -/
def Obligations.ServoKeepsItsFrequencyLimit : Prop :=
  ∀ (s : State) (o : Int),
    (∀ locked,
      let t := s.steer o locked
      let lim := (s.effReg TMU_LIMITS_FREQ_MAX : Int) * 8589934592000;
      -lim ≤ t.tmu.adj ∧ t.tmu.adj ≤ lim ∧ -lim ≤ t.tmu.integ ∧ t.tmu.integ ≤ lim ∧ (s.tmu.adjs.length ≤ 255 → t.tmu.adjs.length ≤ 255)) ∧
    (s.servo = 3 → s.pins.porstN = true → s.pins.resetN = true → (s.effReg TMU_JUMP_THR_JUMP_THR : Int) * 65536 < (o + s.slewLeft).natAbs →
      let t := s.sampleSteering o
      t.servo = 4 ∧ t.tmu.adj = s.tmu.adj ∧ t.tmu.integ = s.tmu.integ ∧ t.reg TMU_STATUS_STEP_ID = (s.reg TMU_STATUS_STEP_ID + 1) % 65536 ∧
      t.reg TMU_PEND_STEP_LO_PEND_STEP = unsigned 64 (-(o + s.slewLeft)) % 2 ^ 32 ∧
      t.reg TMU_PEND_STEP_HI_PEND_STEP = unsigned 64 (-(o + s.slewLeft)) / 2 ^ 32 ∧
      t.reg TMU_CNT_EVAL_REFUSED = min (2 ^ TMU_CNT_EVAL_REFUSED.wd - 1) (s.reg TMU_CNT_EVAL_REFUSED + 1) ∧
      t.flt = { s.flt with raises := s.flt.raises ++ [{ src := 608 }] })

/-- A well-formed TIME_STEP of a leading device with no step in hand is answered QUEUED, forwarded and put in hand: the explicit mode
takes the given seconds and nanoseconds, the accept mode the pending step whose STEP_ID it names while the servo is in STEP_PENDING. A
step in hand that another candidate marker still suits is fixed on the first one at that marker minus the arm margin, an automatic one
only while no transaction is staged or armed and no list is live. One whose candidates have all passed is dropped with ABORTED. When the
remainder has been slewed out, outside STEP_PENDING, nothing is left to slew and SLEWING is clear. -/
def Obligations.TimeStepsArePlacedFixedAndAborted : Prop :=
  ∀ (s : State),
    (∀ c0 : HostCmd, s.hostReady c0 0x0C = true → s.leads = true → s.tmu.step = none →
      let c := s.asFetched c0
      let u := s.startCmd c
      (u8 c.desc 8 = 2 → zeros c.desc 9 1 = true → zeros c.desc 24 40 = true → le16 c.desc 10 = 0 →
      (les32 c.desc 12).natAbs ≤ 999999999 → ¬ (0 < les32 c.desc 12 ∧ signed 64 (le64 c.desc 16) < 0) →
      ¬ (les32 c.desc 12 < 0 ∧ 0 < signed 64 (le64 c.desc 16)) →
      s.stepNegative ((signed 64 (le64 c.desc 16) * 1000000000 + les32 c.desc 12) * 65536) = false →
      exec (.timeStepExplicit c0) s = .next (
        let d := (signed 64 (le64 c.desc 16) * 1000000000 + les32 c.desc 12) * 65536
        ((u.reply c.src .queued 0 false []).forwardHost 0xFFFF c).putStep { delta := d, frames := stepFrames d, src := c.src, accepted := s.dt })) ∧
      (u8 c.desc 8 = 1 → zeros c.desc 9 1 = true → zeros c.desc 12 12 = true → zeros c.desc 24 40 = true →
      s.servo = 4 → le16 c.desc 10 = s.reg TMU_STATUS_STEP_ID →
      s.stepNegative (s.pair TMU_PEND_STEP_LO_PEND_STEP TMU_PEND_STEP_HI_PEND_STEP) = false →
      exec (.timeStepAccept c0) s = .next (
        let d := s.pair TMU_PEND_STEP_LO_PEND_STEP TMU_PEND_STEP_HI_PEND_STEP
        ((u.reply c.src .queued 0 false []).forwardHost 0xFFFF c).putStep
          { delta := d, frames := stepFrames d, src := c.src, accepted := s.dt, accept := true }))) ∧
    (∀ st m, s.tmu.step = some st → st.fixed = false → s.stepMarker st = some m → exec .stepPlacementFixed s = .next (
        let t := s.advanceTo (m - nsUp (s.reg TXN_CTRL_ARM_MARGIN))
        if st.auto && !t.autoOk then t.advance 1 else { t with tmu := { t.tmu with step := some { st with marker := some m, fixed := true } } })) ∧
    (∀ st, s.tmu.step = some st → st.fixed = false → s.stepMarker st = none → ∃ u : State, exec .timeStepAbort s = .next (u.reply st.src .aborted 0 true []) ∧
      u.tmu = { s.tmu with step := none } ∧ u.reg TMU_STATUS_STEP_PLACED = 0 ∧ u = { s with regs := u.regs, dt := u.dt, tick := u.tick, tmu := u.tmu }) ∧
    (s.tmu.slew ≠ 0 → s.servo ≠ 4 → ∃ t, exec .slewEnd s = .next t ∧ t.tmu = { s.tmu with slew := 0, slewAt := t.tick } ∧ t.reg TMU_STATUS_SLEWING = 0 ∧
      t.reg TMU_SLEW_LEFT_SLEW_LEFT = 0 ∧ s.tick ≤ t.tick ∧ t = { s with regs := t.regs, dt := t.dt, tick := t.tick, tmu := t.tmu })

/-- In CONFIG with calibration busy, between markers: when every leaf has answered within the trim range, each tile's trim is what its
delay is short of the greatest, rounded to steps of 12.5 ps, where a delay is half the mean of the 1,024 loop measurements whose sum is
given, the leaf is calibrated, and the next marker is the calibration marker; a domain without a populated tile is UNAVAILABLE; when no
leaf has answered, every domain is bad and UNAVAILABLE, no leaf is calibrated and condition 614 begins. A later measurement moves the
trim of a calibrated leaf by one step against an error of more than 8 units at a marker still to come, leaves one within 8 alone, and
begins condition 615 for one whose echo is lost, which is marked and calibrated no more, withdrawing its tile's armed reports; MAX_ERR
shows the greatest error. In a returning domain whose 12 leaves answer within range, every leaf is trimmed, the recalibration passes,
and CAL_BUSY stays set only while another domain's runs. -/
def Obligations.TreeCalibrationSetsEveryLeaf : Prop :=
  ∀ s : State,
    (∀ ds : List Nat, s.pins.porstN = true → s.pins.resetN = true → s.startup = 3 → s.flag TMU_TREE_CAL_BUSY = true → s.tmu.bad = 0 →
      ¬ (s.started = true ∧ s.dt = s.marker) → ds.length = 96 → (∀ d ∈ ds, (ds.foldl max 0 - d + 2048) / 4096 ≤ 255) →
      ∃ t, exec (.treeCalDone (ds.map some)) s = .next t ∧ t = { s with regs := t.regs, tiles := t.tiles, tmu := t.tmu } ∧
        (∀ d, d < 8 → t.domState d = if s.fab.desc.isSome && !s.domPop d then 4 else s.domState d) ∧
        (∀ o, (∀ d, d < 8 → o ≠ DOM_STATUS_STATE.offAt d) → t.word o = s.word o) ∧ t.tmu.dMax = ds.foldl max 0 ∧
        t.tmu.calPend = true ∧ t.tmu.bad = 0 ∧
        ∀ k, k < 96 → t.tile k = { s.tile k with leafOk := true, leafTrim := (((ds.foldl max 0 - ds.getD k 0 + 2048) / 4096 : Nat) : Int) }) ∧
    (s.pins.porstN = true → s.pins.resetN = true → s.startup = 3 → s.flag TMU_TREE_CAL_BUSY = true → ¬ (s.started = true ∧ s.dt = s.marker) →
      ∃ t, exec (.treeCalDone []) s = .next t ∧ (∀ d, d < 8 → bit t.tmu.bad d = true ∧ t.domState d = 4) ∧ t.cause 614 = true ∧
        ∀ k, k < 96 → t.tile k = { (s.withdraw k).tile k with leafOk := false } ∧ bit (t.reg TMU_TREE_FAIL_TILE (k / 32)) (k % 32) = true) ∧
    (∀ errs k, s.running = true → k < 96 → (s.tile k).leafOk = true → ∃ t, exec (.treeRemeasure errs) s = .next t ∧
      t.reg TMU_TREE_MAX_ERR = min 255 ((errs.filterMap id).foldl (fun m e => max m e.natAbs) 0) % 2 ^ TMU_TREE_MAX_ERR.wd ∧
      (t.tile k).leafTrim = (s.tile k).leafTrim ∧
      (errs.getD k (some 0) = none → t.cause 615 = true ∧ t.tile k = { (s.withdraw k).tile k with leafOk := false } ∧
        bit (t.reg TMU_TREE_FAIL_TILE (k / 32)) (k % 32) = true) ∧
      (∀ e, errs.getD k (some 0) = some e → e.natAbs ≤ 8 → t.tile k = s.tile k) ∧
      (∀ e, errs.getD k (some 0) = some e → 8 < e → 1 ≤ (s.tile k).leafTrim → (s.tile k).leafTrim ≤ 255 → t.tile k = { s.tile k with leafMove := -1 })) ∧
    (∀ d (ds : List Nat), s.pins.porstN = true → s.pins.resetN = true → d < 8 → s.domState d = 3 → (s.domSt d).recal = none → ds.length = 12 →
      (∀ x ∈ ds, (s.tmu.dMax - x + 2048) / 4096 ≤ 255) → ∃ t, exec (.returnCalDone d (ds.map some)) s = .next t ∧
        (t.domSt d).recal = some true ∧ t.reg TMU_TREE_CAL_BUSY = b2n (s.othersReturn d) ∧
        (∀ k, k < 12 → t.tile (12 * d + k) = { s.tile (12 * d + k) with leafOk := true, leafTrim := (((s.tmu.dMax - ds.getD k 0 + 2048) / 4096 : Nat) : Int) }) ∧
        (∀ j, domOf j ≠ d → t.tile j = s.tile j) ∧ t.flt = s.flt)

/-- ARM of output n with a width and period that fit: a start at least 1 microsecond ahead arms the output with the staged values and
shows ACTIVE, a periodic output whose start lies nearer is armed from its first rise at least that far ahead, and a one-shot start that
lies nearer sets LATE and raises 616; values that do not fit are a bad write. STOP of an armed output whose pulse is low disarms it, and
one whose pulse is high ends it after its fall. At a rise the pin goes to its active level (low with POL 1), the next rise is counted
and the fall falls due one width later; at a fall the pin goes to its inactive level, and a one-shot is over. A change of the pin's
level is shown once. -/
def Obligations.PulseOutputsArmStopAndToggle : Prop :=
  ∀ (s : State) (n : Nat),
    (s.windowOpen = true → n < 4 →
      let start := (s.reg TOUT_START_SEC_LO_SEC n + 2 ^ 32 * s.reg TOUT_START_SEC_HI_SEC n) * 1000000000 + s.reg TOUT_START_NS_NS n
      let p := s.reg TOUT_PERIOD_PERIOD n
      (s.toutOk n = false → exec (.toutArm n) s = .next ((s.setFlag TOUT_CTRL_ARM n false).raise 864 (TOUT_CTRL_ARM.offAt n))) ∧
      (∀ k, s.toutOk n = true → (s.dt * 51200 + 65536000 ≤ start * 65536 ∧ k = 0) ∨ (start * 65536 < s.dt * 51200 + 65536000 ∧ p ≠ 0 ∧ 0 < k ∧
          s.dt * 51200 + 65536000 ≤ (start + k * p) * 65536 ∧ (start + (k - 1) * p) * 65536 < s.dt * 51200 + 65536000) →
        ∃ t, exec (.toutArm n) s = .next t ∧ t.reg TOUT_CTRL_ARM n = 0 ∧ t.reg TOUT_CTRL_ACTIVE n = 1 ∧
        t.tmu.pulses = s.tmu.pulses.write none n (some { start := start, period := p, width := s.reg TOUT_WIDTH_WIDTH n, next := k }) ∧
        t.tmu.tout.read false n = s.flag TOUT_CTRL_POL n ∧
        (∀ o, o ≠ TOUT_CTRL_ARM.offAt n → t.word o = s.word o) ∧ t = { s with regs := t.regs, out := t.out, tmu := { s.tmu with pulses := t.tmu.pulses, tout := t.tmu.tout } }) ∧
      (s.toutOk n = true → start * 65536 < s.dt * 51200 + 65536000 → p = 0 → exec (.toutArm n) s =
        .next (((s.setFlag TOUT_CTRL_ARM n false).setFlag TOUT_CTRL_LATE n true).raise 616))) ∧
    (∀ p, s.windowOpen = true → n < 4 → s.tmu.pulses.read none n = some p → exec (.toutStop n) s =
      .next (if p.fallAt.isNone then (s.setFlag TOUT_CTRL_STOP n false).setPulse n none
        else (s.setFlag TOUT_CTRL_STOP n false).setPulse n (some { p with stopping := true }))) ∧
    (∀ p, s.tmu.pulses.read none n = some p → p.fallAt = none → s.dt ≤ nsUp (p.start + p.next * p.period) → ∃ t, exec (.toutEdge n) s = .next t ∧
      t.dt = nsUp (p.start + p.next * p.period) ∧ t.tmu.tout.read false n = !s.flag TOUT_CTRL_POL n ∧
      t.out = (if s.tmu.tout.read false n = !s.flag TOUT_CTRL_POL n then s.out else .tout n (!s.flag TOUT_CTRL_POL n) :: s.out) ∧
      t.tmu.pulses.read none n = some { p with
        next := p.next + 1
        fallAt := some (t.tick + (nsUp (p.start + p.next * p.period + p.width) - nsUp (p.start + p.next * p.period))) } ∧
      (∀ o, o ≠ TOUT_CTRL_ARM.offAt n → t.word o = s.word o)) ∧
    (∀ p f, s.tmu.pulses.read none n = some p → p.fallAt = some f → s.tick ≤ f → ∃ t, exec (.toutEdge n) s = .next t ∧ t.tick = f ∧
      t.tmu.tout.read false n = s.flag TOUT_CTRL_POL n ∧
      t.out = (if s.tmu.tout.read false n = s.flag TOUT_CTRL_POL n then s.out else .tout n (s.flag TOUT_CTRL_POL n) :: s.out) ∧
      t.tmu.pulses.read none n = (if p.stopping ∨ p.period = 0 then none else some { p with fallAt := none }) ∧
      (∀ o, o ≠ TOUT_CTRL_ARM.offAt n → t.word o = s.word o))

/-- An enabled edge of capture input n, the first since reset or 12.5 ns (819,200 units) or more after the last captured one, joins its
FIFO rounded down to 6,400 units of 2^-16 ns, LEVEL counts it and source 617+n is raised; in a full FIFO of 16 it is dropped, OVF is set
and the input's drop counter counts; a nearer edge is only counted as dropped; an edge that is not enabled does nothing. A read of
TCAPn_NS by host software or the supervisor takes the oldest capture out and answers its nanoseconds with VALID and FALL, and its
fraction and seconds stand in the reader's shadows; of an empty FIFO it answers 0. A read of a latching register by either answers its
present value and fills the reader's shadows of its companions with theirs. A reader without access gets nothing. -/
def Obligations.CapturesFillAndEmptyTheirFifo : Prop :=
  ∀ (s : State) (n : Nat), n < 4 →
    (∀ u fall, s.pins.porstN = true → s.pins.resetN = true → s.flag TCAP_CTRL_EN n = true → bit (s.reg TCAP_CTRL_EDGE n) (b2n fall) = true →
      (s.tmu.lastCap.read 0 n = 0 ∨ s.tmu.lastCap.read 0 n + 819200 ≤ u / 6400 * 6400 + 1 →
        ((s.tmu.caps.read [] n).length < 16 → ∃ t, exec (.tcapEdge n u fall) s = .next t ∧
          t.tmu.caps.read [] n = s.tmu.caps.read [] n ++ [{ dt := u / 6400 * 6400, fall := fall }] ∧
          (∀ m, m ≠ n → t.tmu.caps.read [] m = s.tmu.caps.read [] m) ∧ t.tmu.lastCap.read 0 n = u / 6400 * 6400 + 1 ∧
          t.reg TCAP_CTRL_LEVEL n = (s.tmu.caps.read [] n).length + 1 ∧ (∀ o, o ≠ TCAP_CTRL_LEVEL.offAt n → t.word o = s.word o) ∧
          t = { s with regs := t.regs, tmu := { s.tmu with caps := t.tmu.caps, lastCap := t.tmu.lastCap }
                       flt := { s.flt with raises := s.flt.raises ++ [{ src := 617 + n }] } }) ∧
        (16 ≤ (s.tmu.caps.read [] n).length → exec (.tcapEdge n u fall) s = .next ((s.setFlag TCAP_CTRL_OVF n true).inc (capDrop n)))) ∧
      (s.tmu.lastCap.read 0 n ≠ 0 → u / 6400 * 6400 + 1 < s.tmu.lastCap.read 0 n + 819200 →
        exec (.tcapEdge n u fall) s = .next (s.inc (capDrop n)))) ∧
    (∀ u fall, s.flag TCAP_CTRL_EN n = false ∨ bit (s.reg TCAP_CTRL_EDGE n) (b2n fall) = false → exec (.tcapEdge n u fall) s = .next s) ∧
    (∀ p, p = .host ∨ p = .supervisor → s.onPath p = true → let sup := decide (p = .supervisor)
      (∀ c r, s.tmu.caps.read [] n = c :: r → ∃ t, exec (.tcapRead p n) s = .next t ∧
        t.tmu.caps.read [] n = r ∧ t.reg TCAP_CTRL_LEVEL n = r.length % 2 ^ TCAP_CTRL_LEVEL.wd ∧
        t.out = .value (TCAP_NS_NS.offAt n) (TCAP_NS_VALID.put (TCAP_NS_FALL.put (dtOfUnits c.dt).ns (b2n c.fall)) 1) :: s.out ∧
        t.shadowWord sup (TCAP_NS_NS.offAt n + 4) = (dtOfUnits c.dt).frac % 2 ^ 32 ∧
        t.shadowWord sup (TCAP_NS_NS.offAt n + 8) = (dtOfUnits c.dt).sec % 2 ^ 32 ∧
        t.shadowWord sup (TCAP_NS_NS.offAt n + 12) = (dtOfUnits c.dt).sec / 2 ^ 32 % 2 ^ 32 ∧
        t = { s with regs := t.regs, tmu := { s.tmu with caps := t.tmu.caps }, shadow := t.shadow, out := t.out }) ∧
      (s.tmu.caps.read [] n = [] → exec (.tcapRead p n) s = .next (s.send (.value (TCAP_NS_NS.offAt n) 0))) ∧
      (∀ o, o ∈ [TMU_OFFSET_LO_OFFSET.off, TMU_PEND_STEP_LO_PEND_STEP.off, TMU_MPD_LO_MPD.off, TMU_SRC_ID_LO_CLOCK_ID.off, TMU_NOW_NS_NS.off,
          TXN_QDT_NS_NS.off, TWN_TAKE_NS_NS.off, FLT_FF_NS_NS.off, MTX_ERR_LO_ADDR_LO.off, GLB_DIE_ID_LO_DIE_LO.off] ∨
          (∃ k, k < 64 ∧ o = HK_RES_LO_CODE.offAt k) → ∃ t, exec (.latchingRegisterRead p o) s = .next t ∧ t.out = .value o (s.view o) :: s.out ∧
        latches o ≠ [] ∧ (∀ a ∈ latches o, t.shadowWord sup a = s.view a % 2 ^ 32) ∧ (∀ a, t.word a = s.word a) ∧
        t = { s with regs := t.regs, shadow := t.shadow, out := t.out })) ∧
    (∀ p o, s.onPath p = false → exec (.tcapRead p n) s = .next s ∧ exec (.latchingRegisterRead p o) s = .next s)

/-- For a write of any word to any register outside the SIU's pending configuration that no enable locks whole: a read-only or
read-to-clear field stands; a read/write field that nothing locks takes the written value when its encoding is not reserved and the
limits between two fields are met, and stands otherwise; a locked field stands; a write-one-to-clear field clears exactly the ones
written; a write-one-to-set field sets them; a field that needs presence stands while no presence window is open and the write would
change one, and such a write raises 696; with the window open it takes the written value as a read/write field does, and so does a trim
field (RWT). Every other register stands. A register that an enable locks whole stands, and its write raises 864 with its offset. -/
def Obligations.AccessCodesOfTheRegisterTables : Prop :=
  ∀ (s : State) (o v : Nat), (s.regLocked o = true → s.plainWrite o v = s.raise 864 o) ∧
    (s.regLocked o = false → o ≠ SIU_CFG0_T_DISC.off → o ≠ SIU_CFG1_DEGRADE_MIN.off →
      (∀ a, a ≠ o → (s.plainWrite o v).word a = s.word a) ∧
      (s.rwpRefused o v = true → s.presence = false ∧
        ∃ t : State, t.flt = s.flt ∧ (s.plainWrite o v = t.raise 696 o ∨ s.plainWrite o v = (t.raise 696 o).raise 864 o)) ∧
      ∀ f ∈ fieldsAt o,
        let cur := getBits (s.word o).toNat f.lo f.wd
        let new := getBits v f.lo f.wd
        let got := getBits ((s.plainWrite o v).word o).toNat f.lo f.wd
        (f.acc = .ro ∨ f.acc = .rc ∨ f.acc = .wo → got = cur) ∧
        (f.acc = .rw → s.fieldLocked f = false → actionBits.contains f = false → got = if s.fieldLegal o f v && crossOk o v then new else cur) ∧
        (f.acc = .rw → s.fieldLocked f = true → got = cur) ∧
        (f.acc = .w1c → got = Nat.land cur (Nat.xor cur new)) ∧ (f.acc = .w1s → got = Nat.lor cur new) ∧
        (f.acc = .rwp → s.rwpRefused o v = true → got = cur) ∧
        (f.acc = .rwp → s.presence = true → s.fieldLocked f = false → actionBits.contains f = false →
          got = if s.fieldLegal o f v && crossOk o v then new else cur) ∧
        (f.acc = .rwt → s.fieldLocked f = false → actionBits.contains f = false → got = if s.fieldLegal o f v && crossOk o v then new else cur))

/-- With access open to host software or the supervisor: a write to an aligned register of BAR0 that has no row of its own writes its
fields by their access codes and starts what the register starts; a read of one answers its present word, sets its RC fields to 0 (a
largest count to the count of that instant, the model's reading of log 139) and leaves every other field and register as it was. A host
read of a hole answers all ones and a host write of one writes nothing; both record the default-target access (source 865, WRITE as it
was, MASTER 0xF, the offset). A misaligned access raises 864, and a read among them answers all ones; a write of 1 or 2 bytes raises
864; an aligned read of 1 or 2 bytes answers its bytes of the read of the whole word, and an aligned access of 8 bytes is two of 4. With
access closed none of them does anything. -/
def Obligations.RegisterReadsAndWrites : Prop :=
  ∀ (s : State) (o v : Nat),
    (∀ p, p = .host ∨ p = .supervisor → s.onPath p = true → isHole o = false → o % 4 = 0 → fieldsAt o ≠ [] →
      (isReg DRV_SPAN_SPAN_PRI o = false → isReg SNS_CTRL_LINE_CHECK o = false → o ≠ MTX_CTRL_REMAP.off →
        exec (.registerWrite p o v) s = .next (State.afterWrite s o (v % 2 ^ 32) (s.plainWrite o (v % 2 ^ 32)))) ∧
      (isReg TCAP_NS_NS o = false → isShadow o = false → ∃ t, exec (.rcRegisterRead p o) s = .next t ∧ t.out = .value o (s.view o) :: s.out ∧
        (∀ a, a ≠ o → t.word a = s.word a) ∧
        (∀ f ∈ fieldsAt o, getBits (t.word o).toNat f.lo f.wd = if f.acc ≠ .rc then getBits (s.word o).toNat f.lo f.wd
          else if f = CPX_SESS_PEAK then s.nOpen % 2 ^ f.wd else if f = ADM_POOL_PEAK then s.adm.reqs.length % 2 ^ f.wd else 0) ∧
        t = { s with regs := t.regs, shadow := t.shadow, cpx := t.cpx, out := t.out })) ∧
    (s.windowOpen = true → isHole o = true → ∃ t u, exec (.rcRegisterRead .host o) s = .next t ∧ exec (.registerWrite .host o v) s = .next u ∧
      t.out = .value o (2 ^ 32 - 1) :: s.out ∧ u.out = s.out ∧ t.reg MTX_ERR_HI_WRITE = 0 ∧ u.reg MTX_ERR_HI_WRITE = 1 ∧
      ∀ x ∈ [t, u], x.reg MTX_ERR_LO_ADDR_LO = o % 2 ^ 32 ∧ x.reg MTX_ERR_HI_MASTER = 0xF ∧
        x.reg MTX_CNT1_DEFAULT = min (2 ^ MTX_CNT1_DEFAULT.wd - 1) (s.reg MTX_CNT1_DEFAULT + 1) ∧
        (∀ a, a ≠ MTX_ERR_LO_ADDR_LO.off → a ≠ MTX_ERR_HI_MASTER.off → a ≠ MTX_CNT1_DEFAULT.off → x.word a = s.word a) ∧
        x = { s with regs := x.regs, free := s.free + 1, out := x.out, flt := { s.flt with raises := s.flt.raises ++ [{ src := 865 }] } }) ∧
    (s.windowOpen = true → o < 0x1000000 → (o % 4 ≠ 0 → exec (.bar0IllegalAccess true o 4 v) s = .next (s.raise 864 o)) ∧
      (o % 4 ≠ 0 → exec (.bar0IllegalAccess false o 4 v) s = .next ((s.raise 864 o).send (.value o (2 ^ 32 - 1)))) ∧
      exec (.bar0IllegalAccess true o 1 v) s = .next (s.raise 864 o) ∧ exec (.bar0IllegalAccess true o 2 v) s = .next (s.raise 864 o) ∧
      (∀ n, n = 1 ∨ (n = 2 ∧ o % 2 = 0) → exec (.bar0IllegalAccess false o n v) s = .next (
        let a := s.barRead false (o / 4 * 4)
        a.1.send (.value o (a.2 / 2 ^ (8 * (o % 4)) % 2 ^ (8 * n))))) ∧
      (o % 2 ≠ 0 → exec (.bar0IllegalAccess false o 2 v) s = .next ((s.raise 864 o).send (.value o (2 ^ 16 - 1)))) ∧
      (o % 8 = 0 → exec (.bar0IllegalAccess true o 8 v) s = .next ((s.barWrite false o (v % 2 ^ 32)).barWrite false (o + 4) (v / 2 ^ 32 % 2 ^ 32)) ∧
        exec (.bar0IllegalAccess false o 8 v) s = .next (
          let a := s.barRead false o
          let b := a.1.barRead false (o + 4)
          b.1.send (.value o (a.2 + 2 ^ 32 * b.2)))) ∧
      (o % 8 ≠ 0 → exec (.bar0IllegalAccess true o 8 v) s = .next (s.raise 864 o) ∧
        exec (.bar0IllegalAccess false o 8 v) s = .next ((s.raise 864 o).send (.value o (2 ^ 64 - 1))))) ∧
    (∀ p, s.onPath p = false → exec (.registerWrite p o v) s = .next s ∧ exec (.rcRegisterRead p o) s = .next s) ∧
    (s.windowOpen = false → ∀ w n, exec (.bar0IllegalAccess w o n v) s = .next s)

/-- Outside reset a marker is carried out at the first multiple of 3,200 ticks of DT at or after the present DT, and one frame after the
last marker or later. With the tree clock lost only time, a time step and the service states move on. In each tile the frame count goes
up by one, slot 0 comes next and the drive banks exchange; no other tile changes. A lane in BURST goes to PARK at once when the device
has resigned or its LOOP_EN or row is off; else it stays until its bursts have ended, then goes to PARK after a dark plan, under a park
hold or when a clear suppressed them, to HOLD under a domain hold with the bank's codes, and to FEEDBACK with a handover otherwise. A
clear that began and ended since the last marker takes a lane through PARK at its park codes. A lane in FEEDBACK enters HOLD with the
codes of the frame just completed, a lane in HOLD leaves it for re-acquire when nothing holds it, a lane in PARK enters FEEDBACK when it
has a valid target and a gain set; in a standby every lane but one with a dark plan that commits or ends on this marker enters SHADOW
and stays there until the device takes the domain. QUARANTINE_END goes to the time at which the quarantine of the session record ends,
when this and every other record whose quarantine has ended is invalid; it does nothing for another record. -/
def Obligations.FrameMarkerRules : Prop :=
  (∀ s : State, s.started = false → s.dt ≤ s.nextMarker ∧ s.nextMarker < s.dt + 3200 ∧ s.nextMarker % 3200 = 0) ∧
  (∀ s : State, s.started = true → s.dt ≤ s.nextMarker ∧ s.marker + 3200 ≤ s.nextMarker) ∧
  (∀ s : State, exec .frameMarker s = .next (if s.inReset then s else s.frameMarker)) ∧
  (∀ s : State, s.inReset = false → ∃ t, exec .frameMarker s = .next t ∧ t.started = true ∧ t.marker ≤ t.dt ∧
    s.tick + (s.nextMarker - s.dt) ≤ t.tick ∧ ((∀ st, s.tmu.step = some st → st.fixed = false) → t.marker = s.nextMarker) ∧
    (s.fab.treeLost = false → ∀ k, k < 96 → (t.tile k).frame = (s.tile k).frame + 1 ∧ (t.tile k).slot = 0 ∧ (t.tile k).begun = 0) ∧
    (s.fab.treeLost = true → ∀ k, (t.tile k).frame = (s.tile k).frame)) ∧
  (∀ s : State, s.inReset = false → s.fab.treeLost = true → exec .frameMarker s =
    .next ({ (s.advanceTo s.nextMarker) with marker := s.nextMarker, started := true } : State).stepAtMarker.serviceMarker) ∧
  (∀ (s : State) (t : Nat), ((s.countFrame t).tile t).frame = (s.tile t).frame + 1 ∧ ((s.countFrame t).tile t).slot = 0 ∧
    ((s.countFrame t).tile t).begun = 0 ∧ ((s.countFrame t).tile t).lanes = (s.tile t).lanes ∧
    (∀ u, u ≠ t → (s.countFrame t).tile u = s.tile u ∧ (s.swapTile t).tile u = s.tile u) ∧
    ((s.swapTile t).tile t).cur = (s.tile t).nxt ∧ ((s.swapTile t).tile t).nxt = (s.tile t).cur) ∧
  (∀ (l : Lane) (v : LaneEnv) (x : LaneIn), v.standby = false →
    (l.mode = .burst → v.resigned = false → x.parked = false → v.marker < l.burstTo → l.atMarker v x = l) ∧
    (l.mode = .burst → (v.resigned = true ∨ x.parked = true) → ¬ (l.dark = true ∧ (l.burstTo ≤ v.marker ∨ v.commits = true)) →
      (l.atMarker v x).mode = .park ∧ (l.atMarker v x).tgtValid = (l.tgtValid && !l.dark)) ∧
    (v.cleared = true → l.mode ≠ .burst → l.mode ≠ .shadow →
      ((v.park = true ∨ x.parked = true ∨ (x.enterCal = false ∧ (l.tgtValid && x.gainOk && !v.held) = false)) →
        (l.atMarker v x).mode = .park ∧ (l.atMarker v x).uaP = x.parkP ∧ (l.atMarker v x).uaT = x.parkT) ∧
      (v.park = false → x.parked = false → x.enterCal = false → l.tgtValid = true → x.gainOk = true → v.held = false →
        (l.atMarker v x).mode = .feedback ∧ (l.atMarker v x).fromPark = true ∧ (l.atMarker v x).fbFrom = v.frame)) ∧
    (l.mode = .burst → v.resigned = false → l.burstTo ≤ v.marker →
      (l.dark = true → (l.atMarker v x).mode = .park ∧ (l.atMarker v x).tgtValid = false) ∧
      (l.dark = false → (v.park = true ∨ x.parked = true ∨ l.cleared = true) → (l.atMarker v x).mode = .park) ∧
      (l.dark = false → v.park = false → x.parked = false → l.cleared = false → v.held = true →
        (l.atMarker v x).mode = .hold ∧ (l.atMarker v x).heldP = x.bankP ∧ (l.atMarker v x).heldT = x.bankT ∧ (l.atMarker v x).holdCnt = 0) ∧
      (l.dark = false → v.park = false → x.parked = false → l.cleared = false → v.held = false →
        (l.atMarker v x).mode = .feedback ∧ (l.atMarker v x).handover = true)) ∧
    (v.park = false → x.parked = false → v.cleared = false →
      (l.mode = .feedback → v.held = true → x.wasCal = false →
        (l.atMarker v x).mode = .hold ∧ (l.atMarker v x).heldP = x.prevP ∧ (l.atMarker v x).heldT = x.prevT) ∧
      (l.mode = .feedback → v.held = false → l.divHold = false → x.enterCal = false → l.atMarker v x = l) ∧
      (l.mode = .hold → l.drift = false → v.held = false → l.divHold = false → l.holdCnt + 1 < l.holdMax →
        (l.atMarker v x).mode = .feedback ∧ (l.atMarker v x).fbFrom = v.frame) ∧
      (l.mode = .hold → l.drift = false → v.held = true → (l.atMarker v x).mode = .hold ∧ (l.atMarker v x).holdCnt = l.holdCnt + 1) ∧
      (l.mode = .park → l.tgtValid = true → x.gainOk = true → v.held = false → x.enterCal = false →
        (l.atMarker v x).mode = .feedback ∧ (l.atMarker v x).fromPark = true))) ∧
  (∀ (l : Lane) (v : LaneEnv) (x : LaneIn),
    (l.mode = .shadow → v.takes = false → l.atMarker v x = l) ∧
    (l.mode ≠ .shadow → v.standby = true → ¬ (l.mode = .burst ∧ l.dark = true ∧ (l.burstTo ≤ v.marker ∨ v.commits = true)) →
      (l.atMarker v x).mode = .shadow ∧ (l.atMarker v x).snapMode = .park) ∧
    (l.mode = .burst → l.dark = true → l.burstTo ≤ v.marker → (l.atMarker v x).mode = .park ∧ (l.atMarker v x).tgtValid = false) ∧
    (l.mode = .burst → l.dark = true → v.marker < l.burstTo → v.commits = true → l.atMarker v x = l)) ∧
  (∀ (s : State) (i : Nat), s.inReset = false → i < 16384 →
    ((s.sess i).quar = false → exec (.quarantineEnd i) s = .next s) ∧
    ((s.sess i).quar = true → ∃ t, exec (.quarantineEnd i) s = .next t ∧ t.tick = s.tick + ((s.sess i).ageAt - s.tick) ∧
      t.dt = s.dt + ((s.sess i).ageAt - s.tick) ∧ t.sess i = {} ∧
      (∀ k, ((s.sess k).quar = true → (s.sess k).ageAt ≤ t.tick → t.sess k = {}) ∧
        (((s.sess k).quar = false ∨ t.tick < (s.sess k).ageAt) → t.sess k = s.sess k)) ∧
      t = { s with dt := t.dt, tick := t.tick, cpx := { s.cpx with sessions := t.cpx.sessions } }))

/-- A well-formed TXN_STAGE of a ring enters admission with the ring's tenant and class, its actions, claims, commit DT and answer; when
the tenant is enabled and unpoliced, the objects are valid, the device leads and the queue has room, the request joins it. When the copy
into the pending banks completes, a transaction in STAGING without a commit DT is STAGED, and one with it is ARMING and its tiles are
armed, but for a standby's. TXN_ARM of a staged transaction that passes every check gives it its commit DT and deadline, answers DONE,
arms its tiles and is forwarded. TXN_ABORT of a transaction that is not armed yet, and whose deadline has not passed, answers DONE and
ends it ABORTED; where a QUENCH or a fence falls no later, that comes first and the abort is refused with BAD_OBJECT. A frozen bank
whose conditions all hold reports armed at the present DT; nothing else changes. At its deadline tick a transaction in ARMING whose
tiles are all armed is ARMED and noted; with a tile that is not armed TXN_ERR records the first tile and reason, the tile's miss is
counted, and the transaction ends NOT_ARMED, also from STAGING. A QUENCH or a fence that falls at or before the deadline comes first. At
the deadline of a transaction that is neither in ARMING nor in STAGING with a commit DT nothing changes. ARMED_REPORT changes nothing in
a bank that is not frozen or that fails a condition. -/
def Obligations.TransactionsAreStagedArmedAndAborted : Prop :=
  ∀ (s : State),
    (∀ c0 : HostCmd, s.hostReady c0 2 = true →
      let c := s.asFetched c0
      let u := s.startCmd c
      let r : Req := { src := c.src, tenant := (u.ringTenant c.ring).1, cls := (u.ringTenant c.ring).2, order := 16384 + c.ring,
                       plan := c.stagePlan, edits := c.stageEdits, claims := c.stageClaims, commit := u.stageCommitArg c,
                       answer := c.stageAnswer, fwd := (1, c.desc) }
      u.stageFieldBad c = false →
      exec (.txnStage c0) s = .next (u.admArrive r) ∧
      ((u.tenant r.tenant).en = true → (u.tenant r.tenant).police = false → u.objectsValid r.plan r.edits = true → u.leads = true →
        (u.adm.reqs.filter (inQueue r)).length < (u.classOf r.tenant r.cls).qmax → u.adm.reqs.length < 8192 →
        ∃ t q, exec (.txnStage c0) s = .next t ∧ t.adm.reqs = u.adm.reqs ++ [q] ∧
          q = { r with charge := u.chargeOf (some (r.tenant, r.cls)) r.plan r.edits, arrival := u.dt, dark := isDark r.plan r.edits,
                       named := u.namedElems r.plan r.edits })) ∧
    (∀ i, i < 63 → (s.slot i).st = .staging → (s.slot i).commit = none →
      exec (.stageCopyDone i) s = .next ((s.stageDone i).modSlot i (fun t => { t with st := .staged }))) ∧
    (∀ i m, i < 63 → (s.slot i).st = .staging → (s.slot i).commit = some m →
      let u := (s.stageDone i).modSlot i (fun t => { t with st := .arming })
      exec (.stageCopyDone i) s = .next (if u.role = roleStandby then u else u.armTiles i m)) ∧
    (∀ (c0 : HostCmd) i, s.hostReady c0 3 = true →
      let c := s.asFetched c0
      let v := s.startCmd c
      let h := le16 c.desc 8
      let d := v.dtArg c.desc 10
      zeros c.desc 22 42 = true → d.ok = true → v.armChecks c.src h d = none → v.findHandle h = some i →
      let u := (v.modSlot i (fun t => { t with st := .arming, commit := some d.tick, deadline := d.tick - nsUp v.margin, reportSrc := c.src })).reply
        c.src .done 0 false (leBytes 2 h ++ leBytes 6 0 ++ dt12 (dtOf d.tick))
      exec (.txnArm c0) s = .next ((if u.role = roleStandby then u else u.armTiles i d.tick).forwardHost h c)) ∧
    (∀ (c0 : HostCmd) i, s.hostReady c0 4 = true →
      let c := s.asFetched c0
      let u := s.startCmd c
      let h := le16 c.desc 8
      zeros c.desc 10 54 = true → u.findHandle h = some i → u.mayAct c.src = true →
      ((u.slot i).st = .staged ∨ ((u.slot i).st = .staging ∧ (u.slot i).commit = none) ∨
        (((u.slot i).st = .staging ∨ (u.slot i).st = .arming) ∧ u.dt ≤ (u.slot i).deadline)) →
      ((∀ q, u.txn.quenchAt = some q → u.dt < q) → u.fenceBefore i u.dt = false →
        ((u.slot i).reportSrc ≠ .nobody →
          exec (.txnAbort c0) s = .next (((u.reply c.src .done 0 true []).forwardHost h c).endTxn i .aborted)) ∧
        ((u.slot i).reportSrc = .nobody → exec (.txnAbort c0) s = .next
          ((((u.reply c.src .done 0 false []).modSlot i (fun t => { t with reportSrc := c.src })).forwardHost h c).endTxn i .aborted))) ∧
      ((∀ q, u.txn.quenchAt = some q → u.dt < q) → u.fenceBefore i u.dt = true →
        exec (.txnAbort c0) s = .next (((u.endTxn i .aborted).txnErr (some h) 2 0x7F).refuse c.src .badObject 0)) ∧
      (∀ q, u.txn.quenchAt = some q → q ≤ u.dt → u.quenchTick.findHandle h = none →
        exec (.txnAbort c0) s = .next ((u.quenchTick.txnErr (some h) 2 0x7F).refuse c.src .badObject 0))) ∧
    (∀ t k, t < 96 → k < 2 → ((s.tile t).pend k).st = .frozen → s.condFail t k = none → ∃ u : State, exec (.armedReport t k) s = .next u ∧
      (u.tile t).pend k = { ((s.tile t).pend k) with st := .armed, report := some s.dt } ∧ (u.tile t).pend (1 - k) = (s.tile t).pend (1 - k) ∧
      (∀ t', t' ≠ t → u.tile t' = s.tile t') ∧ u = { s with tiles := u.tiles }) ∧
    (∀ t k, ((s.tile t).pend k).st ≠ .frozen ∨ s.condFail t k ≠ none → exec (.armedReport t k) s = .next s) ∧
    (∀ i, i < 63 → s.role ≠ roleStandby →
      let d := (s.slot i).deadline
      let u := s.advanceTo d
      let due (v : State) : Bool := decide ((v.slot i).st = .arming) || (decide ((v.slot i).st = .staging) && (v.slot i).commit.isSome)
      (due s = false → exec (.armDeadline i) s = .next s) ∧
      (∀ q, s.txn.quenchAt = some q → q ≤ d → due s = true → due s.quenchTick = false → exec (.armDeadline i) s = .next s.quenchTick) ∧
      (due s = true → (∀ q, s.txn.quenchAt = some q → d < q) →
        (s.fenceBefore i d = true → exec (.armDeadline i) s = .next (s.endTxn i .aborted)) ∧
        (s.fenceBefore i d = false → (u.slot i).st = .arming → u.notArmed i = none → exec (.armDeadline i) s =
          .next ((u.modSlot i (fun t => { t with st := .armed })).note (u.handle i) 2 0 (s.slot i).commit 0 0xFFFF 0 0 0)) ∧
        (∀ k r, s.fenceBefore i d = false → u.notArmed i = some (k, r) → exec (.armDeadline i) s =
          .next ((((((u.setReg TXN_ERR_HANDLE 0 (u.handle i)).setFlag TXN_ERR_NO_HANDLE 0 false).setReg TXN_ERR_REASON 0 r).setReg TXN_ERR_TILE 0 k).inc
            TXN_TCNT_ARM_MISS k).endTxn i .notArmed))))

/-- On the commit tick c of an armed transaction every involved tile commits its bank, the transaction is BURSTING, or DONE without a
tile, the commit is counted and the lane counts follow; a QUENCH at or before c comes first, and a fence at or before c aborts it. A
standby applies a noted commit at its tick, once. Committing bank k of a tile records c as its last commit, puts the bank into BURSTING,
its changed lanes into BURST with their setpoints or every lane into BURST with the dark mark under a dark plan, and touches no other
tile. A demand fixes the QUENCH tick 64 ticks later unless one is fixed or committing, or the device is in reset. On the QUENCH tick q
every slot's transaction ends or is cut short, every owned populated tile takes the dark plan, QDT holds q, the quench is counted and
noted; in such a tile every lane of a populated row outside SHADOW is in BURST with the dark mark and SHADOW stays. BURSTS_END goes to
the end of the tile's QUENCH bursts, or of the next commit bank whose burst runs in the tile and which then waits for its window,
whichever is first; the sequencer is then idle unless other bursts have replaced these, and domains that wait for it are released. When
no involved tile bursts any more a dark transaction ends DONE, and another gives its banks back and is VERIFYING. A verify window closes
at its time. When its last frame has been processed, or every lane is verified, the tile's lanes still to be verified are late, and when
every tile has decided the transaction ends DONE or SETTLE_LATE with their count and the lowest. -/
def Obligations.CommitsAndQuenchesInEveryTile : Prop :=
  ∀ (s : State),
    (∀ h i c, s.findHandle h = some i → (s.slot i).st = .armed → (s.slot i).commit = some c →
      ((∀ q, s.txn.quenchAt = some q → c < q) →
        (s.fenceBefore i c = true → s.handle i = h → exec (.commitTick h) s = .next (s.endTxn i .aborted)) ∧
        (s.fenceBefore i c = false → s.handle i = h →
          let u := ((State.forEach (s.advanceTo c) (fun s k => match (s.tile k).bankOf h with
              | some b => s.commitTile c k b
              | none => s) (s.slot i).tiles).modSlot i (fun t => { t with st := .bursting, applied := true })).inc TXN_CNT0_COMMITS
          let v := State.forEach u State.refreshModes (s.slot i).tiles
          exec (.commitTick h) s = .next (if (s.slot i).tiles.isEmpty then v.endTxn i .done else v) ∧
            ((s.slot i).tiles ≠ [] → ∃ t, exec (.commitTick h) s = .next t ∧ (t.slot i).st = .bursting ∧ (t.slot i).applied = true))) ∧
      (∀ q, s.txn.quenchAt = some q → q ≤ c → ((s.quenchTick).slot i).st ≠ .armed → exec (.commitTick h) s = .next s.quenchTick)) ∧
    (∀ h i c, s.findHandle h = some i → (s.slot i).st ≠ .armed → (s.slot i).note2 = some c →
      exec (.commitTick h) s = .next (if s.role = roleStandby ∧ (s.slot i).applied = false then s.shadowCommit i c else s)) ∧
    (∀ h, s.findHandle h = none → exec (.commitTick h) s = .next s) ∧
    (∀ c t k, k < 2 → let u := s.commitTile c t k
      let p := (s.tile t).pend k
      (u.tile t).lastCommit = some c ∧ ((u.tile t).pend k).st = .bursting ∧ (u.tile t).pend (1 - k) = (s.tile t).pend (1 - k) ∧
      (p.dark = true → ∀ e ∈ s.popElems t, ((u.tile t).lane e).mode = .burst ∧ ((u.tile t).lane e).dark = true) ∧
      (p.dark = false → ∀ e r, p.named.filter (fun q => decide (q.1 = e)) = [(e, r)] → ((u.tile t).lane e).rT = r ∧ ((u.tile t).lane e).tgtValid = true ∧
        (s.laneChanged t e = true → ((u.tile t).lane e).mode = .burst ∧ ((u.tile t).lane e).r = r) ∧
        (s.laneChanged t e = false → ((u.tile t).lane e).mode = ((s.tile t).lane e).mode)) ∧
      (∀ t', t' ≠ t → u.tile t' = s.tile t') ∧ u.dt = s.dt) ∧
    (let no := s.inReset || s.txn.quenchAt.isSome || s.flag TXN_STATUS_QUENCH_BUSY
     exec .quenchDemand s =
       .next { s with txn := { s.txn with demands := s.txn.demands - 1, quenchAt := if no then s.txn.quenchAt else some (s.dt + 64) } }) ∧
    (s.txn.quenchAt = none → exec .quenchTick s = .next s) ∧
    (∀ q, s.txn.quenchAt = some q →
      let a := State.forEach ({ (s.advanceTo q) with txn := { s.txn with quenchAt := none } } : State) State.quenchTxn allSlots
      let b := (State.forEach a (fun s t => if s.ownsTile t && s.populated t then s.quenchTile q t else s) allTiles).refreshQuench
      let c := (b.setDtRegs TXN_QDT_NS_NS TXN_QDT_FRAC_FRAC TXN_QDT_SEC_LO_SEC_LO TXN_QDT_SEC_HI_SEC_HI (dtOf q)).inc TXN_CNT2_QUENCHES
      exec .quenchTick s = .next ((State.forEach c State.refreshModes allTiles).note 0xFFFF 4 0 (some q) 0 0xFFFF 0 0 0)) ∧
    (∀ q t, let u := s.quenchTile q t
      (u.tile t).lastCommit = some q ∧ (∀ t', t' ≠ t → u.tile t' = s.tile t') ∧
      (∀ e, e ∈ s.popElems t → ((s.tile t).lane e).mode ≠ .shadow → ((u.tile t).lane e).mode = .burst ∧ ((u.tile t).lane e).dark = true) ∧
      (∀ e, e < 128 → ((s.tile t).lane e).mode = .shadow → ((u.tile t).lane e).mode = .shadow)) ∧
    (∀ t, t < 96 →
      ((s.tile t).seq = .quench → (∀ k, (s.tile t).ending = some k → (s.tile t).burstEnd ≤ ((s.tile t).pend k).endAt) → exec (.burstsEnd t) s = .next
        (((((s.advanceTo (s.tile t).burstEnd).targetBurst t).modTile t (fun tl => { tl with seq := .idle })).refreshBurst t).refreshQuench.releaseDue)) ∧
      ((s.tile t).ending = none → (s.tile t).seq ≠ .quench → exec (.burstsEnd t) s = .next s.releaseDue)) ∧
    (∀ t k, t < 96 → (s.tile t).ending = some k → ((s.tile t).seq = .quench → ((s.tile t).pend k).endAt < (s.tile t).burstEnd) →
      let p := (s.tile t).pend k
      let a := s.advanceTo p.endAt
      let b := if (s.tile t).seq = .steep k ∨ (s.tile t).seq = .dwell k then a.targetBurst t else a
      let c := (b.modTile t (fun tl => { (tl.setPend k { (tl.pend k) with ended := true }) with
        seq := if tl.seq = .steep k ∨ tl.seq = .dwell k ∨ tl.seq = .target k then .idle else tl.seq
        vers := tl.vers.map (fun v => if v.handle = p.handle then { v with waiting := true } else v) })).refreshBurst t
      (c.findHandle p.handle = none → exec (.burstsEnd t) s = .next c.releaseDue) ∧
      (∀ i, c.findHandle p.handle = some i → exec (.burstsEnd t) s = .next (c.burstsOver i).releaseDue)) ∧
    (∀ i, ((s.slot i).st = .bursting → (∀ k ∈ (s.slot i).tiles, (s.tile k).stillBursts (s.handle i) = false) →
        ((s.slot i).dark = true → s.burstsOver i = s.endTxn i .done) ∧
        ((s.slot i).dark = false → s.burstsOver i =
          ((s.releaseBanks (s.slot i).tiles (s.handle i)).modSlot i (fun t => { t with st := .verifying })).verifyEnd i)) ∧
      ((s.slot i).st ≠ .bursting ∨ (∃ k ∈ (s.slot i).tiles, (s.tile k).stillBursts (s.handle i) = true) → s.burstsOver i = s)) ∧
    (∀ t h v, (s.tile t).vers.find? (fun v => decide (v.handle = h) && v.opened) = some v → exec (.verifyWindowClose t h) s = .next (s.advanceTo v.closeAt)) ∧
    (∀ t h, (s.tile t).vers.find? (fun v => decide (v.handle = h) && v.opened) = none → exec (.verifyWindowClose t h) s = .next s) ∧
    (∀ t h v, (s.tile t).vers.find? (fun v => decide (v.handle = h)) = some v →
      (((v.opened = true ∧ v.closeAt ≤ s.dt) ∨ ((v.waiting = true ∨ v.opened = true) ∧ v.todo = [])) →
        let u := s.decideWindow t h false
        (∀ i, u.findHandle h = some i → exec (.verifyOutcome t h) s = .next (u.verifyEnd i)) ∧
        (u.findHandle h = none → exec (.verifyOutcome t h) s = .next u)) ∧
      (¬ ((v.opened = true ∧ v.closeAt ≤ s.dt) ∨ ((v.waiting = true ∨ v.opened = true) ∧ v.todo = [])) → exec (.verifyOutcome t h) s = .next s)) ∧
    (∀ t h, ((s.decideWindow t h false).tile t).vers = (s.tile t).vers.map (fun v =>
      if v.handle = h ∧ v.decided = false then { v with decided := true, late := v.todo, todo := [] } else v)) ∧
    (∀ i, let all := (s.slot i).tiles.flatMap (fun k => ((s.tile k).vers.filter (fun v => decide (v.handle = s.handle i))).map (fun v => (k, v)))
      let late := all.flatMap (fun q => q.2.late.map (fun e => 128 * q.1 + e))
      ((s.slot i).st ≠ .verifying ∨ (∃ q ∈ all, q.2.decided = false) → s.verifyEnd i = s) ∧
      ((s.slot i).st = .verifying → (∀ q ∈ all, q.2.decided = true) → ∃ v : State,
        s.verifyEnd i = v.endTxn i (if late = [] then .done else .settleLate) ∧ (v.slot i).nLate = late.length ∧ (v.slot i).firstLate = late.foldl min 0xFFFF))

/-- A host command that passes its checks and that the device may act on. OBJECT_LOAD of an edit of length 0 releases the edit and
answers DONE; one of a plan, an edit or the compensation table is forwarded to the twin and begins its load, a plan slot not being valid
from then on; it waits instead while a transaction is being staged from the plan slot or edit. A gain set goes into the standby bank of
the tiles named and is answered DONE; an image empties its flash slot and begins its load. A waiting load begins once none stages from
it. When a load completes, the plan or edit is the loaded one, free of the matrix's error places, the compensation table waits for its
exchange, and the command is answered DONE; an image that read back as written is taken, another ends INTERNAL. OBJECT_LOAD_RESUME and
OBJECT_LOAD_DONE do nothing without such a load. TABLE_WRITE stores its entries: gain sets, lane configuration and firefly entries in
the standby banks of the tiles named, pool entries that no live list uses, descriptors of lists that are not live, tenants and profiles,
each answered DONE, classifier entries at once or when an older version has drained, and ring contexts, answered when disabled rings are
quiet. TABLE_COMMIT of a tile table makes it pending in every tile of the mask, that of the tenant or profile table pends its exchange,
that of the classifier commits its rules. CAL_LOAD puts its curves into the standby bank of its tile and answers DONE, CAL_SWAP makes
them pending, and CAL_START arms a sweep of a tile that may take it and answers QUEUED. -/
def Obligations.ObjectsAndTablesAreLoadedAndCommitted : Prop :=
  ∀ (s : State),
    (∀ c0 : HostCmd, s.hostReady c0 1 = true →
      let c := s.asFetched c0
      let u := s.startCmd c
      let f := u.forwardHost 0xFFFF c
      zeros c.desc 24 40 = true → c.addr % 4 = 0 →
      (u.mayAct c.src = true → u8 c.desc 21 = 0 → le16 c.data 4 = 1 →
        (c.otype = 1 → 1 ≤ c.number → c.number ≤ 255 → c.len = 49152 → u.stagingFrom (.plan c.number) = false →
          u.planReason c.number c.data = 0 → exec (.objectLoad c0) s = .next (((u.setPlan c.number none).forwardHost 0xFFFF c).pushLoad
            { kind := .plan c.number, src := c.src, cmd := c })) ∧
        (c.otype = 2 → c.number ≤ 4095 → 40 ≤ c.len → c.len ≤ 49188 → c.len % 4 = 0 → u.stagingFrom (.edit c.number) = false →
          u.editReason c.number c.data = 0 → exec (.objectLoad c0) s = .next (f.pushLoad { kind := .edit c.number, src := c.src, cmd := c })) ∧
        (c.otype = 4 → c.number = 0 → c.len = 1044 → (Comp.parse c.data).isSome = true →
          exec (.objectLoad c0) s = .next (f.pushLoad { kind := .comp, src := c.src, cmd := c }))) ∧
      (u.mayAct c.src = true → u8 c.desc 21 = 0 → c.otype = 2 → c.number ≤ 4095 → c.len = 0 →
        exec (.objectLoad c0) s = .next (((f.setEdit c.number none).healEdit c.number).reply c.src .done 0 true [])) ∧
      (u8 c.desc 21 = 0 → ∀ k, ((c.otype = 1 ∧ 1 ≤ c.number ∧ c.number ≤ 255 ∧ c.len = 49152 ∧ k = .plan c.number) ∨
          (c.otype = 2 ∧ c.number ≤ 4095 ∧ 40 ≤ c.len ∧ c.len ≤ 49188 ∧ c.len % 4 = 0 ∧ k = .edit c.number)) → u.stagingFrom k = true →
        exec (.objectLoad c0) s = .next (u.pushLoad { kind := k, src := c.src, cmd := c, waiting := true })) ∧
      (u.mayAct c.src = true → c.otype = 3 → (u8 c.desc 21 ≤ 95 ∨ u8 c.desc 21 = 0xFF) → c.number ≤ 63 → c.len = 256 → ∀ g, GainSet.parse c.data = some g →
        exec (.objectLoad c0) s = .next ((f.forEach (fun s t => s.modTile t (Tile.putGain [(c.number, some g)])) (f.tileArg (u8 c.desc 21))).reply
          c.src .done 0 true [])) ∧
      (u8 c.desc 21 = 0 → c.number = 0 → ∀ fw : Bool, c.otype = (if fw then 5 else 6) → 513 ≤ c.len → c.len ≤ (if fw then 1573376 else 12800) →
        le16 c.data 4 = 1 → imgForm (if fw then 1 else 2) c.data = true → u.presence = true → u.imgAuth c.data = true → (fw = true ∨ u.startup ≠ 2) →
        exec (.objectLoad c0) s = .next ((u.setFlash fw (u.imgSlot fw) []).pushLoad { kind := .image fw, src := c.src, cmd := c }))) ∧
    (∀ n, (∀ l, s.txn.loads[n]? = some l → l.waiting = true → s.stagingFrom l.kind = false →
        exec (.objectLoadResume n) s = .next ((s.dropLoad n).beginLoad l.kind l.cmd l.src)) ∧
      (∀ l, s.txn.loads[n]? = some l → (l.waiting = false ∨ s.stagingFrom l.kind = true) → exec (.objectLoadResume n) s = .next s) ∧
      (s.txn.loads[n]? = none → exec (.objectLoadResume n) s = .next s) ∧
      (∀ same, s.txn.loads[n]? = none → exec (.objectLoadDone n same) s = .next s) ∧
      (∀ same l, s.txn.loads[n]? = some l → l.waiting = true → exec (.objectLoadDone n same) s = .next s) ∧
      (∀ same l, s.txn.loads[n]? = some l → l.waiting = false →
        let d := s.dropLoad n
        let b := l.cmd.data
        (∀ k, l.kind = .plan k → exec (.objectLoadDone n same) s =
          .next (((d.setPlan k (some (Plan.ofBytes b))).heal (planAddr k) 0xC000).reply l.src .done 0 true [])) ∧
        (∀ k, l.kind = .edit k → exec (.objectLoadDone n same) s =
          .next (((d.setEdit k (some (Edit.ofBytes b))).healEdit k).reply l.src .done 0 true [])) ∧
        (l.kind = .comp → exec (.objectLoadDone n same) s =
          .next (({ d with kln := { d.kln with standby := Comp.parse b, pend := true } } : State).reply l.src .done 0 true [])) ∧
        (∀ fw, l.kind = .image fw → exec (.objectLoadDone n same) s =
          .next (if same then d.imageDone fw b l.src else d.refuse l.src .internal 0)))) ∧
    (∀ (c : HostCmd) k, s.mayAct c.src = true → (s.beginLoad (.plan k) c c.src).txn.plans.read none k = none) ∧
    (∀ (c0 : HostCmd) size n, s.hostReady c0 8 = true →
      let c := s.asFetched c0
      let u := s.startCmd c
      let f := u.forwardHost 0xFFFF c
      let done (v : State) : Prop := exec (.tableWrite c0) s = .next (v.reply c.src .done 0 true [])
      let tiles (g : Tile → Tile) : State := f.forEach (fun s t => s.modTile t g) (f.tileArg (u8 c.desc 21))
      tableShape c.table = some (size, n) → c.first + c.count ≤ n → zeros c.desc 22 2 = true → zeros c.desc 32 32 = true →
      c.len = c.count * size → c.addr % 4 = 0 →
      (u.mayAct c.src = true → (u8 c.desc 21 ≤ 95 ∨ u8 c.desc 21 = 0xFF) →
        (c.table = 1 → ∀ l, parseAll (fun _ l => (GainSet.parse l).map some) (c.entries 256) = some l → done (tiles (Tile.putGain l))) ∧
        (c.table = 2 → ∀ l, parseAll LaneCfg.parse (c.entries 16) = some l → done (tiles (Tile.putLcfg l))) ∧
        (c.table = 3 → ∀ l, parseAll (fun _ l => if fireflyOk (le32 l 0) then some (le32 l 0) else none) (c.entries 4) = some l →
          done (tiles (Tile.putFirefly l)))) ∧
      (u.mayAct c.src = true → u8 c.desc 21 = 0 →
        (c.table = 0x10 → (∀ k ∈ allLists, (u.listLive k && u.listHits k c.first c.count) = false) →
          done (f.putPool c.first ((c.entries 16).map (fun p => le128 p.2 0)))) ∧
        (c.table = 0x11 → (∀ p ∈ c.entries 32, u.listLive p.1 = false ∧ u.listOk (ListDesc.parse p.2).1 (ListDesc.parse p.2).2 = true) →
          done (f.putLists c.first ((c.entries 32).map (fun p => (ListDesc.parse p.2).1)))) ∧
        (c.table = 0x20 → ∀ l, parseAll (fun _ => Tenant.parse) (c.entries 16) = some l →
          done { f with adm := { f.adm with tenants := f.adm.tenants.put {} l } }) ∧
        (c.table = 0x21 → ∀ l, parseAll (fun _ => ClassProf.parse) (c.entries 8) = some l →
          done { f with adm := { f.adm with profiles := f.adm.profiles.put {} l } }) ∧
        (c.table = 0x30 → ∀ l, parseAll (fun _ => Proto.parse) (c.entries 48) = some l → exec (.tableWrite c0) s = .next (f.clsOp (.protos l c.src))) ∧
        (c.table = 0x31 → ∀ l, parseAll (fun _ => Act.parse) (c.entries 48) = some l → exec (.tableWrite c0) s = .next (f.clsOp (.acts l c.src)))) ∧
      (u.mayServe = true → u8 c.desc 21 = 0 → c.table = 0x40 → c.ring = 0 → c.first ≠ 0 → ∀ l, parseAll (fun _ => Ring.parse) (c.entries 64) = some l →
        (∀ p ∈ l, p.2.2 = true → (u.ring p.1).st = 0) →
        let v := l.foldl (fun s p => s.putRing p.1 p.2.1 p.2.2) u
        exec (.tableWrite c0) s = .next (({ v with hif := { v.hif with
          closing := v.hif.closing ++ [(c.src, ((l.filter (fun p => !p.2.2)).map Prod.fst).map (fun r => (r, (v.ring r).stale)))] } } : State).closeRings))) ∧
    (∀ c0 : HostCmd, s.hostReady c0 9 = true →
      let c := s.asFetched c0
      let u := s.startCmd c
      let f := u.forwardHost 0xFFFF c
      let k := u8 c.desc 8
      let mask := le64 c.desc 12 + 2 ^ 64 * le32 c.desc 20
      u.mayAct c.src = true → zeros c.desc 9 3 = true → zeros c.desc 24 40 = true →
      ((k = 1 ∨ k = 2 ∨ k = 3) → mask ≠ 0 → exec (.tableCommit c0) s = .next (f.commitTiles c.src k mask)) ∧
      ((k = 0x30 ∨ k = 0x31) → mask = 0 → exec (.tableCommit c0) s = .next (f.clsOp (.commit c.src))) ∧
      (k = 0x20 → mask = 0 → u.admCommitBad k = false → exec (.tableCommit c0) s = .next
        (({ u with adm := { u.adm with tenants := u.adm.tenants.commit, tenantSrc := u.adm.tenantSrc ++ [c.src] } } : State).admStatus.forwardHost 0xFFFF c)) ∧
      (k = 0x21 → mask = 0 → u.admCommitBad k = false → exec (.tableCommit c0) s = .next
        (({ u with adm := { u.adm with profiles := u.adm.profiles.commit, profileSrc := u.adm.profileSrc ++ [c.src] } } : State).admStatus.forwardHost 0xFFFF c))) ∧
    (∀ (c0 : HostCmd) l, s.hostReady c0 5 = true →
      let c := s.asFetched c0
      let u := s.startCmd c
      u8 c.desc 20 ≤ 95 → 1 ≤ le16 c.desc 22 → u8 c.desc 21 + le16 c.desc 22 ≤ 128 → zeros c.desc 24 40 = true →
      c.len = 128 * le16 c.desc 22 → c.addr % 4 = 0 → allSome ((chunks 128 (le16 c.desc 22) c.data).map Curve.parse) = some l →
      u.mayAct c.src = true → exec (.calLoad c0) s = .next (((u.forwardHost 0xFFFF c).modTile (u8 c.desc 20)
        (Tile.putCurves ((l.zipIdx).map (fun p => (u8 c.desc 21 + p.2, p.1))))).reply c.src .done 0 true [])) ∧
    (∀ c0 : HostCmd, s.hostReady c0 7 = true →
      let c := s.asFetched c0
      let u := s.startCmd c
      le64 c.desc 8 + 2 ^ 64 * le32 c.desc 16 ≠ 0 → zeros c.desc 20 44 = true → u.mayAct c.src = true →
      exec (.calSwap c0) s = .next ((u.forwardHost 0xFFFF c).commitTiles c.src 4 (le64 c.desc 8 + 2 ^ 64 * le32 c.desc 16))) ∧
    (∀ c0 : HostCmd, s.hostReady c0 6 = true →
      let c := s.asFetched c0
      let u := s.startCmd c
      u8 c.desc 8 ≤ 95 → u8 c.desc 9 ≤ 1 → u8 c.desc 14 ≠ 0 → le128 c.desc 16 ≠ 0 → zeros c.desc 15 1 = true →
      zeros c.desc 32 32 = true → u.mayServe = true →
      let w : Sweep := {
        src := c.src
        elems := bitsOf 128 (le128 c.desc 16)
        node := u8 c.desc 9
        start := le16 c.desc 10
        step := les16 c.desc 12
        dwell := u8 c.desc 14 }
      u.sweepOk (u8 c.desc 8) w = true → exec (.calStart c0) s = .next ((u.sweepStart (u8 c.desc 8) w).reply c.src .queued 0 false []))

/-- A well-formed calendar action that the device may carry out: START of an idle list puts it in WAITING on its base and answers DONE,
or, late, on the base and with the status of its policy, which marks it LATE; STOP_BOUNDARY of a live list without a pending stop or
swap notes the first boundary at least CAL_LEAD ahead, none for a one-shot list, and answers QUEUED; STOP_NOW of a live list that is no
swap's replacement makes it IDLE at once with event 621, cancels its pending swap, which ends ABORTED, ends its pending stop DONE, and
answers DONE; SWAP of a live list puts the idle replacement in WAITING on the boundary and marks both lists. At an issue point of a
leading device, once every tile involved has a free bank, an instance that collides is not issued, counted COLLIDED with event 623; one
that is late is counted MISSED; an essential one is issued, and another one when its turn under the throttle has come, and is otherwise
counted SKIPPED; one whose pool entry or object holds an uncorrectable word fails. CAL_ISSUE_POINT does nothing on a device that does
not lead, for a list that is not live or has no instance left, or while the calendar's matrix IDs are being retired. A cycle boundary
counts one cycle and at a stop's boundary ends the list and answers DONE; for a list that is not live or one-shot CAL_CYCLE_BOUNDARY
does nothing. A list that starts is WAITING on its base in cycle 0 with its first entry next; one that ends is IDLE without a pending
stop or swap. -/
def Obligations.CalendarListsStartStopSwapAndIssue : Prop :=
  ∀ (s : State),
    (∀ c0 : HostCmd, s.hostReady c0 9 = true →
      let c := s.asFetched c0
      let v := s.startCmd c
      let a := u8 c.desc 10
      let b := u8 c.desc 11
      let ready (act : Nat) : Prop := u8 c.desc 8 = 0x11 ∧ u8 c.desc 9 = act ∧ a ≤ 15 ∧ zeros c.desc 12 52 = true ∧ v.mayAct c.src = true
      let free : Prop := v.listLive a = true ∧ v.flag CAL_L_STATE_SWAP_PEND a = false ∧ v.flag CAL_L_STATE_STOP_PEND a = false
      let x := v.boundaryFrom a (v.dt + v.leadTicks)
      (∀ base st, ready 1 → b = 0 → v.listSt a = calIdle → v.leadShort = false → v.domsMeet a a = false → v.startFor c.src a = some (base, st) →
        exec (.calendarStart c0) s = .next (((if st = .done then v.startList a base else (v.startList a base).setFlag CAL_L_STATE_LATE a true).reply
          c.src st 0 true []).forwardHost 0xFFFF c)) ∧
      (ready 2 → b = 0 → free → exec (.stopBoundary c0) s = .next ((((v.setFlag CAL_L_STATE_STOP_PEND a true).modCalList a (fun l => { l with
        stopAt := if v.listCycle a = 0 then none else some x
        stopSrc := c.src })).reply c.src .queued 0 false []).forwardHost 0xFFFF c)) ∧
      (ready 3 → b = 0 → v.listLive a = true → v.isReplacement a = false →
        let owed := (v.calList a).stopSrc
        let e := v.endList a
        let f := if v.flag CAL_L_STATE_SWAP_PEND a then (State.cancelList 16 (v.reg CAL_L_STATE_SWAP_WITH a) e).reply owed .aborted 0 true [] else e
        let g := if v.flag CAL_L_STATE_STOP_PEND a then f.reply owed .done 0 true [] else f
        exec (.stopNow c0) s = .next ((g.reply c.src .done 0 true []).forwardHost 0xFFFF c)) ∧
      (ready 4 → b ≤ 15 → v.listCycle a ≠ 0 → free → v.listSt b = calIdle → v.leadShort = false → v.domsMeet b a = false →
        6400 ≤ v.listCycle a - (v.listEnt a (v.listCount a - 1)).rel + (v.listEnt b 0).rel →
        exec (.calendarSwap c0) s = .next (((((((v.startList b x).setFlag CAL_L_STATE_SWAP_PEND a true).setReg
          CAL_L_STATE_SWAP_WITH a b).setReg CAL_L_STATE_SWAP_WITH b a).modCalList a (fun l => { l with
            stopAt := some x
            stopSrc := c.src })).reply c.src .queued 0 false []).forwardHost 0xFFFF c))) ∧
    (∀ n b, n < 16 → (s.startList n b).listSt n = calWaiting ∧ ((s.startList n b).calList n).base = b ∧ ((s.startList n b).calList n).cycle = 0 ∧
      (s.startList n b).reg CAL_L_POS_NEXT n = 0 ∧ (∀ k, k < 16 → k ≠ n → (s.startList n b).listSt k = s.listSt k) ∧
      (s.endList n).listSt n = calIdle ∧ (s.endList n).flag CAL_L_STATE_SWAP_PEND n = false ∧ (s.endList n).flag CAL_L_STATE_STOP_PEND n = false ∧
      ((s.endList n).calList n).stopAt = none ∧ (∀ k, k < 16 → k ≠ n → (s.endList n).listSt k = s.listSt k)) ∧
    (∀ n, n < 16 →
      let l := s.calList n
      let i := s.reg CAL_L_POS_NEXT n
      let e := s.listEnt n i
      let m := s.nextCommit n
      let u := s.advanceTo (m - s.leadTicks)
      let left : Prop := l.spent = false ∧ (∀ x, l.stopAt = some x → m < x)
      (s.leads = false ∨ s.listLive n = false ∨ ¬ left ∨ s.retiring mtxCalendar = true → exec (.calIssuePoint n) s = .next s) ∧
      (s.retiring mtxCalendar = false → s.leads = true → s.listLive n = true → left →
        let bank := (u.tilesOf e.plan e.edits).all (fun t => (u.freeBank t).isSome)
        let w := (u.setReg CAL_THROTTLE_K 0 u.throttleK).modCalList n (fun l => { l with q := l.q + 1 })
        (∀ d, u.badEntry n i = some d → exec (.calIssuePoint n) s = .next (u.readFail n i d.1 e.ess)) ∧
        (u.badEntry n i = none → bank = false → exec (.calIssuePoint n) s = .next u) ∧
        (u.badEntry n i = none → bank = true →
          (u.collides m e.doms = true →
            exec (.calIssuePoint n) s = .next ((u.notIssued n i CAL_L_CNT1_COLLIDED .conflict).raiseOut 623 .conflict (infoCal n i))) ∧
          (u.collides m e.doms = false → u.ahead m = false →
            exec (.calIssuePoint n) s = .next ((u.notIssued n i CAL_L_CNT0_MISSED .notArmed).essFail n i e.ess .notArmed)) ∧
          (u.collides m e.doms = false → u.ahead m = true → e.ess = true →
            (u.badObject e = none → exec (.calIssuePoint n) s = .next (u.issue n i e m)) ∧
            (∀ d, u.badObject e = some d → exec (.calIssuePoint n) s = .next (u.readFail n i d.1 true))) ∧
          (u.collides m e.doms = false → u.ahead m = true → e.ess = false →
            (l.q % u.throttleK ≠ 0 → exec (.calIssuePoint n) s = .next (w.notIssued n i CAL_L_CNT0_SKIPPED .throttled)) ∧
            (l.q % u.throttleK = 0 → w.badObject e = none → exec (.calIssuePoint n) s = .next (w.issue n i e m)) ∧
            (∀ d, l.q % u.throttleK = 0 → w.badObject e = some d → exec (.calIssuePoint n) s = .next (w.readFail n i d.1 false)))))) ∧
    (∀ n, n < 16 → s.listLive n = true → s.listCycle n ≠ 0 →
      let next := (s.calList n).base + ((s.calList n).passed + 1) * s.listCycle n
      let u := ((s.advanceTo next).inc CAL_L_CYCLES_CYCLES n).modCalList n (fun l => { l with passed := l.passed + 1 })
      ((s.calList n).stopAt = none → exec (.calCycleBoundary n) s = .next u) ∧
      (∀ x, (s.calList n).stopAt = some x → next < x → exec (.calCycleBoundary n) s = .next u) ∧
      ((s.calList n).stopAt = some next → exec (.calCycleBoundary n) s =
        .next ((u.endList n).reply (s.calList n).stopSrc .done 0 true [])) ∧
      (∀ x, (s.calList n).stopAt = some x → x < next → exec (.calCycleBoundary n) s =
        .next (((s.advanceTo x).endList n).reply (s.calList n).stopSrc .done 0 true []))) ∧
    (∀ n, n < 16 → s.listLive n = false ∨ s.listCycle n = 0 → exec (.calCycleBoundary n) s = .next s)

/-- After the tree calibration marker the next admission tick stands 5,120 ticks after the last. ADMISSION_TICK goes there, refills when
due, and carries out true-up, credit rise, bucket refill, ends, recolouring, selection with admission and the idle reset in that order;
the sample falls due on every 16th tick. REFILL carries a due refill out on that tick and REQUEST_EXPIRY ends what has expired there. A
due QUEUE_SAMPLE samples the 24 queues, after the bank exchange when SWAP asks for one; HIST_SWAP sets SWAP. Before that marker
ADMISSION_TICK, REFILL and REQUEST_EXPIRY change nothing, nor do REFILL when none is due, QUEUE_SAMPLE when none is due and HIST_SWAP
without register access. A sample still due comes before the next tick's steps. A credit whose node waits rises by its gain up to its
limit and stands above it; one that does not wait rises to 0 at most. Of the selected requests no two winners conflict, and every loser
conflicts with a winner. -/
def Obligations.AdmissionTicksChargeAndResolve : Prop :=
  (∀ (s : State) m, s.tmu.calMarker = some m →
    let t := m + 5120 * (s.adm.ticks + 1)
    let u := (s.advance (t - s.tick)).refillStep
    let v := (({ u with adm := { u.adm with ticks := u.adm.ticks + 1 } } : State).trueUp.rise.refillBuckets.endStep.recolour.selectAdmit).idleReset
    s.nextAdmTick = some t ∧
    (s.adm.sampleDue = false → exec .admissionTick s = .next { v with adm := { v.adm with sampleDue := decide (v.adm.ticks % 16 = 0) } }) ∧
    (s.adm.sampleDue = true → exec .admissionTick s = .next (s.queueSample.admissionTick t)) ∧
    (s.refillDue = true → exec .refill s = .next u) ∧ (s.refillDue = false → exec .refill s = .next s) ∧
    exec .requestExpiry s = .next u.endStep) ∧
  (∀ s : State, s.tmu.calMarker = none → exec .admissionTick s = .next s ∧ exec .refill s = .next s ∧ exec .requestExpiry s = .next s) ∧
  (∀ s : State, s.adm.sampleDue = false → exec .queueSample s = .next s) ∧
  (∀ s : State, s.adm.sampleDue = true →
    let q (s : State) : State := let u := s.forEach State.sampleQueue (List.range 24); { u with adm := { u.adm with sampleDue := false } }
    (s.flag ADM_HIST_CTRL_SWAP = false → exec .queueSample s = .next (q s)) ∧
    (s.flag ADM_HIST_CTRL_SWAP = true → exec .queueSample s = .next (q s.histSwap))) ∧
  (∀ s : State, exec .histSwap s = .next (if s.windowOpen then s.setFlag ADM_HIST_CTRL_SWAP 0 true else s)) ∧
  (∀ c gain limit : Int, 0 ≤ gain →
    (c < limit → riseCredit c gain limit true = min limit (c + gain)) ∧ (limit ≤ c → riseCredit c gain limit true = c) ∧
    (c < 0 → riseCredit c gain limit false = min 0 (c + gain)) ∧ (0 ≤ c → riseCredit c gain limit false = c)) ∧
  (∀ (s : State) sel, (s.resolve sel).1.Pairwise (fun a b => conflicts b a = false) ∧
    (∀ r ∈ (s.resolve sel).2, ∃ w ∈ (s.resolve sel).1, conflicts r w = true) ∧
    (∀ r ∈ (s.resolve sel).1 ++ (s.resolve sel).2, r ∈ sel))

/-- An enabled port that gains its PCS conditions is up, with UP_CHG set and the cause of its link-lost source ended, and what waits for
it may leave from now on; an up port that loses them is down, with UP_CHG and the cause set and the event raised; on a port that is
disabled, or is down, only the conditions are recorded. A frame on a port that is down is ignored. Of a frame on an up port, one shorter
than 18 bytes or with a bad FCS counts FCS_ERR and one longer than 2,048 bytes OVERSIZE, and nothing else happens but the FEC counts;
any other takes the next stamp of its port and the live rule version, and goes to the next parser engine, where it is classified and
enters the reorder stage; one held in its stages waits inside until it leaves them, one in a failing engine takes that engine out and
raises 634, and with no engine it is dropped and counted ING_DROP. Stamps before the lowest waiting frame are skipped, counted and
reported by 635 10 us after the oldest one entered. Frames of the older version are dropped at most 20 us after a commit. A version
commit exchanges the banks and moves LIVE_VER on by one. With ND_EN an ARP request and a neighbour solicitation for the port's own
address in an acceptable frame count RX_FRAMES and are answered to the sender, a solicitation from the unspecified address to all nodes;
for any other address, or with ND_EN 0, the frame is taken as every received frame is, and one that is not acceptable is counted. -/
def Obligations.ControlPortsTakeFramesAndRules : Prop :=
  ∀ (s : State) (n : Nat), n < 2 → s.inReset = false →
    (s.flag CP_CTRL_EN n = true → s.portUp n = false → ∃ t, exec (.linkUp n) s = .next t ∧ t.portUp n = true ∧ t.reg CP_STATUS_UP_CHG n = 1 ∧
      t.cause (632 + n) = false ∧ s.tick ≤ t.cpx.busy.read 0 n ∧ t.tiles = s.tiles ∧ t.txn = s.txn ∧ t.tick = s.tick) ∧
    (s.flag CP_CTRL_EN n = false → s.portUp n = false → exec (.linkUp n) s = .next
      (((s.setFlag CP_STATUS_BLOCK_LOCK n true).setFlag CP_STATUS_HI_BER n false).setFlag CP_STATUS_FEC_LOCK n (s.flag CP_CTRL_FEC_EN n))) ∧
    (∀ lock ber fec, (lock = false ∨ ber = true ∨ (s.flag CP_CTRL_FEC_EN n = true ∧ fec = false)) →
      let u := s.egress n
      let v := ((u.setFlag CP_STATUS_BLOCK_LOCK n lock).setFlag CP_STATUS_HI_BER n ber).setFlag CP_STATUS_FEC_LOCK n fec
      (s.portUp n = true → exec (.linkDown n lock ber fec) s = .next
        ((((v.setFlag CP_STATUS_UP n false).setFlag CP_STATUS_UP_CHG n true).setCause (632 + n) true).raise (632 + n))) ∧
      (s.portUp n = false → exec (.linkDown n lock ber fec) s = .next v)) ∧
    (∀ lock fec, lock = true → (s.flag CP_CTRL_FEC_EN n = false ∨ fec = true) → exec (.linkDown n lock false fec) s = .next s) ∧
    (∀ f : RxFrame, f.port = n → s.portUp n = false → exec (.frameReceived f) s = .next s) ∧
    (∀ (f : RxFrame) k, f.port = n → s.portUp n = true → f.stage = .left k →
      exec (.frameReceived f) s = .next (match s.cpx.inside.find? (fun h => decide (h.port = n) && decide (h.stamp = k)) with
        | some h => ({ s with cpx := { s.cpx with inside := s.cpx.inside.erase h } } : State).frameOut h
        | none => s)) ∧
    (∀ f : RxFrame, f.port = n → s.portUp n = true → (∀ k, f.stage ≠ .left k) →
      let good := 18 ≤ f.bytes.length ∧ le32 f.bytes (f.bytes.length - 4) = crc32 (noFcs f.bytes)
      let v := if s.flag CP_CTRL_FEC_EN n then (s.count CP_CNT_FEC_FEC_CORR n f.fecCorr).count CP_CNT_FEC_FEC_UNCORR n f.fecBad else s
      (¬ good → exec (.frameReceived f) s = .next (v.inc CP_CNT_ERR_FCS_ERR n)) ∧
      (good → 2048 < f.bytes.length → exec (.frameReceived f) s = .next (v.inc CP_CNT_ERR_OVERSIZE n)) ∧
      (good → f.bytes.length ≤ 2048 →
        let x := v.ptpOther n (noFcs f.bytes)
        let h : InFlight := {
          port := n
          stamp := s.cpx.stamp.read 0 n
          ver := s.reg CPX_STATUS_LIVE_VER
          frame := f.bytes
          rx := stampOf f.rx
          tx := f.tx }
        let u := ({ x with cpx := { x.cpx with stamp := x.cpx.stamp.write 0 n ((x.cpx.stamp.read 0 n + 1) % 65536) } } : State).inc CP_CNT_RX_RX_FRAMES n
        exec (.frameReceived f) s = .next (u.dealFrame f h) ∧
        (u.nextEngine = none ∨ f.stage = .noEngine → u.dealFrame f h =
          (u.inc CP_CNT_DROP_ING_DROP n).enterReorder { frame := h, what := .drop, since := (u.inc CP_CNT_DROP_ING_DROP n).tick }) ∧
        (∀ e, u.nextEngine = some e →
          let d := ({ u with cpx := { u.cpx with engine := (e + 1) % 4 } } : State)
          (f.stage = .held → u.dealFrame f h = { d with cpx := { d.cpx with inside := d.cpx.inside ++ [h] } }) ∧
          (f.stage = .whole → u.dealFrame f h = (d.classify h).1.enterReorder (d.classify h).2) ∧
          (f.stage = .lost → bit ((u.dealFrame f h).reg CPX_STATUS_ENG_OK) e = false ∧
            (u.dealFrame f h).flt.raises = u.flt.raises ++ [{ src := 634 }])))) ∧
    (∀ w l, s.waitingOn n = w :: l →
      let u := s.advance (w.since + usTicks 10 - s.tick)
      let k := ((s.cpx.reorder.filter (fun w => decide (w.frame.port = n))).map s.behind).foldl min 65536
      exec (.reorderTimeout n) s = .next ((((u.count CPX_CNT2_REORDER_SKIP 0 k).raise 635).setRelease n (s.releaseAt n + k)).releasePort n)) ∧
    (s.waitingOn n = [] → exec (.reorderTimeout n) s = .next s) ∧
    (s.flag CPX_STATUS_DRAINING = true → exec .versionDrain s = .next
      ((((s.advance (s.cpx.commitAt + usTicks 20 - s.tick)).dropVersion (s.reg CPX_STATUS_OLD_VER)).releasePort 0).releasePort 1)) ∧
    (s.flag CPX_STATUS_DRAINING = false → exec .versionDrain s = .next s) ∧
    (let t := s.clsCommit .nobody
     t.cpx.live = s.cpx.standby ∧ t.cpx.standby = s.cpx.live ∧ t.reg CPX_STATUS_OLD_VER = s.reg CPX_STATUS_LIVE_VER ∧
      t.reg CPX_STATUS_LIVE_VER = (s.reg CPX_STATUS_LIVE_VER + 1) % 256 ∧ t.cpx.commitAt = s.tick) ∧
    (∀ b : List Byte, s.portUp n = true →
      let good := 18 ≤ b.length ∧ le32 b (b.length - 4) = crc32 (noFcs b)
      let f := noFcs b
      let p := parseFrame f 0
      let arp : Prop := s.flag CPX_CTRL_ND_EN = true ∧ p.deep = false ∧ p.etype = 0x0806 ∧ be32 f p.l3off = 0x00010800 ∧ be32 f (p.l3off + 4) = 0x06040001 ∧
        (s.portId n).v4 ≠ 0 ∧ be32 f (p.l3off + 24) = (s.portId n).v4
      let nd : Prop := s.flag CPX_CTRL_ND_EN = true ∧ p.deep = false ∧ p.l3 = 2 ∧ p.nxt = 58 ∧ u8 f (p.l3off + 7) = 255 ∧ be16 f p.l3end = 0x8700 ∧
        (s.portId n).v6 ≠ 0 ∧ be64 f (p.l3end + 8) * 2 ^ 64 + be64 f (p.l3end + 16) = (s.portId n).v6
      let g : RxFrame := {
        port := n
        bytes := b
        rx := (s.dt * unitsPerTick : Nat)
        tx := (s.dt * unitsPerTick : Nat) }
      let v := if s.flag CP_CTRL_FEC_EN n then (s.count CP_CNT_FEC_FEC_CORR n 0).count CP_CNT_FEC_FEC_UNCORR n 0 else s
      let a := s.inc CP_CNT_RX_RX_FRAMES n
      (¬ good → exec (.arpRequest n b) s = .next (v.inc CP_CNT_ERR_FCS_ERR n) ∧ exec (.neighbourSolicitation n b) s = .next (v.inc CP_CNT_ERR_FCS_ERR n)) ∧
      (good → 2048 < b.length →
        exec (.arpRequest n b) s = .next (v.inc CP_CNT_ERR_OVERSIZE n) ∧ exec (.neighbourSolicitation n b) s = .next (v.inc CP_CNT_ERR_OVERSIZE n)) ∧
      (¬ arp → exec (.arpRequest n b) s = exec (.frameReceived g) s) ∧
      (¬ nd → exec (.neighbourSolicitation n b) s = exec (.frameReceived g) s) ∧
      (good → b.length ≤ 2048 →
        (arp → exec (.arpRequest n b) s = .next (a.sendAnswer n f p 0x0806 (beBytes 4 0x00010800 ++
          beBytes 4 0x06040002 ++ beBytes 6 (a.portId n).mac ++ beBytes 4 (s.portId n).v4 ++ (f.drop (p.l3off + 8)).take 10))) ∧
        (nd → p.src ≠ 0 → exec (.neighbourSolicitation n b) s =
          .next (a.sendAnswer n f p 0x86DD (advertisement (s.portId n).v6 p.src 0x60000000 (a.portId n).mac))) ∧
        (nd → p.src = 0 → exec (.neighbourSolicitation n b) s =
          .next (a.sendAnswer n f p 0x86DD (advertisement (s.portId n).v6 allNodes 0x20000000 (a.portId n).mac)))))

/-- Outside RUN and in label mode no request is acted upon; one whose SRES is MISS counts SESS_MISS, and BAD_VER if its version is not
1; any other counts STBY_DISCARD in a standby, and SESS_GONE when its session has ended. While the device streams its session table a
request is held, and so is the end of an idle session. Otherwise a request that hits an open session with the last sequence number again
counts DUPLICATE and one more than 32 behind counts STALE, and nothing else happens; one whose sequence number is accepted refreshes its
record, is answered with the refusal of the first check of R365 that it fails, and is carried out when it passes: PLAN_SELECT and
EDIT_APPLY enter admission, a CIRCUIT whose ring has room is copied there and answered QUEUED, one without room is answered INTERNAL
with event 638, a QUERY and a HEARTBEAT are answered DONE with their data, a SESSION_CLOSE is answered DONE and ends the session. A
SESSION_OPEN of an enabled tenant takes the record with the same source, is answered again if it repeats its sequence number there, and
otherwise takes the lowest free index; with none free, or for another tenant, it is refused. A session idle for its granted time gets a
NOTICE and ends; a session that ends is in quarantine. The host's SESSION_OP opens a record at a free index, closes, sets the class of
an open one, and answers a CIRCUIT. -/
def Obligations.PartnerRequestsAndSessions : Prop :=
  ∀ (s : State),
    (∀ p ∈ ([(1, Instr.planSelect), (2, .editApply), (3, .circuit), (4, .query), (5, .sessionOpen), (6, .sessionClose), (7, .heartbeat)] :
        List (Nat × (GcrpReq → Instr))), ∀ r : GcrpReq,
      (r.type ≠ p.1 ∨ s.running = false ∨ s.flag CPX_CTRL_MODE_LIVE = false → exec (p.2 r) s = .next s) ∧
      (r.type = p.1 → s.running = true → s.flag CPX_CTRL_MODE_LIVE = true →
        (r.sres = 2 → u8 r.msg 0 = 1 → exec (p.2 r) s = .next (s.inc GCRP_CNT1_SESS_MISS)) ∧
        (r.sres = 2 → u8 r.msg 0 ≠ 1 → exec (p.2 r) s = .next ((s.inc GCRP_CNT1_SESS_MISS).inc GCRP_CNT2_BAD_VER)) ∧
        (r.sres ≠ 2 → s.role = roleStandby → exec (p.2 r) s = .next (s.inc GCRP_CNT2_STBY_DISCARD)) ∧
        (s.role ≠ roleStandby → (r.sres = 1 ∨ r.sres = 3) → s.holdsSessions = true → exec (p.2 r) s = .next (s.holdReq (.partner r))) ∧
        (s.role ≠ roleStandby → r.sres = 1 → s.holdsSessions = false → (s.sess r.session).isOpen = false → exec (p.2 r) s = .next (s.inc GCRP_CNT1_SESS_GONE)) ∧
        (s.role ≠ roleStandby → r.sres = 1 → s.holdsSessions = false → (s.sess r.session).isOpen = true → r.type ≠ 5 →
          ((s.sess r.session).decideSeq r.seq = .duplicate → exec (p.2 r) s = .next (s.inc GCRP_CNT0_DUPLICATE)) ∧
          ((s.sess r.session).decideSeq r.seq = .stale → exec (p.2 r) s = .next (s.inc GCRP_CNT0_STALE)) ∧
          (∀ x st d, (s.sess r.session).decideSeq r.seq = .accepted x → (s.setSess r.session (x.refresh r s.tick)).gcrpCheck r = some (st, d) →
            exec (p.2 r) s = .next ((s.setSess r.session (x.refresh r s.tick)).gcrpEnd r.session r st d))))) ∧
    (∀ (r : GcrpReq) x, s.running = true → s.flag CPX_CTRL_MODE_LIVE = true → s.role ≠ roleStandby → s.holdsSessions = false → r.sres = 1 → (s.sess r.session).isOpen = true →
      (s.sess r.session).decideSeq r.seq = .accepted x →
      let i := r.session
      let u := s.setSess i (x.refresh r s.tick)
      u.gcrpCheck r = none →
      (r.type = 1 → exec (.planSelect r) s = .next (u.changeRequest i r)) ∧
      (r.type = 2 → exec (.editApply r) s = .next (u.changeRequest i r)) ∧
      (r.type = 3 → u.recvRoom r.ring = true → exec (.circuit r) s = .next (((u.fwdGcrp r).postRecv r.ring 0 r.result r.frame).answer i r .queued 0 [])) ∧
      (r.type = 3 → u.recvRoom r.ring = false → exec (.circuit r) s = .next ((u.raiseOut 638 .internal).gcrpEnd i r .internal 2)) ∧
      (r.type = 4 → exec (.query r) s =
        .next ((u.fwdGcrp r).answer i r .done 0 (leBytes 1 (u8 r.body 0) ++ leBytes 3 0 ++ u.queryData i r))) ∧
      (r.type = 6 → exec (.sessionClose r) s = .next (((u.fwdGcrp r).answer i r .done 0 []).endSession i)) ∧
      (r.type = 7 → exec (.heartbeat r) s = .next ((u.fwdGcrp r).answer i r .done 0 (r.body.take 4 ++ dt10 u.now ++ leBytes 2 0)))) ∧
    (∀ (x : Sess) seq, x.rxLast < 2 ^ 32 → seq < 2 ^ 32 →
      (seq = x.rxLast → x.decideSeq seq = .duplicate) ∧
      (seq = (x.rxLast + 1) % 2 ^ 32 → x.decideSeq seq = .accepted { x with rxLast := seq, rxWin := (2 * x.rxWin + 1) % 2 ^ 32 }) ∧
      (x.rxLast = (seq + 33) % 2 ^ 32 → x.decideSeq seq = .stale)) ∧
    (∀ r : GcrpReq, r.type = 5 → s.running = true → s.flag CPX_CTRL_MODE_LIVE = true → s.role ≠ roleStandby → s.holdsSessions = false →
      (r.sres = 3 ∨ (r.sres = 1 ∧ (s.sess r.session).isOpen = true)) →
      let u := s.endQuarantine
      (∀ st d, s.gcrpCheck r = some (st, d) → exec (.sessionOpen r) s = .next (s.openRefused r st d)) ∧
      (s.gcrpCheck r = none → (u.tenant r.tenant).en = false → exec (.sessionOpen r) s = .next (u.openRefused r .badObject 6)) ∧
      (s.gcrpCheck r = none → (u.tenant r.tenant).en = true →
        (∀ i, u.reuseIndex r = some i → (u.sess i).rxLast = r.seq → exec (.sessionOpen r) s = .next (u.openDone i r)) ∧
        (∀ i, u.reuseIndex r = some i → (u.sess i).rxLast ≠ r.seq → exec (.sessionOpen r) s = .next (u.openAt i r (u.sess i).txSeq)) ∧
        (u.reuseIndex r = none → lowestFree 0 u.cpx.sessions < 16384 →
          exec (.sessionOpen r) s = .next (u.openAt (lowestFree 0 u.cpx.sessions) r 0)) ∧
        (u.reuseIndex r = none → 16384 ≤ lowestFree 0 u.cpx.sessions →
          exec (.sessionOpen r) s = .next ((((u.setFlag CPX_SESS_FULL 0 true).sessFull).raise 639).openRefused r .badObject 1)))) ∧
    (∀ i, s.inReset = false → (s.sess i).isOpen = true → s.role ≠ roleStandby → let u := s.advance ((s.sess i).ageAt + 10 * (s.sess i).idle * tenthTicks - s.tick)
      (u.holdsSessions = false → exec (.sessionIdleExpiry i) s = .next (((u.forwardClose i 1).closeNotice i 1).endSession i).sessFull) ∧
      (u.holdsSessions = true → exec (.sessionIdleExpiry i) s = .next { u with twn := { u.twn with heldReqs := u.twn.heldReqs ++ [.closure i 1] } })) ∧
    (∀ i, (s.inReset = true ∨ (s.sess i).isOpen = false ∨ s.role = roleStandby) → exec (.sessionIdleExpiry i) s = .next s) ∧
    (∀ i, ((s.endSession i).sess i).quar = true ∧ ((s.endSession i).sess i).valid = (s.sess i).valid) ∧
    (∀ c0 : HostCmd, s.hostReady c0 10 = true →
      let c := s.asFetched c0
      let u := (s.startCmd c).endQuarantine
      let v := u.forwardHost 0xFFFF c
      c.sess ≤ 16383 → u.mayAct c.src = true →
      (u8 c.desc 8 = 1 → u8 c.desc 9 ≤ 7 → le16 c.desc 12 ≤ 4095 → 1 ≤ le16 c.desc 14 → le16 c.desc 14 ≤ s.reg CPX_GCRP_SESS_IDLE_MAX →
        u8 c.desc 34 ≤ 11 → zeros c.desc 35 1 = true → zeros c.desc 46 18 = true → (u.sess c.sess).valid = false →
        ∃ x : Sess, x.valid = true ∧ x.quar = false ∧ x.host = true ∧ x.tenant = le16 c.desc 12 ∧ x.cls = u8 c.desc 9 ∧ x.idle = le16 c.desc 14 ∧
          x.srcPort = le16 c.desc 32 ∧
          exec (.sessionOpOpen c0) s = .next ((((v.setSess c.sess x).inc GCRP_CNT3_OPENS).sessPeak).reply c.src .done 0 true (leBytes 2 c.sess))) ∧
      ((u.sess c.sess).isOpen = true → zeros c.desc 12 52 = true →
        (u8 c.desc 8 = 2 → zeros c.desc 9 1 = true →
          exec (.sessionOpClose c0) s = .next (((v.closeNotice c.sess 2).endSession c.sess).reply c.src .done 0 true [])) ∧
        (u8 c.desc 8 = 3 → u8 c.desc 9 ≤ 7 →
          exec (.sessionOpSetClass c0) s = .next ((v.setSess c.sess { (v.sess c.sess) with cls := u8 c.desc 9 }).reply c.src .done 0 true []))) ∧
      (∀ st, u8 c.desc 8 = 4 → (u.sess c.sess).isOpen = true → statusOf (u8 c.desc 52) = some st → st ≠ .queued → u8 c.desc 53 ≤ 6 → zeros c.desc 9 1 = true →
        zeros c.desc 12 36 = true → zeros c.desc 54 10 = true →
        exec (.sessionOpAnswer c0) s = .next ((v.respond c.sess (le32 c.desc 48) 3 st (u8 c.desc 53) 0xFFFF []).reply c.src .done 0 true [])))

/-- Outside reset a function level reset (with event 701), a hot reset, PERST_N low and a link loss (link down, cause and event 700)
reset the host island: its registers read their reset values but for the completions lost, every ring is disabled, and no register
outside the island but the cause of source 698, and no other part of the device, changes, but that the commands still running owe their
rings nothing more; the link coming up ends the cause of 700. Bus Master Enable and HIF_CTRL.EN let what is held go out; configuration
requests act while the link is up and the windows are open, and clearing the MSI-X enable or masking the function clears MSIX_EN.
Enabling ring pair 0 gives it its registers' context with indices 0, or in error while ERR is set, and disabling it disables it;
enabling the event ring sets its indices to 0. A KICK of a group counts and issues the read of its line at its address, one of the event
ring publishes its consumer index, with the marker of lost events when there is room again, a bad KICK raises 697; with the register
window closed none of these does anything. A returned line's entries are taken in order, or the failure is recorded, and the line is
idle or read once more; an entry beyond a ring's size puts it in error. A poll at the end of a period kicks each line with a polled
ring. A fetch takes the next slot of the next eligible ring, owes two completions and counts; with none, or with no request to spare, it
does nothing. A returned descriptor becomes a command or a posted buffer, and a failed one puts its ring in error. COAL_US after the
first entry not signalled a ring, or the event ring, signals; unmasking a vector or the function sends what is pending. -/
def Obligations.HostIslandResetsRingsAndDoorbells : Prop :=
  ∀ (s : State), s.inReset = false →
    exec .functionLevelReset s = .next (s.hostReset.raise 701) ∧ exec .hotReset s = .next s.hostReset ∧ exec .pciePerst s = .next s.hostReset ∧
    exec .pcieLinkLoss s = .next (({ s.hostReset with hif := { s.hostReset.hif with link := false } } : State).raiseCond 700) ∧
    ((∀ p ∈ s.hif.closing, ∃ r i k, p.1 = .host r i k) → let t := s.hostReset
      (∀ r, (t.ring r).st = 0 ∧ (t.ring r).cmds = [] ∧ (t.ring r).bufs = [] ∧ (t.ring r).fetching = 0) ∧
      t.hif.due = [] ∧ t.hif.lines = [] ∧ t.hif.kicks = [] ∧ t.hif.evtPi = 0 ∧ t.hif.evtCi = 0 ∧ t.hif.pba = [] ∧
      (∀ o, 0x260000 ≤ o → o < 0x280000 → o ≠ HIF_CNT1_ORPHANS.off → t.word o = resetWord o) ∧
      (∀ o, o < 0x260000 ∨ 0x280000 ≤ o → o ≠ FLT_CAUSE_CAUSE.offAt (698 / 32) → t.word o = s.word o) ∧ t.cause 698 = false ∧
      t = { (s.orphanCmds (fun _ => true)) with regs := t.regs, eff := t.eff, hif := t.hif }) ∧
    exec .pcieLinkUp s = .next (({ s with hif := { s.hif with link := true } } : State).setCause 700 false) ∧
    (s.windowOpen = true → s.hif.link = true → exec (.busMasterEnable true) s = .next (s.setFlag HIF_STATUS_BME 0 true).hostOpen ∧
      exec (.busMasterEnable false) s = .next (s.setFlag HIF_STATUS_BME 0 false) ∧
      (∀ v, bit v 2 = false → exec (.registerWrite .config 4 v) s = .next (s.setFlag HIF_STATUS_BME 0 false)) ∧
      (∀ v on mask, bit v 31 = on → bit v 30 = mask → (on && !mask) = false → exec (.registerWrite .config 0x50 v) s =
        .next (({ s with hif := { s.hif with msixOn := on, fnMask := mask } } : State).setFlag HIF_STATUS_MSIX_EN 0 false)) ∧
      exec (.rcRegisterRead .config 0) s = .next (s.send (.value 0 (Config.vendorId + 2 ^ 16 * Config.deviceId)))) ∧
    (s.windowOpen = false ∨ s.hif.link = false → ∀ on v, exec (.busMasterEnable on) s = .next s ∧ exec (.msixVectorUnmask v) s = .next s) ∧
    (s.windowOpen = true →
      (∀ v, let u := s.plainWrite HIF_CTRL_EN.off v
        exec (.hostInterfaceEnable v) s = .next (if u.flag HIF_CTRL_EN then u.hostOpen else u)) ∧
      (∀ v, let u := s.plainWrite HIF_ADM_CFG_EN.off v
        (u.flag HIF_ADM_CFG_EN = s.flag HIF_ADM_CFG_EN → exec (.adminRingEnable v) s = .next u) ∧
        (s.flag HIF_ADM_CFG_EN = false → u.flag HIF_ADM_CFG_EN = true → u.flag HIF_ADM_CFG_ERR = false →
          exec (.adminRingEnable v) s = .next (u.enableRing 0 u.admRing)) ∧
        (s.flag HIF_ADM_CFG_EN = false → u.flag HIF_ADM_CFG_EN = true → u.flag HIF_ADM_CFG_ERR = true →
          exec (.adminRingEnable v) s = .next (u.setRing 0 { u.admRing with st := 2, err := (u.ring 0).err, stale := (u.ring 0).stale }).ringCause) ∧
        (s.flag HIF_ADM_CFG_EN = true → u.flag HIF_ADM_CFG_EN = false → exec (.adminRingEnable v) s =
          .next (((u.disableRing 0).modRing 0 (fun g => { g with owed := 0, err := (u.ring 0).err })).ringCause))) ∧
      (∀ v, let u := s.plainWrite HIF_EVT_CFG_EN.off v
        (s.flag HIF_EVT_CFG_EN = false → u.flag HIF_EVT_CFG_EN = true → exec (.eventRingEnable v) s =
          .next ({ u with hif := { u.hif with evtPi := 0, evtCi := 0, evtUnsig := 0 } } : State).evtMarker) ∧
        (s.flag HIF_EVT_CFG_EN = true ∨ u.flag HIF_EVT_CFG_EN = false → exec (.eventRingEnable v) s = .next u)) ∧
      (∀ g, g < 1024 → s.line g = .idle → s.mayRequest = true → exec (.kickGroup g) s =
        .next (((s.inc HIF_CNT3_KICKS).setLine g (.issued false)).send (.lineRead g (s.reg HIF_DB_LO_DB_BASE + 2 ^ 32 * s.reg HIF_DB_HI_DB_BASE + 256 * g)))) ∧
      (∀ g, g < 1024 → s.line g = .idle → s.mayRequest = false → 
        let u := (s.inc HIF_CNT3_KICKS).setLine g .pending
        exec (.kickGroup g) s = .next { u with hif := { u.hif with kicks := u.hif.kicks ++ [g] } }) ∧
      (∀ g, g < 1024 → s.line g = .pending → exec (.kickGroup g) s = .next ((s.inc HIF_CNT3_KICKS).inc HIF_CNT3_KICK_MERGED)) ∧
      (∀ g, 1024 ≤ g → exec (.kickGroup g) s = .next s) ∧
      (∀ k : EvtKick, exec (.kickEvtCi k) s = .next ({ s with hif := { s.hif with evtCi := k.ci % 65536, evtBad := k.fails } } : State).evtMarker) ∧
      exec .badKick s = .next (s.raise 697)) ∧
    (s.windowOpen = false → ∀ v, exec (.hostInterfaceEnable v) s = .next s ∧ exec (.adminRingEnable v) s = .next s ∧
      exec (.eventRingEnable v) s = .next s ∧ exec (.kickGroup v) s = .next s ∧ (∀ k, exec (.kickEvtCi k) s = .next s) ∧ exec .badKick s = .next s) ∧
    (s.hif.evtLost = 0 → s.evtMarker = s) ∧
    (∀ g es ok again, s.line g = .issued again →
      let u := if ok then (es.zipIdx).foldl (fun s (e, i) => if i < 64 then s.takeEntry (64 * g + i) (e % 65536) (e / 65536 % 65536) else s) s else s.dmaError
      let v := (u.setLine g .idle).returned
      exec (.doorbellLineDone g es ok) s = .next (if again then v.issueLine g else v)) ∧
    (∀ g, s.line g = .issued false → s.hif.kicks = [] → ∃ t, exec (.doorbellLineDone g [] true) s = .next t ∧ t.line g = .idle ∧ t = { s with hif := t.hif }) ∧
    (∀ g es ok, s.line g = .idle ∨ s.line g = .pending → exec (.doorbellLineDone g es ok) s = .next s) ∧
    (∀ r pi ci, (s.ring r).st = 1 →
      let a := (pi + 65536 - (s.ring r).cmdCi) % 65536 ≤ 2 ^ (s.ring r).cmdLog2
      let b := ((s.ring r).cplPi + 65536 - ci) % 65536 ≤ 2 ^ (s.ring r).cplLog2
      (a → b → s.takeEntry r pi ci = s.setRing r { (s.ring r) with cmdPi := pi, cplCi := ci }) ∧
      (¬ a → s.takeEntry r pi ci = s.ringError r 1) ∧ (a → ¬ b → s.takeEntry r pi ci = s.ringError r 2)) ∧
    (∀ r pi ci, (s.ring r).st ≠ 1 → s.takeEntry r pi ci = s) ∧
    (s.reg HIF_POLL_POLL_US = 0 → exec .doorbellPoll s = .next s) ∧
    (s.reg HIF_POLL_POLL_US ≠ 0 →
      let due := s.hif.pollAt + usTicks (s.reg HIF_POLL_POLL_US)
      let u := s.advance (due - s.tick)
      exec .doorbellPoll s = .next (State.forEach ({ u with hif := { u.hif with pollAt := due } } : State) State.kickLine
        ((u.hif.rings.filter (fun p => decide (p.2.st = 1) && p.2.poll)).map (fun p => p.1 / 64)).eraseDups)) ∧
    (∀ r, s.mayRequest = true → s.nextRing = some r → ∃ t, exec .descriptorFetch s = .next t ∧
      t.ring r = { (s.ring r) with cmdCi := ((s.ring r).cmdCi + 1) % 65536, owed := (s.ring r).owed + 2, fetching := (s.ring r).fetching + 1 } ∧
      t.out = OutMsg.descRead r ((s.ring r).cmdCi % 2 ^ (s.ring r).cmdLog2) ((s.ring r).cmdBase + 64 * ((s.ring r).cmdCi % 2 ^ (s.ring r).cmdLog2)) :: s.out ∧ (∀ q, q ≠ r → t.ring q = s.ring q) ∧
      t.reg HIF_CNT0_CMDS = min (2 ^ HIF_CNT0_CMDS.wd - 1) (s.reg HIF_CNT0_CMDS + 1)) ∧
    (s.mayRequest = false ∨ s.nextRing = none → exec .descriptorFetch s = .next s) ∧
    (∀ c : HostCmd, (s.ring c.ring).stale ≠ 0 → ∀ ok, exec (.descriptorReturned c ok) s =
      .next ((s.setRing c.ring { (s.ring c.ring) with stale := (s.ring c.ring).stale - 1 }).staleBack c.ring).returned.closeRings) ∧
    (∀ c : HostCmd, (s.ring c.ring).stale = 0 → (s.ring c.ring).fetching = 0 → ∀ ok, exec (.descriptorReturned c ok) s = .next s) ∧
    (∀ c : HostCmd, (s.ring c.ring).stale = 0 → (s.ring c.ring).fetching ≠ 0 →
      let u := (s.setRing c.ring { (s.ring c.ring) with fetching := (s.ring c.ring).fetching - 1 }).returned
      ((s.ring c.ring).recv = false → exec (.descriptorReturned c true) s = .next (u.takeCommand c)) ∧
      ((s.ring c.ring).recv = true → exec (.descriptorReturned c true) s = .next (u.postBuffer c.ring c.desc c.cplOk)) ∧
      exec (.descriptorReturned c false) s = .next (u.dmaError.ringError c.ring 3)) ∧
    (∀ r, (s.ring r).unsig ≠ 0 → (s.ring r).coalUs ≠ 0 → exec (.coalesceTimer (some r)) s =
      .next (((s.advance ((s.ring r).sigFrom + usTicks (s.ring r).coalUs - s.tick)).modRing r (fun g => { g with unsig := 0 })).signal (s.ring r).vector)) ∧
    (∀ r, (s.ring r).unsig = 0 ∨ (s.ring r).coalUs = 0 → exec (.coalesceTimer (some r)) s = .next s) ∧
    (let us := s.reg HIF_EVT_COAL_COAL_US
     (s.hif.evtUnsig = 0 ∨ us = 0 → exec (.coalesceTimer none) s = .next s) ∧
     (s.hif.evtUnsig ≠ 0 → us ≠ 0 →
        let u := s.advance (s.hif.evtSigFrom + usTicks us - s.tick)
        exec (.coalesceTimer none) s = .next (({ u with hif := { u.hif with evtUnsig := 0 } } : State).signal (s.reg HIF_EVT_CFG_VECTOR)))) ∧
    (s.windowOpen = true → s.hif.link = true → ∀ v, v < 2048 → exec (.msixVectorUnmask (some v)) s =
      .next ({ s with hif := { s.hif with unmasked := if v ∈ s.hif.unmasked then s.hif.unmasked else v :: s.hif.unmasked } } : State).sendPending) ∧
    (s.windowOpen = true → s.hif.link = true → exec (.msixVectorUnmask none) s =
      .next (({ s with hif := { s.hif with msixOn := true, fnMask := false } } : State).setFlag HIF_STATUS_MSIX_EN 0 true).sendPending)

/-- While the register window is open, a KICK of group g (below 1,024) whose line read is pending changes only KICKS and KICK_MERGED,
which each count it: the pending read serves it, and leaves when host memory may be reached again and a request is to spare. A KICK
after the read was issued leaves the read out and asks for one further read, and a second one is served by that further read, counted as
merged. When the issued read returns, the further read is issued at once or, while no request may be issued, is pending, and a line with
none asked for goes idle. So after every KICK of g its line is pending, or issued by this KICK, or issued with a further read asked for;
and no KICK touches another line. A pending read stays among those scheduled, over a KICK and over the return of a line, and the first
one scheduled is issued when a request may be. -/
def Obligations.NoKickIsLost : Prop :=
  ∀ (s : State) (g : Nat), s.windowOpen = true → g < 1024 →
    (s.line g = .pending → exec (.kickGroup g) s = .next ((s.inc HIF_CNT3_KICKS).inc HIF_CNT3_KICK_MERGED)) ∧
    (s.line g = .issued false → exec (.kickGroup g) s = .next ((s.inc HIF_CNT3_KICKS).setLine g (.issued true))) ∧
    (s.line g = .issued true → exec (.kickGroup g) s = .next ((s.inc HIF_CNT3_KICKS).inc HIF_CNT3_KICK_MERGED)) ∧
    (∃ t : State, exec (.kickGroup g) s = .next t ∧ (∀ k, k ≠ g → t.line k = s.line k) ∧
      (t.line g = .pending ∨ t.line g = .issued true ∨ (s.line g = .idle ∧ t.line g = .issued false ∧ t.out = .lineRead g (s.lineAddr g) :: s.out)) ∧
      ((∀ k, s.line k = .pending → k ∈ s.hif.kicks) → ∀ k, t.line k = .pending → k ∈ t.hif.kicks)) ∧
    (∀ es ok again, s.line g = .issued again → ∃ t : State, exec (.doorbellLineDone g es ok) s = .next t ∧
      (again = false → t.line g = .idle) ∧
      (again = true → (t.line g = .issued false ∧ .lineRead g (t.lineAddr g) ∈ t.out) ∨ (t.mayRequest = false ∧ t.line g = .pending)) ∧
      ((∀ k, s.line k = .pending → k ∈ s.hif.kicks) → ∀ k, t.line k = .pending → k ∈ t.hif.kicks)) ∧
    (∀ l, s.line g = .pending → s.hif.kicks = g :: l → s.mayRequest = true →
      s.issueLines.line g = .issued false ∧ .lineRead g (s.lineAddr g) ∈ s.issueLines.out)

/-- A TELEMETRY_READ writes the entries named to the host and answers DONE with their length and the epochs; one that breaks a limit
ends BAD_OBJECT 0x03, one with a short or misaligned buffer 0x04, with nothing written. HK_INJECT queues its conversion; one that breaks
a limit ends BAD_OBJECT 0x03. FAULT_CLEAR of one source or of all clears each held source whose cause has ended and no other, counts the
others, and answers in its form; FF clears the first-fault record of a source no longer held. A kiln reading, once both converters have
ended their round, takes every sensor, the states, the throttle factor, ranges, shutdown, cask window, compensation and bands in order.
With a die diode failed the throttle factor is F_MIN, below the throttle state it is 256, and it never leaves F_MIN to 256. 20 ms after
the latch the shutdown releases every domain, stops the engines and turns the transmitters off with what they had queued; without a
latch, or a second time, nothing happens. A conversion ends at its time with its code, the quantity against the channel's full scale,
saturated at 20 bits: a channel's code goes to its result, that of a thermistor that is not fitted is discarded, an injection's is its
command's result, a calibration takes three conversions. A calibration request, by register or every 60 s with CAL_AUTO, reaches every
converter, which takes an injection before it. VHV outside its window sets VHV_OUT with cause and event 805, and inside it clears them;
VHV is as reported, and in reset the park sequencer follows it. -/
def Obligations.TelemetryHousekeepingAndKiln : Prop :=
  (∀ (s : State) (c0 : HostCmd), s.hostReady c0 0x0B = true → let c := s.asFetched c0; let u := s.startCmd c
    (telShape (u8 c.desc 20) = none → exec (.telemetryRead c0) s = .next (u.refuse c.src .badObject 3)) ∧
    (∀ (size n : Nat) (tile : Bool), telShape (u8 c.desc 20) = some (size, n, tile) →
      let named : Prop := (if tile then u8 c.desc 21 ≤ 95 else u8 c.desc 21 = 0) ∧ c.count ≠ 0 ∧ c.first + c.count ≤ n ∧
        (u8 c.desc 20 = 0x40 → c.first ≠ 0) ∧ zeros c.desc 22 2 = true ∧ zeros c.desc 32 32 = true
      let room : Prop := c.count * size ≤ c.len ∧ c.addr % 4 = 0
      (¬ named → exec (.telemetryRead c0) s = .next (u.refuse c.src .badObject 3)) ∧
      (named → ¬ room → exec (.telemetryRead c0) s = .next (u.refuse c.src .badObject 4)) ∧
      (named → room → s.mayServe = false → exec (.telemetryRead c0) s = .next (u.refuse c.src .notActive 0)) ∧
      (named → room → s.mayServe = true →
        let data := (List.range c.count).flatMap (fun i => u.telEntry (u8 c.desc 20) (u8 c.desc 21) (c.first + i))
        let epoch := if u8 c.desc 20 ≤ 2 then (s.tile (u8 c.desc 21)).epochs else 0
        exec (.telemetryRead c0) s = .next ((u.postData (if c.orphan then noRing else c.ring) c.addr data).reply c.src .done 0 true
          (leBytes 4 data.length ++ leBytes 4 (epoch % 2 ^ 32)))))) ∧
  (∀ (s : State) (c0 : HostCmd), s.hostReady c0 0x0E = true → let c := s.asFetched c0; let u := s.startCmd c
    let ch := u8 c.desc 8; let p := u8 c.desc 9; let custom := le32 c.desc 12
    let legal : Prop := ch ≤ 63 ∧ p ≤ 3 ∧ (ch < 32 → p = 2) ∧ (p = 3 → 100 ≤ custom ∧ custom ≤ 100000) ∧ (p ≠ 3 → custom = 0) ∧
      zeros c.desc 10 2 = true ∧ zeros c.desc 16 48 = true ∧ (s.conv (ch / 16)).queue.length < 4
    (¬ legal → exec (.hkInject c0) s = .next (u.refuse c.src .badObject 3)) ∧
    (legal → s.mayServe = false → exec (.hkInject c0) s = .next (u.refuse c.src .notActive 0)) ∧
    (legal → s.mayServe = true → exec (.hkInject c0) s = .next ((u.setConv (ch / 16) { (s.conv (ch / 16)) with
      queue := (s.conv (ch / 16)).queue ++ [.inject c.src ch (if p = 0 then 20000 else if p = 1 then 16667 else if p = 2 then 1000 else custom)] }).wake
        (ch / 16)).showConvs)) ∧
  (∀ (s : State) (c0 : HostCmd), s.hostReady c0 0x0F = true → let c := s.asFetched c0; let u := s.startCmd c
    let w := le16 c.desc 8; let n := w % 1024; let ff := bit (u8 c.desc 10) 0
    let legal : Prop := getBits w 10 5 = 0 ∧ u8 c.desc 10 ≤ 1 ∧ zeros c.desc 11 53 = true
    let a := if ff then (u.clearSource n).clearFirst else u.clearSource n
    let b := if ff then (u.forEach State.clearSource u.heldList).clearFirst else u.forEach State.clearSource u.heldList
    (¬ legal → exec (.faultClear c0) s = .next (u.refuse c.src .badObject 3)) ∧
    (legal → bit w 15 = false → a.held n = true ∨ (ff = true ∧ a.flag FLT_STATUS_FF_VALID = true) →
      exec (.faultClear c0) s = .next (a.refuse c.src .badObject 7)) ∧
    (legal → bit w 15 = false → a.held n = false → (ff = true → a.flag FLT_STATUS_FF_VALID = false) →
      exec (.faultClear c0) s = .next (a.reply c.src .done 0 true [])) ∧
    (legal → bit w 15 = true → exec (.faultClear c0) s = .next (b.reply c.src .done 0 true (leBytes 2 b.heldList.length)) ∧
      (∀ m, m < 1024 → b.held m = (u.held m && u.cause m)))) ∧
  (∀ (s : State) (n : Nat), n < 1024 →
    (s.held n = false → s.clearSource n = s) ∧ (s.held n = true → s.cause n = true → s.clearSource n = s.inc FLT_CNT_CLEAR_REFUSED) ∧
    (s.held n = true → s.cause n = false → s.clearSource n = s.setHeld n false ∧ (s.setHeld n false).held n = false ∧
      (∀ m, m < 1024 → m ≠ n → (s.setHeld n false).held m = s.held m)) ∧ (n ∈ s.heldList ↔ s.held n = true)) ∧
  (∀ (s : State), let k := s.reg FLT_FF_SRC_SOURCE
    (s.held k = true ∨ s.flag FLT_STATUS_FF_VALID = false → s.clearFirst = s) ∧
    (s.held k = false → s.clearFirst.flag FLT_STATUS_FF_VALID = false ∧ s.clearFirst = { s with regs := s.clearFirst.regs })) ∧
  (∀ (s : State) vf, s.inReset = false → s.roundOver = true →
    let a := s.exchangeComp.readSensors (allSensors.map (s.reading vf))
    let tc := maxInt 0 (dieDiodes.map a.inUse)
    let b := (a.setReg KLN_STATUS_T_C 0 (unsigned 16 tc)).followStates tc
    let d := (b.setReg KLN_THROTTLE_F_NOW 0 (b.fNow tc)).followRanges.followShutdown
    exec (.kilnReading vf) s = .next (((d.setFlag KLN_STATUS_CASK_OK 0 d.caskWindow).compensate.forEach State.stepBand allTiles).nextRounds)) ∧
  (∀ (s : State) vf, s.inReset = true ∨ s.roundOver = false → exec (.kilnReading vf) s = .next s) ∧
  (∀ (s : State) tc, s.fMin ≤ 256 → s.fMin ≤ s.fNow tc ∧ s.fNow tc ≤ 256 ∧ (s.dieFailed = true → s.fNow tc = s.fMin) ∧
    (s.dieFailed = false → s.flag KLN_STATUS_THROTTLING = false → s.fNow tc = 256)) ∧
  (∀ (s : State) a, s.inReset = false → s.kln.released = false → s.kln.shutAt = some a → ∃ t, exec .shutdownRelease s = .next t ∧
    t.kln = { s.kln with released := true } ∧ t.pins = { s.pins with txOff := true } ∧ t.cpx.egress = [] ∧ t.twn.txq = [] ∧ (∀ k, k < 96 → (t.tile k).engine = false) ∧
    (∀ d, d < 8 → t.owns d = false) ∧ s.tick ≤ t.tick ∧ a + usTicks 20000 ≤ t.tick) ∧
  (∀ (s : State), s.inReset = true ∨ s.kln.released = true ∨ s.kln.shutAt = none → exec .shutdownRelease s = .next s) ∧
  (∀ (s : State) c q, let v := s.conv c; let a := s.advance (v.due - s.tick); let k (ch : Nat) := min (q * 2 ^ 20 / fullScale ch) 1048575
    (s.inReset = true ∨ 4 ≤ c → exec (.hkConversionDone c q) s = .next s) ∧
    (c < 4 → s.inReset = false →
      (v.work = .idle → exec (.hkConversionDone c q) s = .next a.showConvs) ∧
      (∀ ch, v.work = .channel ch → exec (.hkConversionDone c q) s = .next ((a.hkResult ch (k ch)).setConv c (a.nextWork c v)).showConvs) ∧
      (∀ src ch p, v.work = .inject src ch p → let b := (a.inc HK_CNT_INJECTED).reply src .done 0 true (leBytes 4 (k ch + ch * 2 ^ 20))
        exec (.hkConversionDone c q) s = .next (b.setConv c (b.nextWork c { v with calAfter := v.calAfter - 1 })).showConvs) ∧
      (∀ n, v.work = .cal n → exec (.hkConversionDone c q) s =
        .next (a.setConv c (if n ≤ 1 then a.nextWork c v else v.begin a.tick (.cal (n - 1)))).showConvs)) ∧
    (∀ ch, ch < 64 → (24 ≤ ch → ch < 32 → s.ntcFitted (ch - 24) = true) → let t := a.hkResult ch (k ch)
      t.reg HK_RES_LO_CODE ch = k ch ∧ t.flag HK_RES_LO_VALID ch = true ∧
        t = { a with regs := t.regs, kln := { a.kln with ntcRead := if ch < 24 ∨ 32 ≤ ch then a.kln.ntcRead else withBit a.kln.ntcRead (ch - 24) true } }) ∧
    (∀ ch, 24 ≤ ch → ch < 32 → s.ntcFitted (ch - 24) = false →
      a.hkResult ch (k ch) = { a with kln := { a.kln with ntcRead := withBit a.kln.ntcRead (ch - 24) false } })) ∧
  (∀ (s : State) (c : Nat) (v : Conv), 2 ≤ c →
    (∀ w r, v.queue = w :: r → s.nextWork c v = ({ v with queue := r, injTaken := true } : Conv).begin s.tick w) ∧
    (v.queue = [] → v.calPend = true → v.calAfter = 0 → s.nextWork c v = ({ v with calPend := false, calTaken := true } : Conv).begin s.tick (.cal 3))) ∧
  (∀ s : State, ∀ v, (s.windowOpen = true → exec (.hkCalRequest v) s =
      .next (if bit v 4 then (s.plainWrite HK_CTRL_CAL_REQ.off v).requestCals else s.plainWrite HK_CTRL_CAL_REQ.off v)) ∧
    (s.windowOpen = false → exec (.hkCalRequest v) s = .next s)) ∧
  (∀ s : State, (s.inReset = false → s.flag HK_CTRL_CAL_AUTO = true → exec .hkCalAuto s = .next s.requestCals) ∧
    (s.inReset = true ∨ s.flag HK_CTRL_CAL_AUTO = false → exec .hkCalAuto s = .next s) ∧
    (∀ c, c < 4 → let v := s.requestCals.conv c
      v.calPend = true ∨ ∃ n, v.work = .cal n)) ∧
  (∀ (s : State) mv, let w : State := { s with fab := { s.fab with vhv := mv } }; let u := w.parkVhv
    (s.inReset = false → u = w) ∧
    (s.inReset = true ∨ s.vhvOutside mv = false ∨ s.flag KLN_STATUS_VHV_OUT = true → exec (.vhvExcursion mv) s = .next u) ∧
    (s.inReset = false → s.vhvOutside mv = true → s.flag KLN_STATUS_VHV_OUT = false → ∃ t, exec (.vhvExcursion mv) s = .next t ∧
      t.flag KLN_STATUS_VHV_OUT = true ∧ t.cause 805 = true ∧
      t = { w with regs := t.regs, flt := { s.flt with raises := s.flt.raises ++ [{ src := 805 }] } }) ∧
    (s.inReset = true ∨ s.vhvOutside mv = true → exec (.vhvRecovered mv) s = .next w) ∧
    (s.inReset = false → s.vhvOutside mv = false → ∃ t, exec (.vhvRecovered mv) s = .next t ∧ t.flag KLN_STATUS_VHV_OUT = false ∧
      t.cause 805 = false ∧ t = { w with regs := t.regs }))

/-- A TWIN_OP that is not well formed ends BAD_OBJECT 0x03, one whose condition fails BAD_OBJECT, one without presence PRESENCE_NEEDED;
otherwise it switches over, resigns with cause 0x09 and answers DONE, or goes to STANDBY and answers DONE. A running device that resigns
with no switchover and no sync is RESIGNED with its cause and one resignation more: in ACTIVE it releases each domain without a burst
and waits for the others, in SOLO it keeps them. 100 us after an unanswered switchover the device reasserts what the twin has not taken,
judges the twin again, answers ABORTED and raises 753. A takeover takes every domain whose line has been low for 200 ns: it owns them,
shows them in TAKEN, counts, and a STANDBY is SOLO. A heartbeat is sent over TL with its addresses, or waits while TL is busy; none
after a tree loss. One that arrives whole and in sequence updates what is known of the twin; in SOLO one of a synchronised standby makes
ACTIVE, in ACTIVE one of an unsynchronised or resigned twin makes SOLO. A RESIGN adds the released domains. A frame that R428 turns away
counts TL_DROP, and a gap makes a standby need a sync. No TL frame for HB_MISS x 10 us, since the last or since TL came up, takes ACTIVE
to SOLO with cause and event 745, and at a standby ends a store's reception and, under some OWNX, raises the guard event. TWIN_SEEN is a
heartbeat within HB_MISS x 10 us. TL going down ends TL_UP with UP_CHG and cause and event 744 and makes a standby need a sync, and
coming up ends the cause; a rejected frame counts TL_DROP. Where its condition is absent each of these commands changes nothing. -/
def Obligations.TwinRolesOwnershipAndLink : Prop :=
  ∀ (s : State),
    (∀ c0 : HostCmd, s.hostReady c0 0x0D = true → let c := s.asFetched c0; let u := s.startCmd c
      ∀ x ∈ [exec (.twinOpSwitchover c0) s, exec (.twinOpResign c0) s, exec (.twinOpRejoin c0) s],
      (c.op < 1 ∨ 3 < c.op ∨ zeros c.desc 9 55 = false → x = .next (u.refuse c.src .badObject 3)) ∧
      (1 ≤ c.op → c.op ≤ 3 → zeros c.desc 9 55 = true →
        (s.opOk c.op = false → x = .next (u.refuse c.src .badObject 0)) ∧
        (s.opOk c.op = true → s.presence = false → x = .next (u.refuse c.src .presenceNeeded 0)) ∧
        (s.opOk c.op = true → s.presence = true →
          (c.op = 1 → x = .next (u.switchover c.src)) ∧
          (c.op = 2 → x = .next ((u.resign 0x09).reply c.src .done 0 true [])) ∧
          (c.op = 3 → x = .next (u.toStandby.reply c.src .done 0 true []))))) ∧
    (s.opOk 1 = true ↔ s.running = true ∧ s.role = roleActive ∧ s.twn.switch = none ∧ s.twinSeen = true ∧
      s.reg TWN_STATUS_TWIN_ROLE = roleStandby ∧ s.twn.twinSynced = true) ∧
    (s.opOk 2 = true ↔ s.running = true ∧ s.role ≠ roleResigned) ∧
    (s.opOk 3 = true ↔ s.running = true ∧ s.role = roleResigned ∧ s.severeHeld = false ∧ s.twinSeen = true ∧
      (s.reg TWN_STATUS_TWIN_ROLE = roleActive ∨ s.reg TWN_STATUS_TWIN_ROLE = roleSolo)) ∧
    (s.twinSeen = true ↔ ∃ a, s.twn.hbAt = some a ∧ s.tick ≤ a + usTicks (10 * s.reg TWN_CTRL_HB_MISS)) ∧
    (∀ cause, cause < 16 → s.running = true → s.role ≠ roleResigned → s.twn.switch = none → s.twn.sending = false → s.twn.heldCmds = [] → s.twn.heldReqs = [] →
      let t := s.resign cause
      t.role = roleResigned ∧ t.reg TWN_STATUS_CAUSE = cause ∧
      t.reg TWN_CNT0_RESIGNS = min (2 ^ TWN_CNT0_RESIGNS.wd - 1) (s.reg TWN_CNT0_RESIGNS + 1) ∧ t.txn = s.txn ∧ t.cal = s.cal ∧
      (s.role = roleActive → ∀ d, d < 8 → let b := (List.range 12).any (fun k => (s.tile (12 * d + k)).bursts)
        (b = false → t.owns d = false) ∧ (b = true → s.owns d = true → t.owns d = true ∧ bit t.fab.releasing d = true)) ∧
      (s.role = roleSolo → t.reg KFI_STATUS_OWN = s.reg KFI_STATUS_OWN ∧ t.tiles = s.tiles)) ∧
    (∀ cause, s.running = false ∨ s.role = roleResigned → s.resign cause = s) ∧
    (∀ m src a, s.twn.switch = some (m, src, a) →
      let u := s.advance (a + usTicks 100 - s.tick)
      let v : State := { u with twn := { u.twn with switch := none }, fab := { u.fab with releasing := 0 } }
      let w := (v.forEach (fun s d => if s.ownx d then s else s.assertOwn d) (bitsOf 8 m)).judgeTwin
      exec .switchoverTimeout s = .next ((w.reply src .aborted 0 true []).raiseEv { src := 753, status := 0x22, orphan := src.isOrphan })) ∧
    (s.twn.switch = none → exec .switchoverTimeout s = .next s) ∧
    (s.twn.lost = true ∨ s.twn.twinSynced = false ∨ s.twn.twinResigned = true → s.role = roleActive → s.twn.switch = none → s.resignWaits = false →
      s.judgeTwin.role = roleSolo ∧ s.judgeTwin = { s with regs := s.judgeTwin.regs }) ∧
    (∀ d, d < 8 → s.mayTake d = true →
      let u := if s.fab.ownxFell.read 0 d = 0 then s else s.advanceTo (s.fab.ownxFell.read 0 d - 1 + 256)
      exec (.takeover d) s = .next (u.takeDoms (allDoms.foldl (fun m k => withBit m k (u.mayTake k && u.lowLong k)) 0))) ∧
    (∀ d, 8 ≤ d ∨ s.mayTake d = false → exec (.takeover d) s = .next s) ∧
    (∀ m, m < 256 → s.twn.heldCmds = [] → s.twn.heldReqs = [] → s.fab.inhibit = false → (∀ d, bit m d = true → s.domPop d = true) → let t := s.takeDoms m
      (∀ d, bit m d = true → t.owns d = true) ∧ t.reg TWN_STATUS_TAKEN = m ∧
      t.role = (if s.role = roleStandby then roleSolo else s.role) ∧
      t.reg TWN_CNT0_TAKEOVERS = min (2 ^ TWN_CNT0_TAKEOVERS.wd - 1) (s.reg TWN_CNT0_TAKEOVERS + 1)) ∧
    (s.tlOn = true → s.fab.treeLost = false → s.btu.row = 4 → s.flag TWN_STATUS_TL_UP = true → s.pins.txOff = false → s.twn.txq = [] →
      (s.twn.txBusy ≤ s.tick → ∃ t f, exec .heartbeatSend s = .next t ∧ t.out = .tl f :: s.out ∧ (tlMsg f).drop 16 = s.beat ∧
        be48 f 0 = 0x025A4B000000 + (1 - s.reg KFI_STATUS_PORT_STRAP) ∧ be48 f 6 = 0x025A4B000000 + s.reg KFI_STATUS_PORT_STRAP ∧
        be16 f 12 = 0x88B5 ∧ u8 f 14 = 1 ∧ u8 f 15 = 1 ∧ t = { s with twn := { s.twn with txSeq := s.twn.txSeq + 1, txBusy := t.twn.txBusy }, out := t.out }) ∧
      (s.tick < s.twn.txBusy →
        exec .heartbeatSend s = .next { s with twn := { s.twn with txq := [{ prio := 1, since := s.tick, type := 1, body := s.beat }] } })) ∧
    (s.tlOn = false ∨ s.fab.treeLost = true ∨ s.flag TWN_STATUS_TL_UP = false ∨ s.pins.txOff = true → exec .heartbeatSend s = .next s) ∧
    (∀ f, s.tlGood f = true ↔ 18 ≤ f.length ∧ f.length ≤ 2048 ∧ le32 f (f.length - 4) = crc32 (f.take (f.length - 4)) ∧ be16 f 12 = 0x88B5 ∧
      be48 f 0 = 0x025A4B000000 + s.reg KFI_STATUS_PORT_STRAP ∧ u8 f 14 = 1) ∧
    (∀ f, s.tlOn = true → s.flag TWN_STATUS_TL_UP = true → s.tlGood f = true → let m := tlMsg f
      be16 m 2 = m.length → (∀ k, s.twn.rxSeq = some k → be64 m 4 = k + 1) →
      (u8 m 1 = 1 → u8 m 16 ≤ 4 → s.isStandby = true → s.twn.deciding = none → ∃ t, exec (.tlHeartbeat f) s = .next t ∧
        t.twn.hbAt = some s.tick ∧ t.reg TWN_STATUS_TWIN_ROLE = u8 m 16 ∧ t.twn.twinSynced = bit (u8 m 17) 0 ∧
        t.twn.twinNeeds = bit (u8 m 17) 1 ∧ t.twn.rxSeq = some (be64 m 4) ∧ t.twn.lost = false ∧ t.cause 745 = false ∧
        t = { s with regs := t.regs, twn := t.twn }) ∧
      (u8 m 1 = 1 → s.running = true → s.role = roleSolo → s.twn.deciding = none → s.resignWaits = false → u8 m 16 = roleStandby → bit (u8 m 17) 0 = true →
        ∃ t, exec (.tlHeartbeat f) s = .next t ∧ t.role = roleActive ∧ t.twn.sending = false ∧ t = { s with regs := t.regs, twn := t.twn }) ∧
      (u8 m 1 = 1 → s.running = true → s.role = roleActive → s.twn.deciding = none → s.twn.switch = none → s.resignWaits = false →
        (u8 m 16 = roleStandby ∧ bit (u8 m 17) 0 = false) ∨ u8 m 16 = roleResigned →
        ∃ t, exec (.tlHeartbeat f) s = .next t ∧ t.role = roleSolo ∧ t = { s with regs := t.regs, twn := t.twn }) ∧
      (u8 m 1 = 2 → ∃ t, exec (.resign f) s = .next t ∧ t.twn.released = Nat.lor s.twn.released (u8 m 18) ∧ t.twn.rxSeq = some (be64 m 4) ∧
        t = { s with regs := t.regs, twn := t.twn })) ∧
    (∀ f, s.tlOn = true → s.flag TWN_STATUS_TL_UP = true → s.tlGood f = false →
      exec (.tlHeartbeat f) s = .next (s.inc TWN_CNT3_TL_DROP) ∧ exec (.resign f) s = .next (s.inc TWN_CNT3_TL_DROP)) ∧
    (∀ f, s.tlOn = false ∨ s.flag TWN_STATUS_TL_UP = false → exec (.tlHeartbeat f) s = .next s ∧ exec (.resign f) s = .next s) ∧
    (∀ m k, s.isStandby = true → s.twn.rxSeq = some k → be64 m 4 ≠ k + 1 → let t := s.tlFrame m
      t.flag TWN_STATUS_SYNCED = false ∧ t.flag TWN_SYNC_NEED_SYNC = true ∧ t.reg TWN_SYNC_STORE = 0 ∧
      t.reg TWN_CNT1_TL_GAPS = min (2 ^ TWN_CNT1_TL_GAPS.wd - 1) (s.reg TWN_CNT1_TL_GAPS + 1) ∧
      t.flt.raises = s.flt.raises ++ [{ src := 750 }]) ∧
    (s.tlOn = true → s.twn.lost = false → let a := s.twn.rxAt.getD s.twn.upAt + usTicks (10 * s.reg TWN_CTRL_HB_MISS)
      (s.role = roleActive → s.twn.switch = none → s.twn.sending = false → s.resignWaits = false → s.severity 745 < sevResign →
        ∃ t, exec .heartbeatLost s = .next t ∧ t.role = roleSolo ∧ t.twn = { s.twn with lost := true, dual := 0 } ∧ t.cause 745 = true ∧
        t.flt.raises = s.flt.raises ++ [{ src := 745 }] ∧ t.tiles = s.tiles ∧ t.fab = s.fab ∧ t.tick = max s.tick a) ∧
      (s.isStandby = true → s.twn.sending = false → ∃ t, exec .heartbeatLost s = .next t ∧ t.reg TWN_SYNC_STORE = 0 ∧ t.cause 745 = true ∧ t.twn.lost = true ∧
        t.role = s.role ∧ t.tick = max s.tick a ∧ t.cause 748 = decide (s.reg KFI_STATUS_OWNX ≠ 0) ∧
        (s.reg KFI_STATUS_OWNX ≠ 0 → s.twn.guarded = false →
          t.reg TWN_CNT3_GUARD = min (2 ^ TWN_CNT3_GUARD.wd - 1) (s.reg TWN_CNT3_GUARD + 1) ∧
          t.flt.raises = s.flt.raises ++ [{ src := 745 }, { src := 748 }]))) ∧
    (s.tlOn = false ∨ s.twn.lost = true → exec .heartbeatLost s = .next s) ∧
    (s.tlOn = true → ∃ t, exec .twinLinkUp s = .next t ∧ t.flag TWN_STATUS_TL_UP = true ∧ t.cause 744 = false ∧
      (s.flag TWN_STATUS_TL_UP = false → t.flag TWN_TL_STATUS_UP_CHG = true) ∧
      t = { s with regs := t.regs, twn := { s.twn with berFree := some s.free }, free := s.free + 1 }) ∧
    (s.tlOn = false → exec .twinLinkUp s = .next s) ∧
    (s.inReset = false → s.flag TWN_STATUS_TL_UP = true → let u := s.tlGo
      (s.isStandby = false → ∃ t, exec .tlLinkDown s = .next t ∧ t.flag TWN_STATUS_TL_UP = false ∧ t.flag TWN_TL_STATUS_UP_CHG = true ∧
        t.cause 744 = true ∧ t = { u with regs := t.regs, twn := { u.twn with txq := [], berFree := some u.free }, free := u.free + 1,
                                          flt := { s.flt with raises := s.flt.raises ++ [{ src := 744 }] } }) ∧
      (s.isStandby = true → ∃ t, exec .tlLinkDown s = .next t ∧ t.flag TWN_STATUS_TL_UP = false ∧ t.flag TWN_STATUS_SYNCED = false ∧
        t.flag TWN_SYNC_NEED_SYNC = true ∧ t.reg TWN_SYNC_STORE = 0 ∧ t.cause 744 = true) ∧
      exec .tlFrameRejected s = .next (s.inc TWN_CNT3_TL_DROP)) ∧
    (s.inReset = true ∨ s.flag TWN_STATUS_TL_UP = false → exec .tlLinkDown s = .next s ∧ exec .tlFrameRejected s = .next s)

/-- A frame that R428 turns away counts TL_DROP, one of another type or length does nothing, and every other one moves the sequence on,
which in a device other than a standby is all. In a standby a note 2 of a transaction held here records its commit DT, a note 4 is the
QUENCH of its DT, and a note of another transaction does nothing; a first fragment waits for the others, a complete COMMAND whose store
is present is applied, one whose store is lacking is kept, and one of a false length asks for a sync; a MESSAGE of a valid session
leaves from the standby's own port with the next TX_SEQ, another counts TL_DROP; a SNAPSHOT not older than the last commit puts its
record into the lane in SHADOW and leaves every other lane, and an older one is counted discarded. The first SYNC_DATA of store 1 starts
and counts a new sync with its bytes, that of another store its image, and bytes that follow are added; a SYNC_END whose length, CRC,
number, store and content match what was received puts the content in place, with the last store nothing is lacking, and any other asks
for a new sync; without NEED_SYNC both do nothing. At a marker a device that forwards captures the lanes of the tile whose records come
next, and sends those, 32 at a time; a sender sends the next bytes of its store's image, or once all are sent its SYNC_END with the
calendar's lists, and goes on to the next store, the last of which waits for the transactions that must end; a store that cannot be read
restarts the sync. Without forwarding, a sync under way or a link that may issue neither sends. -/
def Obligations.TwinStreamsReachTheStandby : Prop :=
  ∀ (s : State) (f : List Byte), let m := tlMsg f
    let b := tlBody m
    let u := s.tlFrame m
    let ready (ty : Nat) : Prop := s.tlOn = true ∧ s.flag TWN_STATUS_TL_UP = true ∧ s.tlGood f = true ∧ u8 m 1 = ty ∧ be16 m 2 = m.length
    u.twn.rxSeq = some (be64 m 4) ∧
    (∀ img, ∀ r ∈ [(3, exec (.txnNote f) s), (4, exec (.tlCommand f) s), (5, exec (.message f) s), (6, exec (.snapshot f) s),
        (7, exec (.syncData f) s), (8, exec (.syncEnd f img) s)],
      (s.tlOn = false ∨ s.flag TWN_STATUS_TL_UP = false → r.2 = .next s) ∧
      (s.tlOn = true → s.flag TWN_STATUS_TL_UP = true → s.tlGood f = false → r.2 = .next (s.inc TWN_CNT3_TL_DROP)) ∧
      (s.tlOn = true → s.flag TWN_STATUS_TL_UP = true → s.tlGood f = true → u8 m 1 ≠ r.1 ∨ be16 m 2 ≠ m.length → r.2 = .next s) ∧
      (ready r.1 → u.isStandby = false → r.2 = .next u)) ∧
    (u.isStandby = true →
      (ready 3 → let c := noteTick ((u.findHandle (be16 b 0)).bind (fun i => (u.slot i).commit)) b 4
        exec (.txnNote f) s = .next (u.txnNote b) ∧
        (∀ i, u8 b 2 = 2 → u.findHandle (be16 b 0) = some i → u.txnNote b = u.modSlot i (fun t => { t with note2 := some c, commit := some c })) ∧
        (u8 b 2 = 4 → u.txnNote b = u.quenchNote c) ∧
        (u8 b 2 = 2 ∨ u8 b 2 = 3 → u.findHandle (be16 b 0) = none → u.txnNote b = u)) ∧
      (ready 4 → be16 b 8 = 0 →
        let c : TlCmd := { num := be32 b 4, origin := u8 b 0, flags := u8 b 1, handle := be16 b 2, data := b.drop 16, next := 1 }
        let v : State := { u with twn := { u.twn with frag := none, nextCmd := c.num + 1 } }
        (be16 b 10 ≠ 0 → exec (.tlCommand f) s = .next { u with twn := { u.twn with frag := some c } }) ∧
        (be16 b 10 = 0 → (b.drop 16).length ≠ be32 b 12 → exec (.tlCommand f) s = .next u.needSync) ∧
        (be16 b 10 = 0 → (b.drop 16).length = be32 b 12 →
          (u.lacks c.store = false → exec (.tlCommand f) s = .next (v.applyTl c)) ∧
          (u.lacks c.store = true → u.twn.kept.length < 4096 → c.admitted = false →
            exec (.tlCommand f) s = .next { v with twn := { v.twn with kept := v.twn.kept ++ [{ c with flags := 0 }] } }) ∧
          (u.lacks c.store = true → 4096 ≤ u.twn.kept.length → exec (.tlCommand f) s = .next v.needSync))) ∧
      (ready 5 → let i := be16 b 0
        (i < 16384 → (u.sess i).valid = true → exec (.message f) s =
          .next ((u.emitGcrp (u.sess i) (b.drop 4)).setSess i { (u.sess i) with txSeq := (be32 (b.drop 4) 8 + 1) % 2 ^ 32 })) ∧
        (16384 ≤ i ∨ (u.sess i).valid = false → exec (.message f) s = .next (u.inc TWN_CNT3_TL_DROP))) ∧
      (ready 6 → let t := u8 b 0
        let e := u8 b 1
        t < 96 → u8 b 2 = 1 → e < 128 → (∀ c, (u.tile t).lastCommit = some c → c ≤ tick10 b 4) → ((u.tile t).lane e).mode = .shadow →
          ∃ w, exec (.snapshot f) s = .next w ∧
          (w.tile t).lane e = ((u.tile t).lane e).ofRecord ((b.drop 16).take 32) ∧ (∀ f, f ≠ e → (w.tile t).lane f = (u.tile t).lane f) ∧
          (∀ k, k ≠ t → w.tile k = u.tile k)) ∧
      (∀ c, ready 6 → let t := u8 b 0
        t < 96 → u8 b 1 + u8 b 2 ≤ 128 → (u.tile t).lastCommit = some c → tick10 b 4 < c → ∃ w, exec (.snapshot f) s = .next w ∧
          w.tiles = u.tiles ∧ w.reg TWN_CNT2_SNAP_DISCARD = min (2 ^ TWN_CNT2_SNAP_DISCARD.wd - 1) (u.reg TWN_CNT2_SNAP_DISCARD + u8 b 2)) ∧
      (ready 7 → let d := (b.drop 16).take (be32 b 8)
        (u.flag TWN_SYNC_NEED_SYNC = false → exec (.syncData f) s = .next u) ∧
        (u.flag TWN_SYNC_NEED_SYNC = true → be32 b 4 = 0 → u8 b 0 = 1 → ∃ w, exec (.syncData f) s = .next w ∧
          w.twn = { u.twn with got := [], round := none, image := d } ∧ w.reg TWN_SYNC_STORE = 1 ∧
          w.reg TWN_CNT1_RESYNCS = min (2 ^ TWN_CNT1_RESYNCS.wd - 1) (u.reg TWN_CNT1_RESYNCS + 1) ∧ w = { u with regs := w.regs, twn := w.twn }) ∧
        (u.flag TWN_SYNC_NEED_SYNC = true → be32 b 4 = 0 → 1 < u8 b 0 → u8 b 0 ≤ 7 → ∃ w, exec (.syncData f) s = .next w ∧
          w.twn = { u.twn with image := d } ∧ w.reg TWN_SYNC_STORE = u8 b 0 ∧ w = { u with regs := w.regs, twn := w.twn }) ∧
        (u.flag TWN_SYNC_NEED_SYNC = true → be32 b 4 ≠ 0 → exec (.syncData f) s =
          .next (if be32 b 4 = u.twn.image.length then { u with twn := { u.twn with image := u.twn.image ++ d } } else u))) ∧
      (∀ img, ready 8 →
        (u.flag TWN_SYNC_NEED_SYNC = false → exec (.syncEnd f img) s = .next u) ∧
        (u.flag TWN_SYNC_NEED_SYNC = true →
          let ok : Prop := be32 b 8 = u.twn.image.length ∧ be32 b 12 = crc32 u.twn.image ∧ u8 b 0 = img.number ∧ u8 b 0 = u.reg TWN_SYNC_STORE ∧
            img.bytes = u.twn.image ∧ img.tail = b.drop 16
          (ok → exec (.syncEnd f img) s = .next (u.storeDone img (be32 b 4))) ∧
          (¬ ok → exec (.syncEnd f img) s = .next u.needSync ∧ u.needSync.reg TWN_SYNC_STORE = 0)))) ∧
    (∀ img n, s.twn.kept = [] → (∀ k, 1 ≤ k → k ≤ 7 → k = img.number ∨ k ∈ s.twn.got) → let t := s.storeDone img n
      t.flag TWN_SYNC_NEED_SYNC = false ∧ t.twn.round = some 0 ∧ t.twn.image = []) ∧
    (∀ p, s.putStore (.plans p) = { s with txn := { s.txn with plans := p } }) ∧
    (∀ p, s.putStore (.edits p) = { s with txn := { s.txn with edits := p } }) ∧
    (∀ k, s.forwards = true → s.nextGroup s.twn.snapAt = some k →
      s.captureSnap = { s with twn := { s.twn with snapTile := some (k / 4), snapLanes := (s.tile (k / 4)).lanes } }) ∧
    (s.forwards = false → s.captureSnap = s) ∧
    (∀ k, s.tlOn = true → s.forwards = true → s.retiring mtxTwin = false → s.nextGroup s.twn.snapAt = some k → s.twn.snapTile = some (k / 4) → let t := k / 4
      let first := 32 * (k % 4)
      let v := s.sendTl 6 (leBytes 1 t ++ leBytes 1 first ++ leBytes 1 32 ++ leBytes 1 0 ++ dt10 (dtOf s.marker) ++ leBytes 2 0 ++
        (List.range 32).flatMap (fun j => (s.twn.snapLanes.read {} (first + j)).bytes))
      exec .snapshotSend s = .next { v with twn := { v.twn with snapAt := (k + 1) % 384, snapTile := if first = 96 then none else v.twn.snapTile } }) ∧
    (s.tlOn = false ∨ s.forwards = false ∨ s.retiring mtxTwin = true ∨ s.nextGroup s.twn.snapAt = none ∨
      (s.nextGroup s.twn.snapAt).map (· / 4) ≠ s.twn.snapTile → exec .snapshotSend s = .next s) ∧
    (let store := s.reg TWN_SYNC_STORE
     let img := s.twn.image
     let rest := img.drop s.twn.sent
     (∀ data last, s.leads = false ∨ s.twn.sending = false ∨ store = 0 ∨ s.retiring mtxTwin = true → exec (.syncSend data last) s = .next s) ∧
     (∀ data, s.leads = true → s.twn.sending = true → store ≠ 0 → s.retiring mtxTwin = false →
      (s.badStore store = none → let v := s.sendTl 7 (leBytes 1 store ++ leBytes 3 0 ++ beBytes 4 s.twn.sent ++ beBytes 4 data.length ++ leBytes 4 0 ++ data)
        exec (.syncSend data false) s = .next (if data ≠ [] ∧ data.length ≤ 1984 ∧ data <+: rest
          then { v with twn := { v.twn with sent := v.twn.sent + data.length } } else s)) ∧
      (∀ w, s.badStore store = some w → exec (.syncSend data false) s = .next ((s.eccError (8 * w.1) false).restartSync)) ∧
      (rest ≠ [] ∨ (store = 7 ∧ s.twn.mustEnd ≠ []) → exec (.syncSend data true) s = .next s) ∧
      (rest = [] → ¬ (store = 7 ∧ s.twn.mustEnd ≠ []) → exec (.syncSend data true) s = .next ((s.sendTl 8 (leBytes 1 store ++ leBytes 3 0 ++
        beBytes 4 s.twn.lastCmd ++ beBytes 4 img.length ++ beBytes 4 (crc32 img) ++ s.twn.tail)).nextStore store)))) ∧
    (∀ k, 1 ≤ k → k ≤ 7 → s.twn.heldCmds = [] → s.twn.heldReqs = [] → let t := s.nextStore k
      t.reg TWN_SYNC_STORE = (if k < 7 then k + 1 else 0) ∧ t.twn.sent = 0 ∧ (k = 7 → t.twn.image = []) ∧
      (k < 7 → t.twn.image = (s.storeImg (k + 1)).bytes ∧ t.twn.tail = (s.storeImg (k + 1)).tail ∧ t.twn.lastCmd = s.twn.lastOf.read 0 (k + 1) - 1))

/-- With PORST_N released an evaluation in S_INIT only watches channels, readbacks and supply and refuses resets, and one outside it
counts, judges inputs, hands, readbacks and supply, and decides; a channel mismatch takes the SIU to S_FAULT with the internal latch. An
input state follows its channels by the table of R470, and leaves FAULT only by a reset. Whenever the SIU enters a state other than S_ON
and S_DEGRADED from one of those both outputs are off, and a demand of ES on leaving PERMIT counts, raises 768 and sets the safety hold
with a QUENCH. The self-test of S_INIT leads to S_STOP or S_FAULT; an output test of a channel in service switches it off and its end
switches it on again, counting a failure; a passed start test leads to S_ON with the hold ended, a failed one to S_FAULT with its
channels marked; after the degraded time the test of the marked channels lets the clearing reset act or refuses it. A request in S_STOP
starts the test or is refused, in S_FAULT it clears the latches once every faulted input was seen safe, elsewhere it is refused, each
request counted with event 784. The degraded timer's end leads to S_FAULT with event 779; a wrong SAFE_EDM at its check is an output
fault. A release of SAFE_RST after 100 ms to 5 s requests a reset, one outside it does not; a press of more than 5 s raises 785;
RESET_REQ with presence and HOST_RST_EN requests a reset. Outside their conditions, and in the reset of the island, these commands
change nothing. -/
def Obligations.SafetyStatesOutputsAndResets : Prop :=
  ∀ (s : State), (s.pins.porstN = true →
    (∀ e, s.siuState = sInit → let a : State := { s with siu := { s.siu with evals := s.siu.evals + 1, internal := e.mismatch } }
      let b := ((a.readbacks e).vsafeLow e).refuseAll
      exec (.siuEvaluation e) s = .next (if e.mismatch then b.internalFault else b)) ∧
    (∀ e, s.siuState ≠ sInit →
      let a : State := { s with siu := { s.siu with evals := s.siu.evals + 1, internal := e.mismatch } }
      let b := a.evalInputs.bypass
      let c := b.evalHands.1.bypass.countGuard (a.demands 1)
      exec (.siuEvaluation e) s =
        .next (((c.readbacks e).vsafeLow e).siuDecide e (decide (a.faultCount < c.faultCount)) b.evalHands.2)) ∧
    (∀ e i h, e.mismatch = true → let t := s.siuDecide e i h
      t.siuState = sFault ∧ t.flag SIU_FAULT_INTERNAL = true ∧ t.cause 781 = true ∧ (s.outputsOn = true → t.flag SIU_OUTPUTS_SO_A_ON = false ∧
        t.flag SIU_OUTPUTS_SO_B_ON = false)) ∧
    (∀ p late, p ≤ 2 →
      nextInput inPermit p late = (if p = 2 then inPermit else if p = 0 then inSafe else inDisagree) ∧
      nextInput inSafe p late = (if p = 2 then inPermit else if p = 0 then inSafe else inReturn) ∧
      (nextInput inDisagree p late = inFault ↔ p = 1 ∧ late = true) ∧ (nextInput inReturn p late = inFault ↔ p = 1 ∧ late = true) ∧
      (nextInput inDisagree p late = inIncomplete ↔ p = 2) ∧ (nextInput inReturn p late = inPermit ↔ p = 2) ∧
      nextInput inIncomplete p late = (if p = 0 then inSafe else if p = 1 then inDisagree else inIncomplete) ∧
      nextInput inFault p late = inFault ∧ (nextInput inDisagree p late ≠ inPermit ∧ nextInput inIncomplete p late ≠ inPermit)) ∧
    (∀ st, st < 8 → s.outputsOn = true → st ≠ sOn → st ≠ sDegraded → let t := s.enterSiu st
      t.siuState = st ∧ t.flag SIU_OUTPUTS_SO_A_ON = false ∧ t.flag SIU_OUTPUTS_SO_B_ON = false ∧ t.siu.edmDue = true) ∧
    (∀ st, s.pins.resetN = true → s.inSt 0 = inPermit → (st = inSafe ∨ st = inDisagree) → let t := s.enterInput 0 st
      t.inSt 0 = st ∧ t.flag SIU_STATUS_SAFETY_HOLD = true ∧ t.flag TXN_STATUS_SAFETY_HOLD = true ∧ t.txn.demands = s.txn.demands + 1 ∧
      t.reg SIU_CNT0_DEMANDS = min (2 ^ SIU_CNT0_DEMANDS.wd - 1) (s.reg SIU_CNT0_DEMANDS + 1) ∧
      t.flt.raises = s.flt.raises ++ [{ src := 768 }, { src := 783 }]) ∧
    (s.siuState = sInit → exec (.siuSelfTestDone true) s = .next (s.enterSiu sStop) ∧ exec (.siuSelfTestDone false) s = .next s.internalFault) ∧
    (∀ p, s.siuState ≠ sInit → exec (.siuSelfTestDone p) s = .next s) ∧
    (∀ x, x < 2 → s.siuState = sOn ∨ (s.siuState = sDegraded ∧ s.outFail x = 0) → s.siu.testing = none → exec (.outputTest x) s =
      .next (({ s with siu := { s.siu with testing := some x } } : State).setFlag (if x = 0 then SIU_OUTPUTS_SO_A_ON else SIU_OUTPUTS_SO_B_ON) 0 false)) ∧
    (∀ x, 2 ≤ x ∨ s.outputsOn = false ∨ s.siu.testing ≠ none ∨ (s.siuState = sDegraded ∧ s.outFail x ≠ 0) → exec (.outputTest x) s = .next s) ∧
    (s.siu.testing = none → ∀ f, exec (.outputTestEnd f) s = .next s) ∧
    (∀ x, s.siu.testing = some x →
      (∃ t, exec (.outputTestEnd true) s = .next t ∧ t.siu.testing = none ∧ t.flag (if x = 0 then SIU_OUTPUTS_SO_A_ON else SIU_OUTPUTS_SO_B_ON) = true ∧
        t.reg SIU_CNT2_PULSE_FAIL = s.reg SIU_CNT2_PULSE_FAIL ∧ t = { s with regs := t.regs, siu := t.siu }) ∧
      (∃ t, exec (.outputTestEnd false) s = .next t ∧ t.siu.testing = none ∧
        t.reg SIU_CNT2_PULSE_FAIL = min (2 ^ SIU_CNT2_PULSE_FAIL.wd - 1) (s.reg SIU_CNT2_PULSE_FAIL + 1) ∧ t = { s with regs := t.regs, siu := t.siu })) ∧
    (∀ okA okB,
      (s.siu.starting = true →
        let u := if okA then s.unmarkOut 0 else s.markOut 0 1
        let v := if okB then u.unmarkOut 1 else u.markOut 1 1
        exec (.startSelfTestDone okA okB) s = .next (if okA && okB then v.enterOn else v.outputFault)) ∧
      (s.siu.starting = false → s.siu.clearing = true →
        let u := if s.outFail 0 = 0 then s else s.unmarkOut 0
        ((s.outFail 0 = 0 ∨ okA = true) → (s.outFail 1 = 0 ∨ okB = true) →
          exec (.startSelfTestDone okA okB) s = .next (if u.outFail 1 = 0 then u else u.unmarkOut 1).acceptClear) ∧
        ((s.outFail 0 ≠ 0 ∧ okA = false) ∨ (s.outFail 1 ≠ 0 ∧ okB = false) →
          exec (.startSelfTestDone okA okB) s = .next ({ s with siu := { s.siu with clearing := false } } : State).refuseReset)) ∧
      (s.siu.starting = false → s.siu.clearing = false → exec (.startSelfTestDone okA okB) s = .next s)) ∧
    (let t := s.acceptClear
     t.siuState = sStop ∧ t.reg SIU_FAULT_DISC = 0 ∧ t.flag SIU_FAULT_OUT_FAULT = false ∧ t.flag SIU_FAULT_DEGRADE_EXP = false ∧
      t.flag SIU_FAULT_INTERNAL = false ∧ t.cause 781 = false ∧ t.cause 779 = false ∧ t.cause 780 = false) ∧
    (∀ e, let r : State := { s with siu := { s.siu with request := 0 } }
      (s.siu.request = 0 → s.decideReset e = s) ∧
      (s.siu.request ≠ 0 →
        (s.siuState = sStop → s.siu.starting = false →
          s.decideReset e = if s.startOk e then { r with siu := { r.siu with starting := true } } else s.refuseAll) ∧
        (s.siuState = sFault → s.siu.clearing = false →
          (s.faultsSeen = false ∨ e.mismatch = true → s.decideReset e = s.refuseAll) ∧
          (s.faultsSeen = true → e.mismatch = false → s.decideReset e =
            if s.flag SIU_FAULT_DEGRADE_EXP then { r with siu := { r.siu with clearing := true } } else r.acceptClear)) ∧
        (s.siuState = sOn ∨ s.siuState = sDegraded ∨ s.siuState = sInit → s.decideReset e = s.refuseAll))) ∧
    (let t := s.refuseAll
     t.siu = { s.siu with request := 0 } ∧
      t.reg SIU_CNT1_RESET_REFUSED = min (2 ^ SIU_CNT1_RESET_REFUSED.wd - 1) (s.reg SIU_CNT1_RESET_REFUSED + s.siu.request) ∧
      (s.pins.resetN = true → t.flt.raises = s.flt.raises ++ List.replicate s.siu.request { src := 784 }) ∧ t = { s with regs := t.regs, siu := t.siu, flt := t.flt }) ∧
    (∀ st, st = s.enterOn → st.siuState = sOn ∧ st.flag SIU_STATUS_SAFETY_HOLD = false ∧ (s.outputsOn = false → st.flag SIU_OUTPUTS_SO_A_ON = true ∧
      st.flag SIU_OUTPUTS_SO_B_ON = true)) ∧
    (s.siuState = sDegraded → ∃ t, exec .degradeExpiry s = .next t ∧ t.siuState = sFault ∧ t.flag SIU_FAULT_DEGRADE_EXP = true ∧ t.cause 779 = true ∧
      t.flag SIU_OUTPUTS_SO_A_ON = false ∧ t.flag SIU_OUTPUTS_SO_B_ON = false ∧ t.tiles = s.tiles ∧
      s.siu.degAt + 240000 * s.siu.degMin ≤ t.siu.evals) ∧
    (s.siuState ≠ sDegraded → exec .degradeExpiry s = .next s) ∧ (s.siu.edmDue = false → exec .edmCheck s = .next s) ∧
    (s.siu.edmDue = true → let u : State := { s with siu := { s.siu with edmDue := false, edmOn := s.outputsOn } }
      ((s.flag SIU_CFG0_EDM_EN = false ∨ s.chan 11 ≠ s.outputsOn) → exec .edmCheck s = .next u) ∧
      (s.flag SIU_CFG0_EDM_EN = true → s.chan 11 = s.outputsOn → exec .edmCheck s = .next u.edmFault)) ∧
    (∀ n, s.siu.rstLen = some n → exec .safeRstRelease s =
      .next { s with siu := { s.siu with rstLen := none, request := s.siu.request + b2n (decide (3200 ≤ n) && decide (n ≤ 160000)) } }) ∧
    (∀ a, s.siu.rstAt = some a → s.siu.rstStuck = false → ∃ t, exec .safeRstStuck s = .next t ∧ t.siu.rstStuck = true ∧ a + 160001 ≤ t.siu.samples ∧
      t.siu.request = s.siu.request ∧ t.tick = s.tick + 40000 * (a + 160001 - s.siu.samples) ∧ (s.pins.resetN = true → t.flt.raises = s.flt.raises ++ [{ src := 785 }]) ∧ t.regs = s.regs) ∧
    (s.siu.rstLen = none → exec .safeRstRelease s = .next s) ∧
    (s.siu.rstAt = none ∨ s.siu.rstStuck = true → exec .safeRstStuck s = .next s) ∧
    (s.windowOpen = false → exec .resetReq s = .next s) ∧
    (s.windowOpen = true → ∃ t, exec .resetReq s = .next t ∧ t.tiles = s.tiles ∧ t.txn = s.txn ∧
      t.siu.request = s.siu.request + b2n (s.presence && s.flag SIU_CFG0_HOST_RST_EN))) ∧
  (s.pins.porstN = false → (∀ e, exec (.siuEvaluation e) s = .next s) ∧ (∀ p, exec (.siuSelfTestDone p) s = .next s) ∧
    (∀ x, exec (.outputTest x) s = .next s) ∧ (∀ p q, exec (.startSelfTestDone p q) s = .next s) ∧ exec .degradeExpiry s = .next s ∧
    exec .edmCheck s = .next s ∧ exec .resetReq s = .next s)

/-- With PORST_N released a press of an input that is not stuck opens the presence window for PRES_WIN seconds, with event 787, or
starts its full length again, and one of a stuck input does not; the window closes at its end and at PRES_CLOSE; an input low for more
than 10 s closes it, is stuck, sets PRES_STUCK and raises 788, and is free again after a stuck episode. A commit inside a presence
window outside S_ON and S_DEGRADED makes the pending configuration live with its CRC and raises 789, in those states it is ignored with
event 790, and outside a presence window it commits nothing; a CRC that no longer matches is an internal fault. A sample of the twelve
channels accepts a level that has differed on every sample of T_FILT, and any sample that agrees with the accepted level clears its run.
Outside their conditions, with the register window closed, and in the reset of the island, these commands change nothing. -/
def Obligations.PresenceConfigurationAndSafetySamples : Prop :=
  ∀ (s : State), (s.pins.porstN = true →
    (s.siu.presStuck = false → ∃ t, exec .presencePress s = .next t ∧ t.presence = true ∧
      t.siu = { s.siu with presLow := some s.tick, presEnd := some (s.tick + s.reg SIU_CFG1_PRES_WIN * ticksPerSec) } ∧
      (s.presence = true → t.flt = s.flt) ∧
      (s.presence = false → s.pins.resetN = true → t.flt.raises = s.flt.raises ++ [{ src := 787 }]) ∧ (∀ o, o ≠ SIU_STATUS_PRES_OPEN.off → t.word o = s.word o) ∧ t = { s with regs := t.regs, siu := t.siu, flt := t.flt }) ∧
    (s.siu.presStuck = true → exec .presencePress s = .next { s with siu := { s.siu with presLow := some s.tick } }) ∧
    (∀ a, s.siu.presEnd = some a → ∃ t, exec .presenceWindowExpiry s = .next t ∧ t.presence = false ∧ t.siu = { s.siu with presEnd := none } ∧
      t.flt = s.flt ∧ t.tiles = s.tiles ∧ a ≤ t.tick) ∧
    (s.siu.presEnd = none → exec .presenceWindowExpiry s = .next s) ∧
    (s.windowOpen = true → ∃ t, exec .presClose s = .next t ∧ t.presence = false ∧ t.siu = { s.siu with presEnd := none } ∧ t.tiles = s.tiles) ∧
    (∀ a, s.siu.presLow = some a → s.siu.presStuck = false → s.pins.resetN = true → ∃ t, exec .presenceStuck s = .next t ∧ t.presence = false ∧
      t.siu = { s.siu with presEnd := none, presStuck := true } ∧ t.flag SIU_STICKY_PRES_STUCK = true ∧ t.flt.raises = s.flt.raises ++ [{ src := 788 }] ∧
      a + 10 * ticksPerSec < t.tick) ∧
    (s.siu.presLow = none ∨ s.siu.presStuck = true → exec .presenceStuck s = .next s) ∧
    (s.siu.presStuck = false → exec .presenceStuckEnd s = .next s) ∧
    (s.siu.presStuck = true → exec .presenceStuckEnd s = .next { s with siu := { s.siu with presStuck := false, presLow := none } }) ∧
    (s.siuState ≠ sOn → s.siuState ≠ sDegraded → s.siu.cfg0 < 2 ^ 32 → s.siu.cfg1 < 2 ^ 32 → let t := s.cfgCommit
      (t.word SIU_CFG0_T_DISC.off).toNat = s.siu.cfg0 ∧ (t.word SIU_CFG1_DEGRADE_MIN.off).toNat = s.siu.cfg1 ∧ t.siu = { s.siu with crcSet := true } ∧
      t.reg SIU_CFG_CRC_CFG_CRC = siuCrc s.siu.cfg0 s.siu.cfg1 % 2 ^ 32 ∧
      (s.inReset = false → t.flt.raises = s.flt.raises ++ [{ src := 789 }])) ∧
    (s.siuState = sOn ∨ s.siuState = sDegraded → s.cfgCommit = s.raise 790) ∧
    (s.windowOpen = true → s.presence = true →
      exec .cfgCommit s = .next ((s.plainWrite SIU_CMD_CFG_COMMIT.off 1).setReg SIU_CMD_PRES_CLOSE 0 0).cfgCommit) ∧
    (s.windowOpen = true → s.presence = false →
      exec .cfgCommit s = .next ((s.plainWrite SIU_CMD_CFG_COMMIT.off 1).setReg SIU_CMD_PRES_CLOSE 0 0)) ∧
    (s.windowOpen = false → exec .cfgCommit s = .next s ∧ exec .presClose s = .next s) ∧
    (s.siu.crcSet = true → siuCrc (s.word SIU_CFG0_T_DISC.off).toNat (s.word SIU_CFG1_DEGRADE_MIN.off).toNat ≠ s.reg SIU_CFG_CRC_CFG_CRC →
      exec .cfgCrcCheck s = .next s.internalFault) ∧
    (s.siu.crcSet = false ∨ siuCrc (s.word SIU_CFG0_T_DISC.off).toNat (s.word SIU_CFG1_DEGRADE_MIN.off).toNat = s.reg SIU_CFG_CRC_CFG_CRC →
      exec .cfgCrcCheck s = .next s) ∧
    (∀ raw, exec (.siuChannelSample raw) s =
      .next (({ s with siu := { s.siu with samples := s.siu.samples + 1, raw := raw } } : State).forEach (fun s c => s.sampleChan raw c) (List.range 12))) ∧
    (∀ raw c, c < 12 → (bit raw c = s.chan c → s.sampleChan raw c = { s with siu := { s.siu with runs := s.siu.runs.write 0 c 0 } }) ∧
      (bit raw c ≠ s.chan c → s.siu.runs.read 0 c < 32 * s.reg SIU_CFG0_T_FILT →
        s.sampleChan raw c = { s with siu := { s.siu with runs := s.siu.runs.write 0 c (s.siu.runs.read 0 c + 1) } }) ∧
      (bit raw c ≠ s.chan c → 32 * s.reg SIU_CFG0_T_FILT ≤ s.siu.runs.read 0 c → (s.sampleChan raw c).chan c = bit raw c ∧
        (∀ d, d < 12 → d ≠ c → (s.sampleChan raw c).chan d = s.chan d)))) ∧
  (s.pins.porstN = false → exec .presencePress s = .next s ∧ exec .presClose s = .next s ∧ exec .cfgCommit s = .next s ∧
    exec .cfgCrcCheck s = .next s ∧ (∀ raw, exec (.siuChannelSample raw) s = .next s))

/-- Outside reset a logger cycle takes every waiting raise and the next one kept through a reset (R545), in the order of R542, with none
lost or made, and records them one by one. A real raise of a held condition, or of a notice recorded less than HOLDOFF_US before, only
counts in SUPPRESSED; any other real raise holds its condition or dates its notice; an injected one does neither. An event of severity
IGNORE changes nothing; one of severity LOG joins the history as its newest entry with the DT and counts in RECORDED, and if it is real
and the first-fault record is empty, becomes it; an injected one never does. Each severity from NOTIFY on takes its own action, an event
entry, a fence of the source's domain in service, a resignation, a QUENCH demand, after those of the severities below it; an injected
event without INJ_ACT takes none above NOTIFY. With the window open an injection with presence raises its injected source, and without
presence raises nothing; a software trigger raises 960 + k for bit k; HISTORY_SNAP fills ENTRIES and the copy. A tile engine with no row
in 4 watched frames stops and raises its domain's watchdog source. The lockstep mismatch raises 928; the PLL's loss of lock clears
PLL_LOCK and raises 613, and its lock from start-up state 3 on sets it and ends the cause. In reset, with the window closed, or where
the condition is absent these commands change nothing. -/
def Obligations.EventsAreRecordedInOrder : Prop :=
  ∀ s : State,
    (s.inReset = false → exec .eventRecord s =
      .next ((s.sortRaises (s.flt.raises ++ s.flt.kept.take 1)).foldl State.record { s with flt := { s.flt with raises := [], kept := s.flt.kept.drop 1 } })) ∧
    (s.inReset = true → exec .eventRecord s = .next s ∧ (∀ t, exec (.watchdogFire t) s = .next s) ∧ exec .supervisorLockstepMismatch s = .next s ∧
      exec .timeBasePllUnlock s = .next s ∧ exec .timeBasePllRelock s = .next s) ∧
    (∀ l, (s.sortRaises l).Perm l ∧ (s.sortRaises l).Pairwise (fun a b => s.precedes b a = false)) ∧
    (∀ a b, s.precedes a b = true ↔ s.severity b.src < s.severity a.src ∨ (s.severity a.src = s.severity b.src ∧
      (a.src < b.src ∨ (a.src = b.src ∧ a.injected = false ∧ b.injected = true)))) ∧
    (∀ r, r.injected = false →
      (srcCondition r.src = true → s.held r.src = true → s.record r = s.inc FLT_CNT_SUPPRESSED) ∧
      (srcCondition r.src = true → s.held r.src = false → s.record r = (s.setHeld r.src true).recordEvent r) ∧
      (∀ at_, srcCondition r.src = false → s.flt.stamp.read 0 r.src = at_ + 1 → s.dt < at_ + usTicks (s.reg FLT_CTRL_HOLDOFF_US) →
        s.record r = s.inc FLT_CNT_SUPPRESSED) ∧
      (srcCondition r.src = false → s.heldOff r.src = false → s.severity r.src ≠ sevIgnore →
        s.record r = ({ s with flt := { s.flt with stamp := s.flt.stamp.write 0 r.src (s.dt + 1) } } : State).recordEvent r)) ∧
    (∀ r, r.injected = true → s.record r = s.recordEvent r) ∧
    (∀ r, s.severity r.src = sevIgnore → s.recordEvent r = s) ∧
    (∀ r, s.severity r.src = sevLog → let first := !r.injected && !s.flag FLT_STATUS_FF_VALID; let t := s.recordEvent r
      t.flt = { s.flt with hist := (⟨r.src, 1, r.injected, first, r.status, r.info, s.dt⟩ :: s.flt.hist).take 32 } ∧
      t.reg FLT_HIST_CNT_RECORDED = min 65535 (s.reg FLT_HIST_CNT_RECORDED + 1) ∧
      (first = true → t.flag FLT_STATUS_FF_VALID = true ∧ t.reg FLT_FF_SRC_SOURCE = r.src % 1024 ∧ t.reg FLT_FF_SRC_SEVERITY = 1) ∧
      (first = false → ∀ o, o ≠ FLT_HIST_CNT_RECORDED.off → t.word o = s.word o) ∧ t = { s with flt := t.flt, regs := t.regs }) ∧
    (∀ r, s.severity r.src ≠ sevIgnore → let sev := s.severity r.src; let first := !r.injected && !s.flag FLT_STATUS_FF_VALID
      let h := ({ s with flt := { s.flt with hist := (⟨r.src, sev, r.injected, first, r.status, r.info, s.dt⟩ :: s.flt.hist).take 32 } } : State).inc
        FLT_HIST_CNT_RECORDED
      let a := if first then h.setFirst r sev else h
      (r.injected = false ∨ s.flag FLT_CTRL_INJ_ACT = true → s.recordEvent r = a.act r sev (evtEntry r sev first s.now)) ∧
      (r.injected = true → s.flag FLT_CTRL_INJ_ACT = false → s.recordEvent r = a.act r (min sev sevNotify) (evtEntry r sev first s.now))) ∧
    (∀ r entry, s.act r sevLog entry = s ∧ (r.orphan = true → s.act r sevNotify entry = s.inc HIF_CNT1_ORPHANS) ∧
      (r.orphan = false → s.act r sevNotify entry = s.postEvt entry ∧ s.act r sevDegrade entry = (s.postEvt entry).fenceFor r.src ∧
        s.act r sevResign entry = ((s.postEvt entry).fenceFor r.src).resign (resignCause r.src) ∧
        (let q := ((s.postEvt entry).fenceFor r.src).resign (resignCause r.src)
         s.act r sevQuench entry = { q with txn := { q.txn with demands := q.txn.demands + 1 } }))) ∧
    (∀ n d, srcDomain n = some d → (s.domState d = 0 → (s.domSt d).fence = none → s.fenceFor n = s.setDomSt d { (s.domSt d) with fence := some 2 }) ∧
      (s.domState d ≠ 0 ∨ (s.domSt d).fence ≠ none → s.fenceFor n = s)) ∧
    (∀ n, srcDomain n = none → s.fenceFor n = s) ∧
    (s.windowOpen = false → ∀ v, exec (.faultInject v) s = .next s ∧ exec (.softwareTrigger v) s = .next s ∧ exec .historySnap s = .next s) ∧
    (∀ v, s.windowOpen = true → s.presence = true → bit v 31 = true → let u := s.plainWrite FLT_INJ_GO.off v
      exec (.faultInject v) s = .next (if srcNamed (u.reg FLT_INJ_SOURCE) then u.raiseEv { src := u.reg FLT_INJ_SOURCE, injected := true }
        else u.badWrite FLT_INJ_GO.off)) ∧
    (∀ v, s.windowOpen = true → (s.presence = false ∨ bit v 31 = false) → exec (.faultInject v) s = .next (s.plainWrite FLT_INJ_GO.off v)) ∧
    (∀ v, s.windowOpen = true → ∃ t : State, exec (.softwareTrigger v) s = .next t ∧ t.reg FLT_SWTRIG_TRIG = 0 ∧
      t.flt = { s.flt with raises := s.flt.raises ++ (bitsOf 32 v).map (fun k => { src := 960 + k }) } ∧
      (∀ o, o ≠ FLT_SWTRIG_TRIG.off → t.word o = s.word o) ∧ t = { s with flt := t.flt, regs := t.regs }) ∧
    (s.windowOpen = true → ∃ t : State, exec .historySnap s = .next t ∧ (s.flt.hist.length ≤ 32 → t.reg FLT_HIST_CNT_ENTRIES = s.flt.hist.length) ∧
      t.reg FLT_HIST_SNAP_SNAP = 0 ∧ t = { s with regs := t.regs } ∧
      (∀ n e, n < 32 → s.flt.hist[n]? = some e → t.reg FLT_H_SRC_SOURCE n = e.src % 1024 ∧ t.flag FLT_H_SRC_VALID n = true ∧
        t.flag FLT_H_SRC_FIRST n = e.first ∧ t.reg FLT_H_INFO_INFO n = e.info % 2 ^ 32) ∧
      (∀ n, n < 32 → s.flt.hist.length ≤ n → t.word (FLT_H_SRC_SOURCE.offAt n) = 0 ∧ t.reg FLT_H_INFO_INFO n = 0)) ∧
    (∀ t, s.inReset = false → t < 96 → s.engineRuns t = true → 4 ≤ (s.tile t).idleFrames → ∃ u : State, exec (.watchdogFire t) s = .next u ∧
      (u.tile t).engine = false ∧ (∀ k, k ≠ t → u.tile k = s.tile k) ∧ u.cause (srcDom (domOf t) 1) = true ∧
      u.flt = { s.flt with raises := s.flt.raises ++ [{ src := srcDom (domOf t) 1, info := infoTile t none }] } ∧
      u = { s with tiles := u.tiles, regs := u.regs, flt := u.flt }) ∧
    (∀ t, 96 ≤ t ∨ s.engineRuns t = false ∨ (s.tile t).idleFrames < 4 → exec (.watchdogFire t) s = .next s) ∧
    (s.flag TMU_STATUS_PLL_LOCK = false → exec .timeBasePllUnlock s = .next s) ∧ (s.startup < 3 → exec .timeBasePllRelock s = .next s) ∧
    (s.inReset = false → exec .supervisorLockstepMismatch s = .next (s.raiseCond 928)) ∧
    (s.inReset = false → s.flag TMU_STATUS_PLL_LOCK = true →
      exec .timeBasePllUnlock s = .next ((s.setFlag TMU_STATUS_PLL_LOCK 0 false).raiseCond 613)) ∧
    (s.inReset = false → 3 ≤ s.startup → exec .timeBasePllRelock s = .next ((s.setFlag TMU_STATUS_PLL_LOCK 0 true).setCause 613 false))

/-- With the window open and presence a SEAL takes the live values with the newest GEN + 1 into the other copy, which is no longer
valid, or ends WRITE_WINDOW with 807; each step leads to the next or, outside the window, ends so; an equal readback makes the copy
valid with DONE, a different one ends INTERNAL. SVN_COMMIT raises the floor to the running SVN; KEY_REVOKE adds its mask, and one naming
the running key only raises 864. A FENCE in service, an UPDATE with staged microcode or a RELOAD in FENCED, and a RETURN in FENCED with
no held source, all engines and the lead are taken for the next marker; one that does not apply sets REFUSED with 864. Without presence
the bits that need it do nothing. A load that its marker has let begin enters LOADING with the staged or the live microcode; its end
counts, records the result and, failed, raises the update failure; at the marker the domain is FENCED with the new microcode or the old;
a fence and a return take their marker too. REMAP sets both bits, and the map changes once no access to the window is outstanding. A
scrub counts and raises 866 or, with the address, 867 per finding, whose word then stays bad. A burst is legal with 1 to 8 beats from a
64 B boundary within its 4 KiB page and region; every burst ends once, granted ones first, then the calendar sequencer, the aged and the
others by rank, and is answered once, those of one ID in order. A good write writes its enabled bytes; a read meets what is bad. A reset
of a master in a burst retires its IDs, counts and raises 868; illegal bursts go to the default target, other masters take their error.
The end of a retirement lets the master issue again, the last ends the cause of 929, and what the host held goes out. Where its
condition is absent each command changes nothing. -/
def Obligations.SealsFusesAndServiceOfDomains : Prop :=
  ∀ s : State,
    (s.windowOpen = true → s.presence = true → s.word BTU_CTRL_SEAL.off = 0 → s.btu.sealing = none →
      (∀ k c, s.newestCask = some (k, c) → ∃ t : State, exec .sealCask s = .next t ∧
        (if k = 0 then t.btu.cask1 = none ∧ t.btu.cask0 = s.btu.cask0 else t.btu.cask0 = none ∧ t.btu.cask1 = s.btu.cask1) ∧
        (s.flag KLN_CTRL_CASK_WIN_EN = true ∧ s.flag KLN_STATUS_CASK_OK = false → t.btu.sealing = none ∧
          t.flag BTU_CASK_STATUS_SEAL_BUSY = false ∧ t.reg BTU_CASK_STATUS_SEAL_RESULT = 0x62 ∧
          t.flt = { s.flt with raises := s.flt.raises ++ [{ src := 807, status := 0x62 }] }) ∧
        ((s.flag KLN_CTRL_CASK_WIN_EN = false ∨ s.flag KLN_STATUS_CASK_OK = true) → t.flag BTU_CASK_STATUS_SEAL_BUSY = true ∧ t.flt = s.flt ∧
          ∃ i, t.btu.sealing = some (1 - k, i, .erase) ∧ i = s.caskImage ((c.gen + 1) % 2 ^ 32))) ∧
      (s.newestCask = none → s.flag KLN_CTRL_CASK_WIN_EN = false ∨ s.flag KLN_STATUS_CASK_OK = true → ∃ t : State, exec .sealCask s = .next t ∧
        t.btu.sealing.isSome = true ∧ t.flag BTU_CASK_STATUS_SEAL_BUSY = true ∧ t.flt = s.flt)) ∧
    (s.windowOpen = true → s.presence = true → s.btu.sealing.isSome = true → exec .sealCask s = .next (s.plainWrite BTU_CTRL_SEAL.off 2)) ∧
    (s.inReset = true ∨ s.btu.sealing = none → ∀ b, exec (.sealStepDone b) s = .next s) ∧
    (∀ k c, s.inReset = false → s.btu.sealing = some (k, c, .erase) → ∀ b,
      (s.flag KLN_CTRL_CASK_WIN_EN = false ∨ s.flag KLN_STATUS_CASK_OK = true →
        exec (.sealStepDone b) s = .next { s with btu := { s.btu with sealing := some (k, c, .program) } }) ∧
      (s.flag KLN_CTRL_CASK_WIN_EN = true → s.flag KLN_STATUS_CASK_OK = false → ∃ t : State, exec (.sealStepDone b) s = .next t ∧
        t.btu = { s.btu with sealing := none } ∧ t.reg BTU_CASK_STATUS_SEAL_RESULT = 0x62 ∧
        t.flt = { s.flt with raises := s.flt.raises ++ [{ src := 807, status := 0x62 }] })) ∧
    (∀ k c, s.inReset = false → s.btu.sealing = some (k, c, .program) → ∀ b,
      exec (.sealStepDone b) s = .next { s with btu := { s.btu with sealing := some (k, c, .readback) } }) ∧
    (∀ k c, s.inReset = false → s.btu.sealing = some (k, c, .readback) →
      (∃ t : State, exec (.sealStepDone true) s = .next t ∧ t.btu.sealing = none ∧ (if k = 0 then t.btu.cask0 else t.btu.cask1) = some c ∧
        t.reg BTU_CASK_GEN = c.gen % 2 ^ 32 ∧ t.reg BTU_CASK_STATUS_SEAL_RESULT = 0 ∧ t.flag BTU_CASK_STATUS_SEAL_BUSY = false ∧
        t.reg BTU_CASK_STATUS_SEALS = min 65535 (s.reg BTU_CASK_STATUS_SEALS + 1)) ∧
      (∃ t : State, exec (.sealStepDone false) s = .next t ∧ t.btu = { s.btu with sealing := none } ∧
        t.reg BTU_CASK_STATUS_SEAL_RESULT = 0x70 ∧ t.flag BTU_CASK_STATUS_SEAL_BUSY = false)) ∧
    (s.windowOpen = true → s.presence = true → s.word BTU_CTRL_SEAL.off = 0 →
      (∃ t : State, exec .svnCommit s = .next t ∧ t.reg BTU_FUSE_SVN_FLOOR = max (s.reg BTU_FUSE_SVN_FLOOR) (s.reg BTU_FUSE_SVN_RUN) ∧
        t.reg BTU_FUSE_KEY_REVOKED = s.reg BTU_FUSE_KEY_REVOKED ∧ t = { s with regs := t.regs }) ∧
      (∀ m, m < 16 → m ≠ 0 →
        (bit m (s.reg BTU_FUSE_KEY_RUN) = false ∨ s.startup = 2 → ∃ t : State, exec (.keyRevoke m) s = .next t ∧
          t.reg BTU_FUSE_KEY_REVOKED = Nat.lor (s.reg BTU_FUSE_KEY_REVOKED) m ∧ t = { s with regs := t.regs }) ∧
        (bit m (s.reg BTU_FUSE_KEY_RUN) = true → s.startup ≠ 2 → ∃ t : State, exec (.keyRevoke m) s = .next t ∧
          t.reg BTU_FUSE_KEY_REVOKED = s.reg BTU_FUSE_KEY_REVOKED ∧ t.flt.raises = s.flt.raises ++ [{ src := 864, info := BTU_CTRL_SEAL.off }]))) ∧
    (s.windowOpen = true → s.presence = false → exec .sealCask s = .next (s.plainWrite BTU_CTRL_SEAL.off 2) ∧
      exec .svnCommit s = .next (s.plainWrite BTU_CTRL_SEAL.off 1) ∧ ∀ m, m < 16 → exec (.keyRevoke m) s = .next (s.plainWrite BTU_CTRL_SEAL.off (16 * m))) ∧
    (s.windowOpen = false → exec .sealCask s = .next s ∧ exec .svnCommit s = .next s ∧ ∀ m, exec (.keyRevoke m) s = .next s ∧
      exec (.fence m) s = .next s ∧ exec (.update m) s = .next s ∧ exec (.reload m) s = .next s ∧ exec (.returnService m) s = .next s) ∧
    (∀ d, 8 ≤ d → exec (.fence d) s = .next s ∧ exec (.update d) s = .next s ∧ exec (.reload d) s = .next s ∧ exec (.returnService d) s = .next s ∧
      exec (.loadingStart d) s = .next s ∧ ∀ b, exec (.loadDone d b) s = .next s) ∧
    (∀ d, s.windowOpen = true → d < 8 → s.word (DOM_CTRL_FENCE.offAt d) = 0 →
      (s.domState d = 0 → (s.domSt d).fence = none → ∃ t : State, exec (.fence d) s = .next t ∧ (t.domSt d).fence = some 1 ∧
        (∀ k, k ≠ d → t.domSt k = s.domSt k) ∧ t = { s with regs := t.regs, btu := t.btu } ∧ ∀ o, o ≠ DOM_CTRL_FENCE.offAt d → t.word o = s.word o) ∧
      (s.domState d = 0 → (s.domSt d).fence ≠ none → ∃ t : State, exec (.fence d) s = .next t ∧ t.btu = s.btu ∧ t.flt = s.flt) ∧
      (s.domState d = 1 → s.presence = true → s.btu.staged.isSome = true → ∃ t : State, exec (.update d) s = .next t ∧ (t.domSt d).load = some true) ∧
      (s.presence = false → ∃ t : State, exec (.update d) s = .next t ∧ t.btu = s.btu ∧ t.domState d = s.domState d) ∧
      (s.domState d = 1 → ∃ t : State, exec (.reload d) s = .next t ∧ (t.domSt d).load = some false ∧ t.flt = s.flt) ∧
      (s.domState d = 1 → s.degradeHeld d = false → (∀ t ∈ State.tilesOfDom d, (s.tile t).engine = true) → s.leads = true →
        ∃ t : State, exec (.returnService d) s = .next t ∧ (t.domSt d).ret = true ∧ t.flt = s.flt) ∧
      (∀ c : Instr, (c = .fence d ∧ s.domState d ≠ 0) ∨ (c = .reload d ∧ s.domState d ≠ 1) ∨
          (c = .returnService d ∧ (s.domState d ≠ 1 ∨ s.degradeHeld d = true ∨ s.leads = false ∨ ∃ k ∈ State.tilesOfDom d, (s.tile k).engine = false)) ∨
          (c = .update d ∧ s.presence = true ∧ (s.domState d ≠ 1 ∨ s.btu.staged = none)) →
        ∃ t : State, exec c s = .next t ∧ t.flag DOM_STATUS_REFUSED d = true ∧ t.domState d = s.domState d ∧ t.btu = s.btu ∧
          t.flt.raises = s.flt.raises ++ [{ src := 864, info := DOM_CTRL_FENCE.offAt d }])) ∧
    (∀ d, d < 8 → (s.inReset = true ∨ (s.domSt d).due = false ∨ s.loadDue d = false → exec (.loadingStart d) s = .next s) ∧
      (s.inReset = true ∨ s.domState d ≠ 2 ∨ (s.domSt d).loaded ≠ none → ∀ b, exec (.loadDone d b) s = .next s)) ∧
    (∀ d, s.inReset = false → d < 8 →
      ((s.domSt d).due = true → s.loadDue d = true → ∃ t : State, exec (.loadingStart d) s = .next t ∧ t.domState d = 2 ∧
        (t.domSt d).loading = (if (s.domSt d).load = some true then s.btu.staged else (s.domSt d).live) ∧ (t.domSt d).live = (s.domSt d).live ∧
        t.tiles = s.tiles ∧ t.flt = s.flt) ∧
      (s.domState d = 2 → (s.domSt d).loaded = none →
        (∃ t : State, exec (.loadDone d true) s = .next t ∧ (t.domSt d).loaded = some true ∧ t.reg DOM_STATUS_LAST_RESULT d = 1 ∧ t.domState d = 2 ∧
          t.reg DOM_CNT_LOADS d = min 65535 (s.reg DOM_CNT_LOADS d + 1) ∧ t.flt = s.flt) ∧
        (∃ t : State, exec (.loadDone d false) s = .next t ∧ (t.domSt d).loaded = some false ∧ t.reg DOM_STATUS_LAST_RESULT d = 2 ∧ t.domState d = 2 ∧
          t.reg DOM_CNT_LOADS d = min 65535 (s.reg DOM_CNT_LOADS d + 1) ∧
          t.flt.raises = s.flt.raises ++ [{ src := srcDom d 2, info := infoTile (12 * d) none }])) ∧
      (∀ ok, s.domState d = 2 → (s.domSt d).loaded = some ok → let t := s.serviceDom d
        t.domState d = 1 ∧ (t.domSt d).live = (if ok then (s.domSt d).loading else (s.domSt d).live) ∧
        (s.role = roleStandby → t.flt.raises = s.flt.raises ++ [{ src := srcDom d 3, info := infoTile (12 * d) none }])) ∧
      (∀ c, c < 4 → s.domState d = 0 → (s.domSt d).fence = some c → let t := s.serviceDom d
        t.domState d = 1 ∧ t.reg DOM_STATUS_FENCE_CAUSE d = c ∧ (t.domSt d).fence = none ∧
        t.reg DOM_CNT_FENCES d = min 65535 (s.reg DOM_CNT_FENCES d + 1)) ∧
      (s.domState d = 1 → (s.domSt d).ret = true → let t := s.serviceDom d
        t.domState d = 3 ∧ (t.domSt d).ret = false ∧ t.flag TMU_TREE_CAL_BUSY = true ∧ t.tiles = s.tiles) ∧
      (s.domState d = 1 → (s.domSt d).ret = false → s.loadDue d = true → s.serviceDom d = s.setDomSt d { (s.domSt d) with due := true }) ∧
      (s.domState d = 3 → (s.domSt d).recal = some true → let t := s.serviceDom d
        t.domState d = 0 ∧ t.reg DOM_STATUS_FENCE_CAUSE d = 0 ∧ t.tiles = s.tiles) ∧
      (s.domState d = 3 → (s.domSt d).recal = some false → (s.serviceDom d).domState d = 1)) ∧
    (∀ (r : MtxReq) base size, r.formed base size = true ↔ 1 ≤ r.beats.length ∧ r.beats.length ≤ 8 ∧ r.addr % 64 = 0 ∧
      r.addr % 4096 + 64 * r.beats.length ≤ 4096 ∧ r.addr + 64 * r.beats.length ≤ base + size) ∧
    (∀ (r : MtxReq) remap, r.target remap ≤ 11 ∧ (r.target remap ≠ 11 ↔ ∃ base size, mtxRegion remap r.addr = some (base, size, r.target remap) ∧
      r.formed base size = true ∧ bit ((if r.write then mtxWrites else mtxReads).getD (r.target remap) 0) r.master = true)) ∧
    (∀ age past l r, nextGrant age past l = some r → r ∈ l ∧ ∀ x ∈ l, r.key age past ≤ x.key age past) ∧
    (∀ age past (r x : MtxReq), r.master < 8 → x.master < 8 →
      (r.master = 0 → x.master ≠ 0 → r.key age past < x.key age past) ∧
      (x.master ≠ 0 → age ≤ r.waited + past → x.waited + past < age → r.key age past < x.key age past) ∧
      (r.master ≠ 0 → (age ≤ r.waited + past ↔ age ≤ x.waited + past) → r.master < x.master → r.key age past < x.key age past)) ∧
    (∀ age l, (targetOrder age l).Perm l) ∧ (∀ age remap l, (matrixOrder age remap l).Perm l) ∧
    (∀ r : MtxReq, r.disable.beats.length = r.beats.length ∧ ∀ i, r.delivered.getD 0 ≤ i → i < r.beats.length → ∃ b, r.beats[i]? = some b ∧ r.disable.beats[i]? = some { b with en := 0 }) ∧
    (∀ o e : List MtxReq, e.Perm o → (answerOrder o.length o e).Perm o ∧ ∀ r : MtxReq, (answerOrder o.length o e).filter r.sameId = o.filter r.sameId) ∧
    (∀ src, (∀ r : MtxReq, (r.master = 3 → s.busError r = { s with mtx := { s.mtx with superErr := s.mtx.superErr + 1 } }) ∧
        (r.master = 2 → s.busError r = s.restartSync) ∧ (r.master = 1 ∨ r.master = 4 → s.busError r = s) ∧
        (r.master = 5 ∨ r.master = 6 → r.src = src → s.busError r = s.endLoad src) ∧
        (∀ n i j ess, r.master = 0 → r.src = .calendar n i j ess → s.leads = true → n < 16 → s.listLive n = true → s.reg CAL_L_POS_NEXT n = i →
          s.busError r = (s.notIssued n i CAL_L_CNT1_FAILED .internal).essFail n i ess .internal)) ∧
      (∀ n, s.txn.loads.findIdx? (fun l => decide (l.src = src)) = some n → s.endLoad src = (s.dropLoad n).reply src .internal 0 true []) ∧
      (s.txn.loads.findIdx? (fun l => decide (l.src = src)) = none → s.endLoad src = if s.openCmd src then s.reply src .internal 0 true [] else s)) ∧
    (s.inReset = true → exec .remap s = .next s ∧ (∀ l, exec (.scrub l) s = .next s) ∧ (∀ k l, exec (.masterReset ⟨k, l⟩) s = .next s) ∧
      ∀ k, exec (.retirementDone k) s = .next s) ∧
    (s.inReset = false →
      (∃ t : State, exec .remap s = .next t ∧ t.flag MTX_CTRL_REMAP = true ∧ t.flag BTU_STATE_REMAP = true ∧
        t = { s with regs := t.regs, mtx := { s.mtx with map := s.mtx.map || s.mtx.queue.all (fun r => decide (0x200000 ≤ r.addr)) } }) ∧
      (∀ l, exec (.scrub l) s = .next (l.foldl State.scrubbed s)) ∧
      (∀ a, s.scrubbed (a, true) = s.eccError a true ∧ (s.eccError a true).reg MTX_CNT0_CORRECTED = min 65535 (s.reg MTX_CNT0_CORRECTED + 1) ∧
        (s.eccError a true).flt.raises = s.flt.raises ++ [{ src := 866 }] ∧
        (let t := s.scrubbed (a, false)
         t.reg MTX_ECC_ADDR_ADDR = a / 64 % 2 ^ 32 ∧ t.reg MTX_CNT0_UNCORR = min 65535 (s.reg MTX_CNT0_UNCORR + 1) ∧
          t.flt.raises = s.flt.raises ++ [{ src := 867 }] ∧ ∃ e, (a / 8, e) ∈ t.mtx.bad)) ∧
      (∀ k l, k < 7 → s.retiring k = false → inProgress k l = true →
        let h := l.map (fun r => if r.master = k then r.disable else r)
        let q := matrixOrder (s.reg MTX_AGE_AGE) s.mtx.map h
        ∃ u : State, exec (.masterReset ⟨k, l⟩) s = .next ((answerOrder q.length h q).foldl (State.answerBurst k (u.serveBursts q).2) (u.serveBursts q).1) ∧
        (∀ j, j < 7 → u.retiring j = (decide (j = k) || s.retiring j)) ∧ u.mtx.queue = s.mtx.queue ++ q.filter (fun r => decide (r.master = k)) ∧
        u.reg MTX_CNT1_RESETS = min 65535 (s.reg MTX_CNT1_RESETS + 1) ∧ u.flt.raises = s.flt.raises ++ [{ src := 868 }] ∧
        u = { s with regs := u.regs, flt := u.flt, mtx := u.mtx }) ∧
      (∀ k l, 7 ≤ k ∨ s.retiring k = true ∨ inProgress k l = false → exec (.masterReset ⟨k, l⟩) s = .next s) ∧
      (∀ (r : MtxReq), let a := physAddr s.mtx.map r.addr
        (r.target s.mtx.map = 11 → s.serveBurst r = (s.defaultTarget r.master r.write (r.addr / 2 ^ 32) (r.addr % 2 ^ 32), true)) ∧
        (r.target s.mtx.map ≠ 11 → r.write = true → s.serveBurst r = (s.writeBeats r, false)) ∧
        (r.target s.mtx.map ≠ 11 → r.write = false →
          let u := (r.found.filter (fun p => decide (a ≤ p.1) && decide (p.1 < a + 64 * r.beats.length))).foldl State.meet s
          (u.badIn a (64 * r.beats.length) = none → s.serveBurst r = (u, false)) ∧
          (∀ w, u.badIn a (64 * r.beats.length) = some w → s.serveBurst r = (u.eccError (8 * w.1) false, true)))) ∧
      (∀ a, s.meet (a, true) = s.eccError a true ∧ s.meet (a, false) = s.spoil a) ∧
      (∀ k errs r, State.answerBurst k errs s r = if r.master = k ∨ r ∉ errs then s else s.busError r) ∧
      (∀ a (b : Beat), a < poolAddr 0 ∨ poolAddr 262144 ≤ a → let t := s.writeBeat a b
        (∀ k, k < 64 → t.mtx.mem.get (a + k) = if b.en.getLsbD k then some (b.data.extractLsb' (8 * k) 8) else s.mtx.mem.get (a + k)) ∧
        (∀ c, c < a ∨ a + 64 ≤ c → t.mtx.mem.get c = s.mtx.mem.get c) ∧ t.mtx.queue = s.mtx.queue ∧ t.cal = s.cal) ∧
      (∀ m wr hi lo, hi < 256 → m < 7 → lo < 2 ^ 32 → let t := s.defaultTarget m wr hi lo
        t.reg MTX_ERR_LO_ADDR_LO = lo ∧ t.reg MTX_ERR_HI_ADDR_HI = hi ∧ t.reg MTX_ERR_HI_MASTER = m ∧ t.flag MTX_ERR_HI_WRITE = wr ∧
        t.flt.raises = s.flt.raises ++ [{ src := 865 }]) ∧
      (∀ k, k < 7 → s.retiring k = true → ∃ u : State, exec (.retirementDone k) s = .next (if u.hostOut then u.hostOpen else u) ∧
        (∀ j, j < 7 → u.retiring j = (!decide (j = k) && s.retiring j)) ∧
        (let q := s.mtx.queue.filter (fun r => decide (r.master ≠ k))
         u.mtx = { s.mtx with queue := q, map := s.mtx.map || (s.flag MTX_CTRL_REMAP && q.all (fun r => decide (0x200000 ≤ r.addr))) }) ∧
        ((∀ j, j < 7 → j ≠ k → s.retiring j = false) → u.cause 929 = false) ∧ u = { s with regs := u.regs, mtx := u.mtx }) ∧
      (∀ k, 7 ≤ k ∨ s.retiring k = false → exec (.retirementDone k) s = .next s))

/-- A TAP reset selects IDCODE and ends a drive instruction. Every load of the instruction register shifts its captured 0x01 out. IDCODE
shifts out 0x1109656B, DIE_ID the 64-bit identity, a code of BYPASS (any the table does not name, the factory codes among them on a
device out of factory test) one 0. SAMPLE/PRELOAD captures the 2,025 cells of the boundary register, of which every cell that observes a
pin with a known level holds that level, shifts them out and takes the cells shifted in. EXTEST, EXTEST_PULSE, EXTEST_TRAIN (boundary),
HIGHZ and CLAMP (bypass) take effect while PORST_N is asserted: the park sequencer then owns no domain, and a driven pin shows its data
cell where its control cell enables it, under HIGHZ none; with PORST_N released each selects BYPASS, sets DRIVE_REFUSED and changes no
other register. MBIST_RUN with RESET_N asserted and PORST_N released starts the test with bit 31 of the result; otherwise it selects
BYPASS. The end of a running test puts the failed regions into the result with bit 31 clear; with no test running it changes nothing.
BYPASS with the code of another instruction is no BYPASS and changes nothing. No TAP instruction other than the drives in effect touches
a tile, a transaction or the queues of the host, and of the logger only the memory test, which destroys the content of the history. -/
def Obligations.TestAccessPortAndMemoryTest : Prop :=
  ∀ s : State,
    exec .tapReset s = .next { s with tap := { s.tap with ir := 2, sel := .identity, drive := none } } ∧
    exec .idcode s = .next { s with tap := { s.tap with ir := 2, sel := .identity, drive := none }, out := .tdo 32 0x1109656B :: .tdo 8 1 :: s.out } ∧
    exec .dieId s = .next { s with tap := { s.tap with ir := 0x11, sel := .dieId, drive := none }, out := .tdo 64 Config.dieId.toNat :: .tdo 8 1 :: s.out } ∧
    boundary.length = 2025 ∧
    (∀ cells, let u : State := { s with tap := { s.tap with ir := 1, sel := .boundary, drive := none }, out := .tdo 8 1 :: s.out }
      exec (.samplePreload cells) s =
        .next { u with tap := { u.tap with cells := cells % 2 ^ 2025 }, free := s.free + 32, out := .tdo 2025 u.capture :: u.out } ∧
      (∀ i p r v, boundary[i]? = some (p, r) → r ≠ .control → s.mission p = some v → bit u.capture i = v)) ∧
    (∀ d, s.mission (.own d) = some (s.owns d)) ∧
    (∀ t c, s.mission (.fcd t c) = some true ↔ 5000 * 65535 < (s.tile t).fcdAt c s.dt * s.liveSpan t ((s.tile t).fraAt s.dt % 2)) ∧
    (∀ code, code < 256 → (0x07 ≤ code ∧ code < 0x10) ∨ 0x12 ≤ code → s.factory = false ∨ code < 0x20 ∨ 0x2F < code → exec (.bypass code) s =
      .next { s with tap := { s.tap with ir := code, sel := .bypass, drive := none }, out := .tdo 1 0 :: .tdo 8 1 :: s.out }) ∧
    (∀ code, s.factory = true → 0x20 ≤ code → code ≤ 0x2F → exec (.bypass code) s =
      .next { s with tap := { s.tap with ir := code, sel := .factory, drive := none }, out := .tdo 8 1 :: s.out }) ∧
    (∀ (c : Instr) (code : Nat) (r : TapReg), (c, code, r) ∈ [(Instr.extest, 0, TapReg.boundary), (.highz, 3, .bypass), (.clamp, 4, .bypass),
        (.extestPulse, 5, .boundary), (.extestTrain, 6, .boundary)] →
      (s.pins.porstN = true → ∃ t : State, exec c s = .next t ∧ t.tap = { s.tap with ir := code, sel := .bypass, drive := none } ∧
        t.flag GLB_TEST_DRIVE_REFUSED = true ∧ (∀ o, o ≠ GLB_TEST_DRIVE_REFUSED.off → t.word o = s.word o) ∧
        t = { s with regs := t.regs, tap := t.tap, out := .tdo 8 1 :: s.out }) ∧
      (s.pins.porstN = false → ∃ t : State, exec c s = .next t ∧ t.tap = { s.tap with ir := code, sel := r, drive := some code } ∧
        (∀ d, d < 8 → t.fab.parkPh.getD d .waiting = .waiting ∧ bit (t.reg KFI_STATUS_OWN) d = false) ∧
        (∀ k, k < 96 → (t.tile k).fra = 0 ∧ (t.tile k).fcd = []) ∧
        (∀ p : Pin, p.drives = true → (code = 3 ∨ s.cell p .control = false → t.pinLevel p = none) ∧
          (code ≠ 3 → s.cell p .control = true → (p = .fdiScl ∨ p = .fdiSda → s.cell p .data = false) → t.pinLevel p = some (s.cell p .data))) ∧
        t.txn = s.txn ∧ t.flt = s.flt ∧ t.hif = s.hif ∧ t.out = .tdo 8 1 :: s.out)) ∧
    (s.pins.resetN = false → s.pins.porstN = true → ∃ t : State, exec .mbistRun s = .next t ∧ t.reg GLB_MBIST_RESULT = 2 ^ 31 ∧
      t.tap = { s.tap with ir := 0x10, sel := .result, drive := none } ∧ t.flt.hist.length = s.flt.hist.length ∧
      t = { s with regs := t.regs, tap := t.tap, out := .tdo 8 1 :: s.out, free := t.free, flt := { s.flt with hist := t.flt.hist } }) ∧
    (s.pins.resetN = true ∨ s.pins.porstN = false →
      exec .mbistRun s = .next { s with tap := { s.tap with ir := 0x10, sel := .bypass, drive := none }, out := .tdo 8 1 :: s.out }) ∧
    (∀ failed, 2 ^ 31 ≤ s.reg GLB_MBIST_RESULT → ∃ t : State, exec (.mbistDone failed) s = .next t ∧ t.reg GLB_MBIST_RESULT = failed % 2 ^ 13 ∧
      t.out = (if s.tap.sel = .result then .tdo 32 (failed % 2 ^ 13) :: s.out else s.out) ∧ t = { s with regs := t.regs, out := t.out }) ∧
    (∀ failed, s.reg GLB_MBIST_RESULT < 2 ^ 31 → exec (.mbistDone failed) s = .next s) ∧
    (∀ code, code ≤ 6 ∨ code = 0x10 ∨ code = 0x11 → exec (.bypass code) s = .next s)
end

