-- ==== Sys2Proof/Laws/Quiet.lean ====
section
/-! SUPPORT. What almost every operation leaves alone: the queue of waiting commands, the TAP, the history queue and the capture FIFOs.
One lemma per operation, over the ones it calls; a proof about a command cites it and unfolds nothing below the command. The operations
that do touch one of these have none: tapSelect, tapLoad, tapDrive, destroySram, recordEvent, record, readTcap, barRead, readReg, bar0Access, cold,
coldReset, warmReset, resetN, imageDone and loadDone. -/

set_option linter.unusedSimpArgs false
set_option linter.unusedVariables false

namespace Sys2Proof.Machine

/-- What almost every operation leaves alone: the queue, the TAP, the history queue and the capture FIFOs. -/
def State.quiet (s : State) : List Instr × TapSt × List HistEntry × Tab (List Cap) := (s.pending, s.tap, s.flt.hist, s.tmu.caps)

theorem quiet_eq (s : State) : s.quiet = (s.pending, s.tap, s.flt.hist, s.tmu.caps) := rfl

theorem quiet_pending {s t : State} (h : t.quiet = s.quiet) : t.pending = s.pending := congrArg (·.1) h
theorem quiet_tap {s t : State} (h : t.quiet = s.quiet) : t.tap = s.tap := congrArg (·.2.1) h
theorem quiet_hist {s t : State} (h : t.quiet = s.quiet) : t.flt.hist = s.flt.hist := congrArg (·.2.2.1) h
theorem quiet_caps {s t : State} (h : t.quiet = s.quiet) : t.tmu.caps = s.tmu.caps := congrArg (·.2.2.2) h

theorem pending_quiet (s : State) : s.pending = s.quiet.1 := rfl
theorem tap_quiet (s : State) : s.tap = s.quiet.2.1 := rfl
theorem hist_quiet (s : State) : s.flt.hist = s.quiet.2.2.1 := rfl
theorem caps_quiet (s : State) : s.tmu.caps = s.quiet.2.2.2 := rfl

theorem quiet_mk (f1 f2 f3 f4 f5 f6 f7 f8 f9 f10 f11 f12 f13 f14 f15 f16 f17 f18 f19 f20 f21 f22 f23 f24 f25 f26 f27) :
    State.quiet ⟨f1, f2, f3, f4, f5, f6, f7, f8, f9, f10, f11, f12, f13, f14, f15, f16, f17, f18, f19, f20, f21, f22, f23, f24, f25, f26, f27⟩ =
      (f1, f25, f15.hist, f16.caps) := rfl

@[simp] theorem State.forEach_quiet (s : State) (f : State → Nat → State) (l : List Nat) (hf : ∀ s n, (f s n).quiet = s.quiet) :
    (s.forEach f l).quiet = s.quiet := by
  unfold State.forEach
  induction l generalizing s with
  | nil => rfl
  | cons a r ih => simp only [List.foldl_cons, ih, hf]

@[simp] theorem foldl_quiet {α : Type} (s : State) (f : State → α → State) (l : List α) (hf : ∀ s x, (f s x).quiet = s.quiet) :
    (l.foldl f s).quiet = s.quiet := by
  induction l generalizing s with
  | nil => rfl
  | cons a r ih => simp only [List.foldl_cons, ih, hf]

theorem foldl_fst_quiet {α β : Type} (p : State × β) (f : State × β → α → State × β) (l : List α)
    (hf : ∀ p x, (f p x).1.quiet = p.1.quiet) : (l.foldl f p).1.quiet = p.1.quiet := by
  induction l generalizing p with
  | nil => rfl
  | cons a r ih => simp only [List.foldl_cons, ih, hf]

@[simp] theorem quiet_ite (c : Prop) [Decidable c] (s t : State) :
    (if c then s else t).quiet = if c then s.quiet else t.quiet := apply_ite State.quiet c s t

@[simp] theorem State.setWord_quiet (s : State) (o : Nat) (w : Word) : (State.setWord s o w).quiet = s.quiet := by
  simp [State.setWord, quiet_mk, pending_quiet, tap_quiet, hist_quiet, caps_quiet]

@[simp] theorem State.setReg_quiet (s : State) (f : Fd) (i : Nat) (v : Nat) : (State.setReg s f i v).quiet = s.quiet := by
  simp [State.setReg]

@[simp] theorem State.setFlag_quiet (s : State) (f : Fd) (i : Nat) (b : Bool) : (State.setFlag s f i b).quiet = s.quiet := by
  simp [State.setFlag]

@[simp] theorem State.count_quiet (s : State) (f : Fd) (i : Nat) (n : Nat) : (State.count s f i n).quiet = s.quiet := by
  simp [State.count]

@[simp] theorem State.inc_quiet (s : State) (f : Fd) (i : optParam Nat 0) : (State.inc s f i).quiet = s.quiet := by
  simp [State.inc]

@[simp] theorem State.takeEffect_quiet (s : State) (o : Nat) : (State.takeEffect s o).quiet = s.quiet := by
  simp [State.takeEffect, quiet_mk, pending_quiet, tap_quiet, hist_quiet, caps_quiet]

@[simp] theorem State.takeEffects_quiet (s : State) (l : List Nat) : (s.takeEffects l).quiet = s.quiet := by
  induction l generalizing s with
  | nil => rfl
  | cons o r ih => simp [State.takeEffects, ih]

@[simp] theorem State.takeFree_quiet (s : State) (w : Nat) : (State.takeFree s w).2.quiet = s.quiet := by
  simp [State.takeFree, quiet_mk, pending_quiet, tap_quiet, hist_quiet, caps_quiet]

@[simp] theorem State.send_quiet (s : State) (m : OutMsg) : (State.send s m).quiet = s.quiet := by
  simp [State.send, quiet_mk, pending_quiet, tap_quiet, hist_quiet, caps_quiet]

@[simp] theorem State.raiseEv_quiet (s : State) (r : Raise) : (State.raiseEv s r).quiet = s.quiet := by
  simp [State.raiseEv, quiet_mk, pending_quiet, tap_quiet, hist_quiet, caps_quiet]

@[simp] theorem State.raise_quiet (s : State) (n : Nat) (info : optParam Nat 0) : (State.raise s n info).quiet = s.quiet := by
  simp [State.raise]

@[simp] theorem State.raiseOut_quiet (s : State) (n : Nat) (st : Status) (info : optParam Nat 0) : (State.raiseOut s n st info).quiet = s.quiet := by
  simp [State.raiseOut]

@[simp] theorem State.setCause_quiet (s : State) (n : Nat) (b : Bool) : (State.setCause s n b).quiet = s.quiet := by
  simp [State.setCause]

@[simp] theorem State.setHeld_quiet (s : State) (n : Nat) (b : Bool) : (State.setHeld s n b).quiet = s.quiet := by
  simp [State.setHeld]

@[simp] theorem State.raiseCond_quiet (s : State) (n : Nat) (info : optParam Nat 0) : (State.raiseCond s n info).quiet = s.quiet := by
  simp [State.raiseCond]

@[simp] theorem State.badWrite_quiet (s : State) (o : Nat) : (State.badWrite s o).quiet = s.quiet := by
  simp [State.badWrite]

@[simp] theorem State.advanceTo_quiet (s : State) (t : Nat) : (State.advanceTo s t).quiet = s.quiet := by
  simp [State.advanceTo, quiet_mk, pending_quiet, tap_quiet, hist_quiet, caps_quiet]

@[simp] theorem State.advance_quiet (s : State) (n : Nat) : (State.advance s n).quiet = s.quiet := by
  simp [State.advance, quiet_mk, pending_quiet, tap_quiet, hist_quiet, caps_quiet]

@[simp] theorem State.setDtRegs_quiet (s : State) (ns : Fd) (fr : Fd) (lo : Fd) (hi : Fd) (d : DtField) : (State.setDtRegs s ns fr lo hi d).quiet = s.quiet := by
  simp [State.setDtRegs]

@[simp] theorem State.setTile_quiet (s : State) (t : Nat) (v : Tile) : (State.setTile s t v).quiet = s.quiet := by
  simp [State.setTile, quiet_mk, pending_quiet, tap_quiet, hist_quiet, caps_quiet]

@[simp] theorem State.modTile_quiet (s : State) (t : Nat) (f : Tile → Tile) : (State.modTile s t f).quiet = s.quiet := by
  simp [State.modTile]

@[simp] theorem State.assertOwn_quiet (s : State) (d : Nat) : (State.assertOwn s d).quiet = s.quiet := by
  simp [State.assertOwn, quiet_mk, pending_quiet, tap_quiet, hist_quiet, caps_quiet]

@[simp] theorem State.withdraw_quiet (s : State) (t : Nat) : (State.withdraw s t).quiet = s.quiet := by
  simp [State.withdraw]

@[simp] theorem State.disown_quiet (s : State) (t : Nat) : (State.disown s t).quiet = s.quiet := by
  simp [State.disown]

@[simp] theorem State.releaseOwn_quiet (s : State) (d : Nat) : (State.releaseOwn s d).quiet = s.quiet := by
  simp [State.releaseOwn, quiet_mk, pending_quiet, tap_quiet, hist_quiet, caps_quiet]

@[simp] theorem State.releaseDoms_quiet (s : State) (m : Nat) : (State.releaseDoms s m).quiet = s.quiet := by
  simp [State.releaseDoms]

@[simp] theorem State.releaseDue_quiet (s : State) : (State.releaseDue s).quiet = s.quiet := by
  simp [State.releaseDue, quiet_mk, pending_quiet, tap_quiet, hist_quiet, caps_quiet]

@[simp] theorem State.setDomSt_quiet (s : State) (d : Nat) (v : DomSt) : (State.setDomSt s d v).quiet = s.quiet := by
  simp [State.setDomSt, quiet_mk, pending_quiet, tap_quiet, hist_quiet, caps_quiet]

@[simp] theorem State.showUnavailable_quiet (s : State) : (State.showUnavailable s).quiet = s.quiet := by
  simp [State.showUnavailable]

@[simp] theorem State.followMap_quiet (s : State) : (State.followMap s).quiet = s.quiet := by
  simp [State.followMap, quiet_mk, pending_quiet, tap_quiet, hist_quiet, caps_quiet]

@[simp] theorem State.setRemap_quiet (s : State) : (State.setRemap s).quiet = s.quiet := by
  simp [State.setRemap]

@[simp] theorem State.setRing_quiet (s : State) (r : Nat) (v : Ring) : (State.setRing s r v).quiet = s.quiet := by
  simp [State.setRing, quiet_mk, pending_quiet, tap_quiet, hist_quiet, caps_quiet]

@[simp] theorem State.modRing_quiet (s : State) (r : Nat) (f : Ring → Ring) : (State.modRing s r f).quiet = s.quiet := by
  simp [State.modRing]

@[simp] theorem State.signal_quiet (s : State) (v : Nat) : (State.signal s v).quiet = s.quiet := by
  simp [State.signal, quiet_mk, pending_quiet, tap_quiet, hist_quiet, caps_quiet]

@[simp] theorem State.pendVector_quiet (s : State) (v : Nat) : (State.pendVector s v).quiet = s.quiet := by
  simp [State.pendVector, quiet_mk, pending_quiet, tap_quiet, hist_quiet, caps_quiet]

@[simp] theorem State.holdDue_quiet (s : State) (v : Nat) (d : Due) : (State.holdDue s v d).quiet = s.quiet := by
  simp [State.holdDue, quiet_mk, pending_quiet, tap_quiet, hist_quiet, caps_quiet]

@[simp] theorem State.moderate_quiet (s : State) (r : Nat) (now : Bool) : (State.moderate s r now).quiet = s.quiet := by
  simp [State.moderate]

@[simp] theorem State.moderateEvt_quiet (s : State) : (State.moderateEvt s).quiet = s.quiet := by
  simp [State.moderateEvt, quiet_mk, pending_quiet, tap_quiet, hist_quiet, caps_quiet]

@[simp] theorem State.putCpl_quiet (s : State) (r : Nat) (cmdId : Nat) (status : Nat) (detail : Nat) (kind : Nat) (final : Bool) (result : List Byte) : (State.putCpl s r cmdId status detail kind final result).quiet = s.quiet := by
  simp [State.putCpl]

@[simp] theorem State.ringCause_quiet (s : State) : (State.ringCause s).quiet = s.quiet := by
  simp [State.ringCause]

@[simp] theorem State.ringError_quiet (s : State) (r : Nat) (e : Nat) : (State.ringError s r e).quiet = s.quiet := by
  simp [State.ringError]

@[simp] theorem State.dmaError_quiet (s : State) : (State.dmaError s).quiet = s.quiet := by
  simp [State.dmaError]

@[simp] theorem State.writeFailed_quiet (s : State) (r : Nat) : (State.writeFailed s r).quiet = s.quiet := by
  simp [State.writeFailed]

@[simp] theorem State.writeCpl_quiet (s : State) (r : Nat) (cmdId : Nat) (status : Nat) (detail : Nat) (kind : Nat) (final : Bool) (result : List Byte) : (State.writeCpl s r cmdId status detail kind final result).quiet = s.quiet := by
  simp [State.writeCpl]

@[simp] theorem State.postCpl_quiet (s : State) (r : Nat) (cmdId : Nat) (status : Nat) (detail : Nat) (kind : Nat) (final : Bool) (result : List Byte) : (State.postCpl s r cmdId status detail kind final result).quiet = s.quiet := by
  simp [State.postCpl]

@[simp] theorem State.postData_quiet (s : State) (r : Nat) (addr : Nat) (bytes : List Byte) : (State.postData s r addr bytes).quiet = s.quiet := by
  simp [State.postData, quiet_mk, pending_quiet, tap_quiet, hist_quiet, caps_quiet]

@[simp] theorem State.writeRecv_quiet (s : State) (r : Nat) (status : Nat) (result : List Byte) (frame : List Byte) : (State.writeRecv s r status result frame).quiet = s.quiet := by
  unfold State.writeRecv
  (repeat' split) <;> simp

@[simp] theorem State.copyRoom_quiet (s : State) (r : Nat) : (State.copyRoom s r).quiet = s.quiet := by
  simp [State.copyRoom, quiet_mk, pending_quiet, tap_quiet, hist_quiet, caps_quiet]

@[simp] theorem State.postRecv_quiet (s : State) (r : Nat) (status : Nat) (result : List Byte) (frame : List Byte) : (State.postRecv s r status result frame).quiet = s.quiet := by
  simp [State.postRecv]

@[simp] theorem State.putEvt_quiet (s : State) (entry : List Byte) : (State.putEvt s entry).quiet = s.quiet := by
  simp [State.putEvt, quiet_mk, pending_quiet, tap_quiet, hist_quiet, caps_quiet]

@[simp] theorem State.writeEvt_quiet (s : State) (entry : List Byte) : (State.writeEvt s entry).quiet = s.quiet := by
  simp [State.writeEvt, quiet_mk, pending_quiet, tap_quiet, hist_quiet, caps_quiet]

@[simp] theorem State.postEvt_quiet (s : State) (entry : List Byte) : (State.postEvt s entry).quiet = s.quiet := by
  simp [State.postEvt]

@[simp] theorem State.doDue_quiet (s : State) (d : Due) : (s.doDue d).quiet = s.quiet := by
  cases d <;> simp [State.doDue, apply_ite State.quiet]

@[simp] theorem State.flushDue_quiet (s : State) : s.flushDue.quiet = s.quiet := by
  unfold State.flushDue
  split
  · simp only []
    rw [foldl_quiet _ _ _ (fun s x => State.signal_quiet s x), quiet_mk, pending_quiet, tap_quiet, hist_quiet, caps_quiet,
      foldl_quiet _ _ _ (fun s x => State.doDue_quiet s x)]
    simp [quiet_mk, pending_quiet, tap_quiet, hist_quiet, caps_quiet]
  · rfl

@[simp] theorem State.orphanCmds_quiet (s : State) (p : Nat → Bool) : (State.orphanCmds s p).quiet = s.quiet := by
  simp [State.orphanCmds, quiet_mk, pending_quiet, tap_quiet, hist_quiet, caps_quiet]

@[simp] theorem State.disableRing_quiet (s : State) (r : Nat) : (State.disableRing s r).quiet = s.quiet := by
  simp [State.disableRing, quiet_mk, pending_quiet, tap_quiet, hist_quiet, caps_quiet]

@[simp] theorem State.leaveTl_quiet (s : State) (o : TlOut) (start : Nat) : (State.leaveTl s o start).quiet = s.quiet := by
  simp [State.leaveTl, quiet_mk, pending_quiet, tap_quiet, hist_quiet, caps_quiet]

@[simp] theorem State.tlRun_quiet (n : Nat) (s : State) : (State.tlRun n s).quiet = s.quiet := by
  induction n generalizing s with
  | zero => rfl
  | succ n ih =>
    unfold State.tlRun
    (repeat' split) <;> simp [ih]

@[simp] theorem State.tlGo_quiet (s : State) : s.tlGo.quiet = s.quiet := by
  unfold State.tlGo
  exact State.tlRun_quiet _ s

@[simp] theorem State.sendTl_quiet (s : State) (type : Nat) (body : List Byte) : (State.sendTl s type body).quiet = s.quiet := by
  simp [State.sendTl, quiet_mk, pending_quiet, tap_quiet, hist_quiet, caps_quiet]

@[simp] theorem State.forwardCmd_quiet (s : State) (origin : Nat) (flags : Nat) (handle : Nat) (data : List Byte) : (State.forwardCmd s origin flags handle data).quiet = s.quiet := by
  simp [State.forwardCmd, quiet_mk, pending_quiet, tap_quiet, hist_quiet, caps_quiet]

@[simp] theorem State.forwardHost_quiet (s : State) (handle : Nat) (c : HostCmd) : (State.forwardHost s handle c).quiet = s.quiet := by
  simp [State.forwardHost]

@[simp] theorem State.note_quiet (s : State) (handle : Nat) (kind : Nat) (status : Nat) (commit : Option Nat) (nLate : Nat) (firstLate : Nat) (list : Nat) (entry : Nat) (cycle : Nat) : (State.note s handle kind status commit nLate firstLate list entry cycle).quiet = s.quiet := by
  simp [State.note]

@[simp] theorem State.needSync_quiet (s : State) : (State.needSync s).quiet = s.quiet := by
  simp [State.needSync, quiet_mk, pending_quiet, tap_quiet, hist_quiet, caps_quiet]

@[simp] theorem State.diverge_quiet (s : State) : (State.diverge s).quiet = s.quiet := by
  simp [State.diverge]

@[simp] theorem State.setSess_quiet (s : State) (i : Nat) (v : Sess) : (State.setSess s i v).quiet = s.quiet := by
  simp [State.setSess, quiet_mk, pending_quiet, tap_quiet, hist_quiet, caps_quiet]

@[simp] theorem State.txDrop_quiet (s : State) (n : Nat) : (State.txDrop s n).quiet = s.quiet := by
  simp [State.txDrop, quiet_mk, pending_quiet, tap_quiet, hist_quiet, caps_quiet]

@[simp] theorem State.leavePort_quiet (s : State) (n : Nat) (o : OutFrame) (start : Nat) : (State.leavePort s n o start).quiet = s.quiet := by
  simp [State.leavePort, quiet_mk, pending_quiet, tap_quiet, hist_quiet, caps_quiet]

@[simp] theorem State.egressRun_quiet (n k : Nat) (s : State) : (State.egressRun n k s).quiet = s.quiet := by
  induction k generalizing s with
  | zero => rfl
  | succ k ih =>
    unfold State.egressRun
    (repeat' split) <;> simp [ih]

@[simp] theorem State.egress_quiet (s : State) (n : Nat) : (State.egress s n).quiet = s.quiet := by
  simp [State.egress]

@[simp] theorem State.transmit_quiet (s : State) (o : OutFrame) : (State.transmit s o).quiet = s.quiet := by
  simp [State.transmit, quiet_mk, pending_quiet, tap_quiet, hist_quiet, caps_quiet]

@[simp] theorem State.emitGcrp_quiet (s : State) (x : Sess) (msg : List Byte) : (State.emitGcrp s x msg).quiet = s.quiet := by
  simp [State.emitGcrp]

@[simp] theorem State.sendPtp_quiet (s : State) (n : Nat) (type : Nat) (seq : Nat) (body : List Nat) : (State.sendPtp s n type seq body).quiet = s.quiet := by
  simp [State.sendPtp]

@[simp] theorem State.sendSess_quiet (s : State) (i : Nat) (type : Nat) (flags : Nat) (body : List Byte) : (State.sendSess s i type flags body).quiet = s.quiet := by
  simp [State.sendSess]

@[simp] theorem State.respond_quiet (s : State) (i : Nat) (seq : Nat) (type : Nat) (status : Status) (detail : Nat) (handle : Nat) (extra : List Byte) : (State.respond s i seq type status detail handle extra).quiet = s.quiet := by
  simp [State.respond]

@[simp] theorem State.reply_quiet (s : State) (src : Src) (status : Status) (detail : Nat) (final : Bool) (result : List Byte) : (State.reply s src status detail final result).quiet = s.quiet := by
  unfold State.reply
  (repeat' split) <;> simp

@[simp] theorem State.refuse_quiet (s : State) (src : Src) (status : Status) (detail : Nat) : (State.refuse s src status detail).quiet = s.quiet := by
  simp [State.refuse]

@[simp] theorem State.defaultTarget_quiet (s : State) (m : Nat) (write : Bool) (hi : Nat) (lo : Nat) : (State.defaultTarget s m write hi lo).quiet = s.quiet := by
  simp [State.defaultTarget]

@[simp] theorem State.eccError_quiet (s : State) (addr : Nat) (corrected : Bool) : (State.eccError s addr corrected).quiet = s.quiet := by
  simp [State.eccError]

@[simp] theorem State.modMtx_quiet (s : State) (f : Mtx → Mtx) : (State.modMtx s f).quiet = s.quiet := by
  simp [State.modMtx, quiet_mk, pending_quiet, tap_quiet, hist_quiet, caps_quiet]

@[simp] theorem State.superError_quiet (s : State) : (State.superError s).quiet = s.quiet := by
  simp [State.superError]

@[simp] theorem State.spoil_quiet (s : State) (addr : Nat) : (State.spoil s addr).quiet = s.quiet := by
  simp [State.spoil]

@[simp] theorem State.heal_quiet (s : State) (a : Nat) (n : Nat) : (State.heal s a n).quiet = s.quiet := by
  simp [State.heal]

@[simp] theorem State.healEdit_quiet (s : State) (e : Nat) : (State.healEdit s e).quiet = s.quiet := by
  simp [State.healEdit]

@[simp] theorem State.setCalList_quiet (s : State) (n : Nat) (l : CalList) : (State.setCalList s n l).quiet = s.quiet := by
  simp [State.setCalList, quiet_mk, pending_quiet, tap_quiet, hist_quiet, caps_quiet]

@[simp] theorem State.modCalList_quiet (s : State) (n : Nat) (f : CalList → CalList) : (State.modCalList s n f).quiet = s.quiet := by
  simp [State.modCalList]

@[simp] theorem State.setListSt_quiet (s : State) (n : Nat) (v : Nat) : (State.setListSt s n v).quiet = s.quiet := by
  simp [State.setListSt]

@[simp] theorem State.idleList_quiet (s : State) (n : Nat) : (State.idleList s n).quiet = s.quiet := by
  simp [State.idleList]

@[simp] theorem State.endList_quiet (s : State) (n : Nat) : (State.endList s n).quiet = s.quiet := by
  simp [State.endList]

@[simp] theorem State.endOneShot_quiet (s : State) (n : Nat) : (State.endOneShot s n).quiet = s.quiet := by
  simp [State.endOneShot]

@[simp] theorem State.lastEnded_quiet (s : State) (h : Nat) : (State.lastEnded s h).quiet = s.quiet := by
  simp [State.lastEnded]

@[simp] theorem State.essFail_quiet (s : State) (n : Nat) (i : Nat) (ess : Bool) (st : Status) : (State.essFail s n i ess st).quiet = s.quiet := by
  simp [State.essFail]

@[simp] theorem State.calOutcome_quiet (s : State) (n : Nat) (i : Nat) (ess : Bool) (handle : Nat) (status : Status) : (State.calOutcome s n i ess handle status).quiet = s.quiet := by
  simp [State.calOutcome]

@[simp] theorem State.missedHandover_quiet (s : State) (t : Nat) (r : Nat) : (State.missedHandover s t r).quiet = s.quiet := by
  simp [State.missedHandover]

@[simp] theorem State.writeColumn_quiet (s : State) (t : Nat) (slot : Nat) (c : Nat) : (State.writeColumn s t slot c).quiet = s.quiet := by
  simp [State.writeColumn]

@[simp] theorem State.latchSlot_quiet (s : State) (t : Nat) (slot : Nat) : (State.latchSlot s t slot).quiet = s.quiet := by
  simp [State.latchSlot]

@[simp] theorem State.readbackFail_quiet (s : State) (t : Nat) (cols : List Nat) : (State.readbackFail s t cols).quiet = s.quiet := by
  unfold State.readbackFail
  (repeat' split) <;> simp

@[simp] theorem State.slotLines_quiet (s : State) (t : Nat) (slot : Nat) : (State.slotLines s t slot).quiet = s.quiet := by
  simp [State.slotLines]

@[simp] theorem State.tileSlot_quiet (s : State) (slot : Nat) (bad : List (Nat × Nat)) (t : Nat) : (State.tileSlot s slot bad t).quiet = s.quiet := by
  simp [State.tileSlot]

@[simp] theorem State.runBurst_quiet (s : State) (t : Nat) (start : Nat) (addrs : List Nat) (code : Nat → Nat) (strobe : Bool) : (State.runBurst s t start addrs code strobe).quiet = s.quiet := by
  simp [State.runBurst]

@[simp] theorem State.burstColumns_quiet (s : State) (t : Nat) (start : Nat) (addrs : List Nat) (code : Nat → Nat) : (State.burstColumns s t start addrs code).quiet = s.quiet := by
  simp [State.burstColumns]

@[simp] theorem State.refreshModes_quiet (s : State) (t : Nat) : (State.refreshModes s t).quiet = s.quiet := by
  simp [State.refreshModes]

@[simp] theorem State.refreshBurst_quiet (s : State) (t : Nat) : (State.refreshBurst s t).quiet = s.quiet := by
  simp [State.refreshBurst]

@[simp] theorem State.truncateSlot_quiet (s : State) (t : Nat) (n : Nat) (commit : optParam Bool false) : (State.truncateSlot s t n commit).quiet = s.quiet := by
  simp [State.truncateSlot]

@[simp] theorem State.refreshQuench_quiet (s : State) : (State.refreshQuench s).quiet = s.quiet := by
  simp [State.refreshQuench]

@[simp] theorem State.abortSweep_quiet (s : State) (t : Nat) : (State.abortSweep s t).quiet = s.quiet := by
  unfold State.abortSweep
  (repeat' split) <;> simp

@[simp] theorem State.setSlot_quiet (s : State) (i : Nat) (t : Txn) : (State.setSlot s i t).quiet = s.quiet := by
  simp [State.setSlot, quiet_mk, pending_quiet, tap_quiet, hist_quiet, caps_quiet]

@[simp] theorem State.modSlot_quiet (s : State) (i : Nat) (f : Txn → Txn) : (State.modSlot s i f).quiet = s.quiet := by
  simp [State.modSlot]

@[simp] theorem State.txnErr_quiet (s : State) (handle : Option Nat) (reason : Nat) (tile : Nat) : (State.txnErr s handle reason tile).quiet = s.quiet := by
  unfold State.txnErr
  (repeat' split) <;> simp

@[simp] theorem State.forBanks_quiet (s : State) (tiles : List Nat) (h : Nat) (f : Nat → Pend → Pend) : (State.forBanks s tiles h f).quiet = s.quiet := by
  simp [State.forBanks]

@[simp] theorem State.releaseBanks_quiet (s : State) (tiles : List Nat) (h : Nat) : (State.releaseBanks s tiles h).quiet = s.quiet := by
  simp [State.releaseBanks]

@[simp] theorem State.copyBanks_quiet (s : State) (tiles : List Nat) (h : Nat) (named : List (Nat × Nat)) (dark : Bool) (full : Nat) :
    (s.copyBanks tiles h named dark full).quiet = s.quiet := by
  unfold State.copyBanks
  apply State.forEach_quiet
  intro s n
  split <;> simp

@[simp] theorem State.stageDone_quiet (s : State) (i : Nat) : (State.stageDone s i).quiet = s.quiet := by
  simp only [State.stageDone]
  (repeat' first | (simp; done) | split)

@[simp] theorem State.report_quiet (s : State) (i : Nat) (status : Status) : (State.report s i status).quiet = s.quiet := by
  simp only [State.report]
  (repeat' first | (simp; done) | split)

@[simp] theorem State.refund_quiet (s : State) (i : Nat) : (State.refund s i).quiet = s.quiet := by
  simp only [State.refund]
  (repeat' first | (simp [quiet_mk, pending_quiet, tap_quiet, hist_quiet, caps_quiet]; done) | split)

@[simp] theorem State.endTxn_quiet (s : State) (i : Nat) (status : Status) : (s.endTxn i status).quiet = s.quiet := by
  unfold State.endTxn
  extract_lets t h s1 s2 s3 s4 s5 s6 s7 s8 s9
  have h1 : s1.quiet = s.quiet := by simp [s1, apply_ite State.quiet]
  have h3 : s3.quiet = s.quiet := by
    simp only [s3]
    split <;> simp [s2, h1]
  have h7 : s7.quiet = s.quiet := by simp [s7, s6, s5, s4, h3, apply_ite State.quiet]
  simp [s9, quiet_mk, pending_quiet, tap_quiet, hist_quiet, caps_quiet, h7]

@[simp] theorem State.stageRefused_quiet (s : State) (r : StageReq) (st : Status) (detail : Nat) : (State.stageRefused s r st detail).quiet = s.quiet := by
  unfold State.stageRefused
  (repeat' split) <;> simp

@[simp] theorem State.allocTxn_quiet (s : State) (i : Nat) (r : StageReq) : (State.allocTxn s i r).quiet = s.quiet := by
  simp [State.allocTxn]

@[simp] theorem State.stageTxn_quiet (s : State) (r : StageReq) : (State.stageTxn s r).1.quiet = s.quiet := by
  simp only [State.stageTxn]
  (repeat' first | (simp; done) | split)

@[simp] theorem State.armTiles_quiet (s : State) (i : Nat) (c : Nat) : (State.armTiles s i c).quiet = s.quiet := by
  simp [State.armTiles]

@[simp] theorem State.stageCopied_quiet (s : State) (i : Nat) : (State.stageCopied s i).quiet = s.quiet := by
  simp only [State.stageCopied]
  (repeat' first | (simp; done) | split)

@[simp] theorem State.startCmd_quiet (s : State) (c : HostCmd) : (State.startCmd s c).quiet = s.quiet := by
  simp [State.startCmd]

@[simp] theorem State.hostRow_quiet (s : State) (c : HostCmd) (k : Nat) (f : HostCmd → State → State)
    (hf : ∀ c s, (f c s).quiet = s.quiet) : (s.hostRow c k f).quiet = s.quiet := by
  unfold State.hostRow
  extract_lets c1 s1
  have h1 : s1.quiet = s.quiet := by simp [s1]
  split
  · rfl
  · split
    · rw [← h1]
      rfl
    · rw [hf, h1]

@[simp] theorem State.refuseCmd_quiet (s : State) (c : HostCmd) (src : Src) (st : Status) (detail : Nat) : (State.refuseCmd s c src st detail).quiet = s.quiet := by
  simp [State.refuseCmd]

@[simp] theorem State.readFailed_quiet (s : State) (src : Src) : (State.readFailed s src).quiet = s.quiet := by
  simp [State.readFailed]

@[simp] theorem State.formErr_quiet (s : State) (c : HostCmd) : (State.formErr s c).quiet = s.quiet := by
  simp [State.formErr]

@[simp] theorem State.headErr_quiet (s : State) (c : HostCmd) : (State.headErr s c).quiet = s.quiet := by
  simp [State.headErr]

@[simp] theorem State.withForm_quiet (s : State) (c : HostCmd) (src : Src) (field : Bool) (buffer : Bool) (f : State → State) (hf : ∀ s, (f s).quiet = s.quiet) : (State.withForm s c src field buffer f).quiet = s.quiet := by
  unfold State.withForm
  (repeat' split) <;> simp [*, quiet_mk, pending_quiet, tap_quiet, hist_quiet, caps_quiet]

@[simp] theorem State.startList_quiet (s : State) (n : Nat) (b : Nat) : (State.startList s n b).quiet = s.quiet := by
  simp [State.startList]

@[simp] theorem State.calStart_quiet (s : State) (c : HostCmd) (src : Src) (a : Nat) : (State.calStart s c src a).quiet = s.quiet := by
  simp only [State.calStart]
  (repeat' first | (simp; done) | split)

@[simp] theorem State.calStopBoundary_quiet (s : State) (c : HostCmd) (src : Src) (a : Nat) : (State.calStopBoundary s c src a).quiet = s.quiet := by
  simp only [State.calStopBoundary]
  (repeat' first | (simp; done) | split)

@[simp] theorem State.cancelList_quiet (k n : Nat) (s : State) : (State.cancelList k n s).quiet = s.quiet := by
  induction k generalizing n s with
  | zero => rfl
  | succ k ih =>
    unfold State.cancelList
    dsimp only []
    (repeat' split) <;> simp [ih]

@[simp] theorem State.calStopNow_quiet (s : State) (c : HostCmd) (src : Src) (a : Nat) : (State.calStopNow s c src a).quiet = s.quiet := by
  unfold State.calStopNow
  (repeat' split) <;> simp

@[simp] theorem State.calSwap_quiet (s : State) (c : HostCmd) (src : Src) (a : Nat) (b : Nat) : (State.calSwap s c src a b).quiet = s.quiet := by
  simp only [State.calSwap]
  (repeat' first | (simp; done) | split)

@[simp] theorem State.calAction_quiet (s : State) (c : HostCmd) (src : Src) : (State.calAction s c src).quiet = s.quiet := by
  simp [State.calAction]

@[simp] theorem State.calRow_quiet (s : State) (c : HostCmd) (act : Nat) : (State.calRow s c act).quiet = s.quiet := by
  simp [State.calRow]

@[simp] theorem State.nextInstance_quiet (s : State) (n : Nat) : (State.nextInstance s n).quiet = s.quiet := by
  simp [State.nextInstance]

@[simp] theorem State.notIssued_quiet (s : State) (n : Nat) (i : Nat) (f : Fd) (st : Status) : (State.notIssued s n i f st).quiet = s.quiet := by
  simp [State.notIssued]

@[simp] theorem State.readFail_quiet (s : State) (n : Nat) (i : Nat) (w : Nat) (ess : Bool) : (State.readFail s n i w ess).quiet = s.quiet := by
  simp [State.readFail]

@[simp] theorem State.issueRead_quiet (s : State) (n : Nat) (i : Nat) (e : CalEnt) (f : State → State) (hf : ∀ s, (f s).quiet = s.quiet) : (State.issueRead s n i e f).quiet = s.quiet := by
  unfold State.issueRead
  (repeat' split) <;> simp [*, quiet_mk, pending_quiet, tap_quiet, hist_quiet, caps_quiet]

@[simp] theorem State.issue_quiet (s : State) (n : Nat) (i : Nat) (e : CalEnt) (c : Nat) : (State.issue s n i e c).quiet = s.quiet := by
  simp only [State.issue]
  (repeat' first | (simp; done) | split)

@[simp] theorem State.issuePoint_quiet (s : State) (n : Nat) : (s.issuePoint n).quiet = s.quiet := by
  unfold State.issuePoint
  dsimp only []
  (repeat' split) <;> first | (simp; done) | rfl

@[simp] theorem State.stopAtBoundary_quiet (s : State) (n : Nat) : (State.stopAtBoundary s n).quiet = s.quiet := by
  simp [State.stopAtBoundary]

@[simp] theorem State.cycleBoundary_quiet (s : State) (n : Nat) : (State.cycleBoundary s n).quiet = s.quiet := by
  simp only [State.cycleBoundary]
  (repeat' first | (simp; done) | split)

@[simp] theorem State.calResume_quiet (s : State) (n : Nat) : (State.calResume s n).quiet = s.quiet := by
  simp only [State.calResume]
  (repeat' first | (simp; done) | split)

@[simp] theorem State.loopBank_quiet (s : State) (t : Nat) : (State.loopBank s t).quiet = s.quiet := by
  simp [State.loopBank]

@[simp] theorem State.commitTiles_quiet (s : State) (src : Src) (k : Nat) (mask : Nat) : (State.commitTiles s src k mask).quiet = s.quiet := by
  simp [State.commitTiles, quiet_mk, pending_quiet, tap_quiet, hist_quiet, caps_quiet]

@[simp] theorem State.exchangeTiles_quiet (s : State) : (State.exchangeTiles s).quiet = s.quiet := by
  simp [State.exchangeTiles, quiet_mk, pending_quiet, tap_quiet, hist_quiet, caps_quiet]

@[simp] theorem State.putPool_quiet (s : State) (first : Nat) (vs : List Nat) : (State.putPool s first vs).quiet = s.quiet := by
  simp [State.putPool, quiet_mk, pending_quiet, tap_quiet, hist_quiet, caps_quiet]

@[simp] theorem State.putLists_quiet (s : State) (first : Nat) (ds : List ListDesc) : (State.putLists s first ds).quiet = s.quiet := by
  simp [State.putLists]

@[simp] theorem State.admStatus_quiet (s : State) : (State.admStatus s).quiet = s.quiet := by
  simp [State.admStatus]

@[simp] theorem State.clsCommit_quiet (s : State) (src : Src) : (State.clsCommit s src).quiet = s.quiet := by
  simp [State.clsCommit, quiet_mk, pending_quiet, tap_quiet, hist_quiet, caps_quiet]

@[simp] theorem State.clsDo_quiet (s : State) (op : ClsOp) : (s.clsDo op).quiet = s.quiet := by
  cases op <;> simp [State.clsDo, quiet_mk, pending_quiet, tap_quiet, hist_quiet, caps_quiet]

@[simp] theorem State.clsRun_quiet (l : List ClsOp) (s : State) : (State.clsRun l s).quiet = s.quiet := by
  induction l generalizing s with
  | nil => simp [State.clsRun, quiet_mk, pending_quiet, tap_quiet, hist_quiet, caps_quiet]
  | cons op r ih => simp [State.clsRun, ih, quiet_mk, pending_quiet, tap_quiet, hist_quiet, caps_quiet, apply_ite State.quiet]

@[simp] theorem State.commitWait_quiet (s : State) : (State.commitWait s).quiet = s.quiet := by
  simp [State.commitWait]

@[simp] theorem State.clsOp_quiet (s : State) (op : ClsOp) : (State.clsOp s op).quiet = s.quiet := by
  simp [State.clsOp, quiet_mk, pending_quiet, tap_quiet, hist_quiet, caps_quiet]

@[simp] theorem State.enableRing_quiet (s : State) (r : Nat) (g : Ring) : (State.enableRing s r g).quiet = s.quiet := by
  simp [State.enableRing]

@[simp] theorem State.putRing_quiet (s : State) (r : Nat) (g : Ring) (en : Bool) : (State.putRing s r g en).quiet = s.quiet := by
  simp [State.putRing]

@[simp] theorem State.staleBack_quiet (s : State) (r : Nat) : (State.staleBack s r).quiet = s.quiet := by
  simp [State.staleBack, quiet_mk, pending_quiet, tap_quiet, hist_quiet, caps_quiet]

@[simp] theorem State.closeRings_quiet (s : State) : (State.closeRings s).quiet = s.quiet := by
  simp [State.closeRings, quiet_mk, pending_quiet, tap_quiet, hist_quiet, caps_quiet]

@[simp] theorem State.accepted_quiet (s : State) (c : HostCmd) (src : Src) (f : State → State) (hf : ∀ s, (f s).quiet = s.quiet) : (State.accepted s c src f).quiet = s.quiet := by
  unfold State.accepted
  (repeat' split) <;> simp [*, quiet_mk, pending_quiet, tap_quiet, hist_quiet, caps_quiet]

@[simp] theorem State.tileWrite_quiet {α : Type} (s : State) (c : HostCmd) (src : Src) (es : Option (List α)) (put : List α → Tile → Tile) : (State.tileWrite s c src es put).quiet = s.quiet := by
  unfold State.tileWrite
  (repeat' split) <;> simp

@[simp] theorem State.poolWrite_quiet (s : State) (c : HostCmd) (src : Src) : (State.poolWrite s c src).quiet = s.quiet := by
  simp [State.poolWrite]

@[simp] theorem State.listWrite_quiet (s : State) (c : HostCmd) (src : Src) : (State.listWrite s c src).quiet = s.quiet := by
  simp [State.listWrite]

@[simp] theorem State.admWrite_quiet (s : State) (c : HostCmd) (src : Src) : (s.admWrite c src).quiet = s.quiet := by
  unfold State.admWrite
  repeat' split
  all_goals first
    | (simp; done)
    | (apply State.accepted_quiet; intro s; simp [quiet_mk, pending_quiet, tap_quiet, hist_quiet, caps_quiet])

@[simp] theorem State.clsWrite_quiet (s : State) (c : HostCmd) (src : Src) : (State.clsWrite s c src).quiet = s.quiet := by
  simp only [State.clsWrite]
  (repeat' first | (simp; done) | split)

@[simp] theorem State.ringWrite_quiet (s : State) (c : HostCmd) (src : Src) : (State.ringWrite s c src).quiet = s.quiet := by
  unfold State.ringWrite
  (repeat' split) <;> simp [quiet_mk, pending_quiet, tap_quiet, hist_quiet, caps_quiet]

@[simp] theorem State.tableWrite_quiet (s : State) (c : HostCmd) (src : Src) : (State.tableWrite s c src).quiet = s.quiet := by
  simp only [State.tableWrite]
  (repeat' first | (simp; done) | split)

@[simp] theorem State.admCommit_quiet (s : State) (c : HostCmd) (src : Src) : (State.admCommit s c src).quiet = s.quiet := by
  simp only [State.admCommit]
  (repeat' first | (simp [quiet_mk, pending_quiet, tap_quiet, hist_quiet, caps_quiet]; done) | split)

@[simp] theorem State.commitTable_quiet (s : State) (c : HostCmd) (src : Src) : (State.commitTable s c src).quiet = s.quiet := by
  simp [State.commitTable]

@[simp] theorem State.tableCommit_quiet (s : State) (c : HostCmd) (src : Src) : (State.tableCommit s c src).quiet = s.quiet := by
  simp [State.tableCommit]

@[simp] theorem State.countSat_quiet (s : State) (b : Bool) : (State.countSat s b).quiet = s.quiet := by
  simp [State.countSat]

@[simp] theorem State.addTenant_quiet (s : State) (t : Nat) (x : Int) : (State.addTenant s t x).quiet = s.quiet := by
  simp [State.addTenant, quiet_mk, pending_quiet, tap_quiet, hist_quiet, caps_quiet]

@[simp] theorem State.addClass_quiet (s : State) (n : Nat) (x : Int) : (State.addClass s n x).quiet = s.quiet := by
  simp [State.addClass, quiet_mk, pending_quiet, tap_quiet, hist_quiet, caps_quiet]

@[simp] theorem State.addDomain_quiet (s : State) (d : Nat) (x : Int) : (State.addDomain s d x).quiet = s.quiet := by
  simp [State.addDomain, quiet_mk, pending_quiet, tap_quiet, hist_quiet, caps_quiet]

@[simp] theorem State.addEnergy_quiet (s : State) (x : Int) : (State.addEnergy s x).quiet = s.quiet := by
  simp [State.addEnergy, quiet_mk, pending_quiet, tap_quiet, hist_quiet, caps_quiet]

@[simp] theorem State.applyCharge_quiet (s : State) (c : Charge) (sgn : Int) : (State.applyCharge s c sgn).quiet = s.quiet := by
  unfold State.applyCharge
  (repeat' split) <;> simp

@[simp] theorem State.fwdReq_quiet (s : State) (r : Req) (flags : Nat) (handle : Nat) : (State.fwdReq s r flags handle).quiet = s.quiet := by
  simp [State.fwdReq]

@[simp] theorem State.admEnd_quiet (s : State) (r : Req) (st : Status) (detail : Nat) : (State.admEnd s r st detail).quiet = s.quiet := by
  unfold State.admEnd
  (repeat' split) <;> simp

@[simp] theorem State.admEndAll_quiet (s : State) (rs : List (Req × Status)) (detail : Nat) : (State.admEndAll s rs detail).quiet = s.quiet := by
  simp [State.admEndAll]

@[simp] theorem State.setReqs_quiet (s : State) (l : List Req) : (State.setReqs s l).quiet = s.quiet := by
  simp [State.setReqs, quiet_mk, pending_quiet, tap_quiet, hist_quiet, caps_quiet]

@[simp] theorem State.endWhere_quiet (s : State) (f : Req → Option Status) (detail : Nat) : (State.endWhere s f detail).quiet = s.quiet := by
  simp [State.endWhere]

@[simp] theorem State.closeNotice_quiet (s : State) (i : Nat) (reason : Nat) : (State.closeNotice s i reason).quiet = s.quiet := by
  simp [State.closeNotice]

@[simp] theorem State.endSession_quiet (s : State) (i : Nat) : (State.endSession s i).quiet = s.quiet := by
  simp [State.endSession]

@[simp] theorem State.forwardClose_quiet (s : State) (i : Nat) (kind : Nat) : (State.forwardClose s i kind).quiet = s.quiet := by
  simp [State.forwardClose]

@[simp] theorem State.holdReq_quiet (s : State) (h : HeldReq) : (State.holdReq s h).quiet = s.quiet := by
  simp [State.holdReq, quiet_mk, pending_quiet, tap_quiet, hist_quiet, caps_quiet]

@[simp] theorem State.tenantClose_quiet (s : State) (i : Nat) : (State.tenantClose s i).quiet = s.quiet := by
  simp [State.tenantClose]

@[simp] theorem State.endTenants_quiet (s : State) (before : Tab Tenant) : (State.endTenants s before).quiet = s.quiet := by
  simp [State.endTenants]

@[simp] theorem State.colour_quiet (s : State) (r : Req) : (s.colour r).2.quiet = s.quiet := by
  have k : ∀ a : Adm, ({ s with adm := a } : State).quiet = s.quiet := fun _ => rfl
  simp only [State.colour]
  split
  · exact rfl
  · split
    · exact k _
    · split
      · exact k _
      · exact rfl

@[simp] theorem State.admPeak_quiet (s : State) : (State.admPeak s).quiet = s.quiet := by
  simp [State.admPeak]

@[simp] theorem State.enqueue_quiet (s : State) (r : Req) : (State.enqueue s r).quiet = s.quiet := by
  simp [State.enqueue]

@[simp] theorem State.police_quiet (s : State) (r : Req) : (State.police s r).quiet = s.quiet := by
  simp [State.police]

@[simp] theorem State.admQueue_quiet (s : State) (r : Req) : (State.admQueue s r).quiet = s.quiet := by
  simp only [State.admQueue]
  (repeat' first | (simp; done) | split)

@[simp] theorem State.admArrive_quiet (s : State) (r : Req) : (State.admArrive s r).quiet = s.quiet := by
  simp [State.admArrive]

@[simp] theorem State.txnStage_quiet (s : State) (c : HostCmd) : (State.txnStage s c).quiet = s.quiet := by
  simp [State.txnStage]

@[simp] theorem State.clearHist_quiet (s : State) (q : Nat) : (State.clearHist s q).quiet = s.quiet := by
  simp [State.clearHist, quiet_mk, pending_quiet, tap_quiet, hist_quiet, caps_quiet]

@[simp] theorem State.monitorChange_quiet (s : State) (n : Nat) : (State.monitorChange s n).quiet = s.quiet := by
  simp [State.monitorChange]

@[simp] theorem State.limitCredits_quiet (s : State) : (State.limitCredits s).quiet = s.quiet := by
  simp [State.limitCredits, quiet_mk, pending_quiet, tap_quiet, hist_quiet, caps_quiet]

@[simp] theorem State.exchangeAdm_quiet (s : State) : (State.exchangeAdm s).quiet = s.quiet := by
  simp [State.exchangeAdm, quiet_mk, pending_quiet, tap_quiet, hist_quiet, caps_quiet]

@[simp] theorem State.refill_quiet (s : State) : (State.refill s).quiet = s.quiet := by
  simp [State.refill]

@[simp] theorem State.refillStep_quiet (s : State) : (State.refillStep s).quiet = s.quiet := by
  simp [State.refillStep, quiet_mk, pending_quiet, tap_quiet, hist_quiet, caps_quiet]

@[simp] theorem State.trueUp_quiet (s : State) : (State.trueUp s).quiet = s.quiet := by
  simp [State.trueUp, quiet_mk, pending_quiet, tap_quiet, hist_quiet, caps_quiet]

@[simp] theorem State.rise_quiet (s : State) : (State.rise s).quiet = s.quiet := by
  simp [State.rise, quiet_mk, pending_quiet, tap_quiet, hist_quiet, caps_quiet]

@[simp] theorem State.setBuckets_quiet (s : State) (t : Nat) (c : Nat) (e : Nat) : (State.setBuckets s t c e).quiet = s.quiet := by
  simp [State.setBuckets, quiet_mk, pending_quiet, tap_quiet, hist_quiet, caps_quiet]

@[simp] theorem State.refillBucket_quiet (s : State) (t : Nat) (e : Tenant) : (State.refillBucket s t e).quiet = s.quiet := by
  simp [State.refillBucket]

@[simp] theorem State.refillBuckets_quiet (s : State) : (State.refillBuckets s).quiet = s.quiet := by
  simp [State.refillBuckets]

@[simp] theorem State.endStep_quiet (s : State) : (State.endStep s).quiet = s.quiet := by
  simp [State.endStep]

@[simp] theorem State.recolour_quiet (s : State) : s.recolour.quiet = s.quiet := by
  unfold State.recolour
  simp only [State.setReqs_quiet]
  refine foldl_fst_quiet (s, []) _ _ (fun p r => ?_)
  repeat' split
  all_goals simp

@[simp] theorem State.selectStep_quiet (s : State) : s.selectStep.1.quiet = s.quiet := by
  unfold State.selectStep
  refine foldl_fst_quiet (s, []) _ _ (fun p k => ?_)
  refine foldl_fst_quiet p _ _ (fun p t => ?_)
  repeat' split
  all_goals simp [quiet_mk, pending_quiet, tap_quiet, hist_quiet, caps_quiet]

@[simp] theorem State.grant_quiet (s : State) (r : Req) : (State.grant s r).quiet = s.quiet := by
  simp only [State.grant]
  (repeat' first | (simp [quiet_mk, pending_quiet, tap_quiet, hist_quiet, caps_quiet]; done) | split)

@[simp] theorem State.idleReset_quiet (s : State) : (State.idleReset s).quiet = s.quiet := by
  simp [State.idleReset, quiet_mk, pending_quiet, tap_quiet, hist_quiet, caps_quiet]

@[simp] theorem State.selectAdmit_quiet (s : State) : (State.selectAdmit s).quiet = s.quiet := by
  simp [State.selectAdmit]

@[simp] theorem State.addBin_quiet (s : State) (k : Nat) : (State.addBin s k).quiet = s.quiet := by
  simp [State.addBin, quiet_mk, pending_quiet, tap_quiet, hist_quiet, caps_quiet]

@[simp] theorem State.sampleQueue_quiet (s : State) (q : Nat) : (State.sampleQueue s q).quiet = s.quiet := by
  unfold State.sampleQueue
  (repeat' split) <;> simp

@[simp] theorem State.histSwap_quiet (s : State) : (State.histSwap s).quiet = s.quiet := by
  simp [State.histSwap, quiet_mk, pending_quiet, tap_quiet, hist_quiet, caps_quiet]

@[simp] theorem State.queueSample_quiet (s : State) : (State.queueSample s).quiet = s.quiet := by
  simp [State.queueSample, quiet_mk, pending_quiet, tap_quiet, hist_quiet, caps_quiet]

@[simp] theorem State.admissionTick_quiet (s : State) (t : Nat) : (State.admissionTick s t).quiet = s.quiet := by
  simp [State.admissionTick, quiet_mk, pending_quiet, tap_quiet, hist_quiet, caps_quiet]

@[simp] theorem State.admFresh_quiet (s : State) : (State.admFresh s).quiet = s.quiet := by
  simp [State.admFresh, quiet_mk, pending_quiet, tap_quiet, hist_quiet, caps_quiet]

@[simp] theorem State.setTarget_quiet (s : State) (o : Nat) (v : Nat) : (State.setTarget s o v).quiet = s.quiet := by
  simp [State.setTarget, quiet_mk, pending_quiet, tap_quiet, hist_quiet, caps_quiet]

@[simp] theorem State.plainWrite_quiet (s : State) (o : Nat) (v : Nat) : (State.plainWrite s o v).quiet = s.quiet := by
  simp [State.plainWrite]

@[simp] theorem State.hostWrite_quiet (s : State) (o : Nat) (v : Nat) (act : State → State) (hact : ∀ s, (act s).quiet = s.quiet) : (State.hostWrite s o v act).quiet = s.quiet := by
  unfold State.hostWrite
  (repeat' split) <;> simp [*, quiet_mk, pending_quiet, tap_quiet, hist_quiet, caps_quiet]

@[simp] theorem State.telemetryRead_quiet (s : State) (c : HostCmd) (src : Src) : (State.telemetryRead s c src).quiet = s.quiet := by
  unfold State.telemetryRead
  (repeat' split) <;> simp

@[simp] theorem State.senseCause_quiet (s : State) (t : Nat) : (State.senseCause s t).quiet = s.quiet := by
  simp [State.senseCause]

@[simp] theorem State.writeSpan_quiet (s : State) (t : Nat) (v : Nat) : (State.writeSpan s t v).quiet = s.quiet := by
  simp [State.writeSpan]

@[simp] theorem State.parkDwellEnd_quiet (s : State) (t : Nat) : (State.parkDwellEnd s t).quiet = s.quiet := by
  unfold State.parkDwellEnd
  (repeat' split) <;> simp

@[simp] theorem State.targetBurst_quiet (s : State) (t : Nat) : (State.targetBurst s t).quiet = s.quiet := by
  simp only [State.targetBurst]
  (repeat' first | (simp; done) | split)

@[simp] theorem State.clearTile_quiet (s : State) (t : Nat) : (State.clearTile s t).quiet = s.quiet := by
  simp [State.clearTile]

@[simp] theorem State.setParkPh_quiet (s : State) (d : Nat) (p : ParkPh) : (State.setParkPh s d p).quiet = s.quiet := by
  simp [State.setParkPh, quiet_mk, pending_quiet, tap_quiet, hist_quiet, caps_quiet]

@[simp] theorem State.parkOwn_quiet (s : State) (d : Nat) (b : Bool) : (State.parkOwn s d b).quiet = s.quiet := by
  simp [State.parkOwn]

@[simp] theorem State.parkSample_quiet (s : State) (d : Nat) : (State.parkSample s d).quiet = s.quiet := by
  simp [State.parkSample]

@[simp] theorem State.parkBurst_quiet (s : State) (d : Nat) : (State.parkBurst s d).quiet = s.quiet := by
  simp [State.parkBurst]

@[simp] theorem State.parkVhv_quiet (s : State) : (State.parkVhv s).quiet = s.quiet := by
  simp [State.parkVhv]

@[simp] theorem State.parkStart_quiet (s : State) (d : Nat) : (State.parkStart s d).quiet = s.quiet := by
  simp [State.parkStart]

@[simp] theorem State.parkEnd_quiet (s : State) (d : Nat) : (State.parkEnd s d).quiet = s.quiet := by
  simp [State.parkEnd]

@[simp] theorem State.refreshFaultNow_quiet (s : State) (t : Nat) : (State.refreshFaultNow s t).quiet = s.quiet := by
  simp [State.refreshFaultNow]

@[simp] theorem State.senseFaultRun_quiet (s : State) (t : Nat) (e : Nat) (x : Nat) : (State.senseFaultRun s t e x).quiet = s.quiet := by
  simp [State.senseFaultRun]

@[simp] theorem State.driftFlag_quiet (s : State) (t : Nat) (e : Nat) : (State.driftFlag s t e).quiet = s.quiet := by
  simp [State.driftFlag]

@[simp] theorem State.selectLate_quiet (s : State) (t : Nat) (e : Nat) (x : Nat) (r : Rec) : (State.selectLate s t e x r).quiet = s.quiet := by
  simp [State.selectLate]

@[simp] theorem State.selectRanges_quiet (s : State) (t : Nat) : (State.selectRanges s t).quiet = s.quiet := by
  simp [State.selectRanges]

@[simp] theorem State.epochEnd_quiet (s : State) (t : Nat) : (State.epochEnd s t).quiet = s.quiet := by
  simp [State.epochEnd]

@[simp] theorem State.sliceFailed_quiet (s : State) (t : Nat) (k : Nat) : (State.sliceFailed s t k).quiet = s.quiet := by
  simp [State.sliceFailed]

@[simp] theorem State.newSenseTrims_quiet (s : State) (t : Nat) : (State.newSenseTrims s t).quiet = s.quiet := by
  simp [State.newSenseTrims, quiet_mk, pending_quiet, tap_quiet, hist_quiet, caps_quiet]

@[simp] theorem State.lineCheck_quiet (s : State) (t : Nat) : (State.lineCheck s t).quiet = s.quiet := by
  simp [State.lineCheck]

@[simp] theorem State.loopFreeze_quiet (s : State) (t : Nat) (e : Nat) : (State.loopFreeze s t e).quiet = s.quiet := by
  simp [State.loopFreeze]

@[simp] theorem State.divergence_quiet (s : State) (t : Nat) (e : Nat) : (State.divergence s t e).quiet = s.quiet := by
  simp [State.divergence]

@[simp] theorem State.captureLane_quiet (s : State) (t : Nat) (e : Nat) (point : Nat) (cap : List (Nat × Int)) : (State.captureLane s t e point cap).quiet = s.quiet := by
  simp only [State.captureLane]
  (repeat' first | (simp; done) | split)

@[simp] theorem State.lateCapture_quiet (s : State) (t : Nat) (e : Nat) (frame : Nat) : (State.lateCapture s t e frame).quiet = s.quiet := by
  simp only [State.lateCapture]
  (repeat' first | (simp; done) | split)

@[simp] theorem State.verifyLane_quiet (s : State) (t : Nat) (e : Nat) (frame : Nat) : (State.verifyLane s t e frame).quiet = s.quiet := by
  unfold State.verifyLane
  (repeat' split) <;> simp

@[simp] theorem State.updateRow_quiet (s : State) (t : Nat) (r : Nat) : (State.updateRow s t r).quiet = s.quiet := by
  simp [State.updateRow]

@[simp] theorem State.divWindowEnd_quiet (s : State) (t : Nat) : (State.divWindowEnd s t).quiet = s.quiet := by
  simp [State.divWindowEnd]

@[simp] theorem State.holdExpiry_quiet (s : State) (t : Nat) (e : Nat) : (State.holdExpiry s t e).quiet = s.quiet := by
  simp [State.holdExpiry]

@[simp] theorem State.sweepStart_quiet (s : State) (t : Nat) (w : Sweep) : (State.sweepStart s t w).quiet = s.quiet := by
  simp [State.sweepStart]

@[simp] theorem State.calPointEnd_quiet (s : State) (t : Nat) : (State.calPointEnd s t).quiet = s.quiet := by
  unfold State.calPointEnd
  (repeat' split) <;> simp

@[simp] theorem State.resetRange_quiet (s : State) (lo : Nat) (hi : Nat) : (State.resetRange s lo hi).quiet = s.quiet := by
  simp [State.resetRange, quiet_mk, pending_quiet, tap_quiet, hist_quiet, caps_quiet]

@[simp] theorem State.hostReset_quiet (s : State) : (State.hostReset s).quiet = s.quiet := by
  simp [State.hostReset, quiet_mk, pending_quiet, tap_quiet, hist_quiet, caps_quiet]

@[simp] theorem State.flr_quiet (s : State) : (State.flr s).quiet = s.quiet := by
  simp [State.flr]

@[simp] theorem State.setLine_quiet (s : State) (g : Nat) (l : LineRd) : (State.setLine s g l).quiet = s.quiet := by
  simp [State.setLine, quiet_mk, pending_quiet, tap_quiet, hist_quiet, caps_quiet]

@[simp] theorem State.issueLine_quiet (s : State) (g : Nat) : (s.issueLine g).quiet = s.quiet := by
  unfold State.issueLine
  split
  · simp
  · extract_lets s1
    have h1 : s1.quiet = s.quiet := by simp [s1]
    rw [← h1]
    rfl

@[simp] theorem State.kickLine_quiet (s : State) (g : Nat) : (State.kickLine s g).quiet = s.quiet := by
  unfold State.kickLine
  (repeat' split) <;> simp

@[simp] theorem State.issueLines_quiet (s : State) : s.issueLines.quiet = s.quiet := by
  unfold State.issueLines
  rw [foldl_quiet _ _ _ (fun s g => by split <;> simp)]
  rfl

@[simp] theorem State.returned_quiet (s : State) : (State.returned s).quiet = s.quiet := by
  simp [State.returned]

@[simp] theorem State.hostOpen_quiet (s : State) : (State.hostOpen s).quiet = s.quiet := by
  simp [State.hostOpen]

@[simp] theorem State.evtMarker_quiet (s : State) : (State.evtMarker s).quiet = s.quiet := by
  simp [State.evtMarker, quiet_mk, pending_quiet, tap_quiet, hist_quiet, caps_quiet]

@[simp] theorem State.takeEntry_quiet (s : State) (p : Nat) (pi : Nat) (ci : Nat) : (State.takeEntry s p pi ci).quiet = s.quiet := by
  simp [State.takeEntry]

@[simp] theorem State.postBuffer_quiet (s : State) (r : Nat) (d : List Byte) (takes : Bool) : (State.postBuffer s r d takes).quiet = s.quiet := by
  simp [State.postBuffer]

@[simp] theorem State.takeCommand_quiet (s : State) (c : HostCmd) : (State.takeCommand s c).quiet = s.quiet := by
  simp only [State.takeCommand]
  (repeat' first | (simp; done) | split)

@[simp] theorem State.setBme_quiet (s : State) (on : Bool) : (State.setBme s on).quiet = s.quiet := by
  simp [State.setBme]

@[simp] theorem State.hifCtrl_quiet (s : State) : (State.hifCtrl s).quiet = s.quiet := by
  simp [State.hifCtrl]

@[simp] theorem State.admCfg_quiet (before : Bool) (s : State) : (State.admCfg before s).quiet = s.quiet := by
  simp [State.admCfg]

@[simp] theorem State.evtCfg_quiet (before : Bool) (s : State) : (State.evtCfg before s).quiet = s.quiet := by
  simp [State.evtCfg, quiet_mk, pending_quiet, tap_quiet, hist_quiet, caps_quiet]

@[simp] theorem State.sendPending_quiet (s : State) : s.sendPending.quiet = s.quiet := by
  unfold State.sendPending
  simp only []
  rw [foldl_quiet _ _ _ (fun s x => State.signal_quiet s x)]
  simp [quiet_mk, pending_quiet, tap_quiet, hist_quiet, caps_quiet]

@[simp] theorem State.setMsix_quiet (s : State) (on : Bool) (mask : Bool) : (State.setMsix s on mask).quiet = s.quiet := by
  simp [State.setMsix, quiet_mk, pending_quiet, tap_quiet, hist_quiet, caps_quiet]

@[simp] theorem State.configWrite_quiet (s : State) (o : Nat) (v : Nat) : (State.configWrite s o v).quiet = s.quiet := by
  simp [State.configWrite, quiet_mk, pending_quiet, tap_quiet, hist_quiet, caps_quiet]

@[simp] theorem State.calLoad_quiet (s : State) (c : HostCmd) (src : Src) : (State.calLoad s c src).quiet = s.quiet := by
  simp only [State.calLoad]
  (repeat' first | (simp; done) | split)

@[simp] theorem State.calSwapCmd_quiet (s : State) (c : HostCmd) (src : Src) : (State.calSwapCmd s c src).quiet = s.quiet := by
  simp [State.calSwapCmd]

@[simp] theorem State.calStartCmd_quiet (s : State) (c : HostCmd) (src : Src) : (State.calStartCmd s c src).quiet = s.quiet := by
  unfold State.calStartCmd
  dsimp only []
  apply State.withForm_quiet
  intros
  (repeat' first | (simp; done) | split)

@[simp] theorem State.endQuarantine_quiet (s : State) : (State.endQuarantine s).quiet = s.quiet := by
  simp [State.endQuarantine]

@[simp] theorem State.sessPeak_quiet (s : State) : (State.sessPeak s).quiet = s.quiet := by
  simp [State.sessPeak]

@[simp] theorem State.sessionOp_quiet (s : State) (c : HostCmd) (src : Src) (field : Bool) (bad : State → Bool) (f : State → State) (hf : ∀ s, (f s).quiet = s.quiet) : (State.sessionOp s c src field bad f).quiet = s.quiet := by
  unfold State.sessionOp
  dsimp only []
  apply State.withForm_quiet
  intros
  (repeat' first | (simp [*, quiet_mk, pending_quiet, tap_quiet, hist_quiet, caps_quiet]; done) | split)

@[simp] theorem State.sessOpen_quiet (s : State) (c : HostCmd) (src : Src) : (State.sessOpen s c src).quiet = s.quiet := by
  simp [State.sessOpen]

@[simp] theorem State.sessClose_quiet (s : State) (c : HostCmd) (src : Src) : (State.sessClose s c src).quiet = s.quiet := by
  simp [State.sessClose]

@[simp] theorem State.sessClass_quiet (s : State) (c : HostCmd) (src : Src) : (State.sessClass s c src).quiet = s.quiet := by
  simp [State.sessClass]

@[simp] theorem State.sessAnswer_quiet (s : State) (c : HostCmd) (src : Src) : (State.sessAnswer s c src).quiet = s.quiet := by
  simp [State.sessAnswer]

@[simp] theorem State.sessionCmd_quiet (s : State) (c : HostCmd) (src : Src) : (State.sessionCmd s c src).quiet = s.quiet := by
  unfold State.sessionCmd
  (repeat' split) <;> simp

@[simp] theorem State.sessRow_quiet (s : State) (c : HostCmd) (op : Nat) (f : HostCmd → State → State)
    (hf : ∀ c s, (f c s).quiet = s.quiet) : (s.sessRow c op f).quiet = s.quiet := by
  unfold State.sessRow
  apply State.hostRow_quiet
  intro c s
  split
  · exact hf c s
  · simp

@[simp] theorem State.clearSource_quiet (s : State) (n : Nat) : (State.clearSource s n).quiet = s.quiet := by
  simp [State.clearSource]

@[simp] theorem State.clearFirst_quiet (s : State) : (State.clearFirst s).quiet = s.quiet := by
  simp [State.clearFirst]

@[simp] theorem State.faultClear_quiet (s : State) (c : HostCmd) (src : Src) : (State.faultClear s c src).quiet = s.quiet := by
  simp [State.faultClear]

@[simp] theorem State.setConv_quiet (s : State) (c : Nat) (v : Conv) : (State.setConv s c v).quiet = s.quiet := by
  simp [State.setConv, quiet_mk, pending_quiet, tap_quiet, hist_quiet, caps_quiet]

@[simp] theorem State.showConvs_quiet (s : State) : (State.showConvs s).quiet = s.quiet := by
  simp [State.showConvs]

@[simp] theorem State.wake_quiet (s : State) (c : Nat) : (State.wake s c).quiet = s.quiet := by
  simp [State.wake]

@[simp] theorem State.startConvs_quiet (s : State) : (State.startConvs s).quiet = s.quiet := by
  simp [State.startConvs]

@[simp] theorem State.hkInject_quiet (s : State) (c : HostCmd) (src : Src) : (State.hkInject s c src).quiet = s.quiet := by
  simp [State.hkInject]

@[simp] theorem State.requestCal_quiet (s : State) (c : Nat) : (State.requestCal s c).quiet = s.quiet := by
  simp [State.requestCal]

@[simp] theorem State.requestCals_quiet (s : State) : (State.requestCals s).quiet = s.quiet := by
  simp [State.requestCals]

@[simp] theorem State.hkCtrl_quiet (v : Nat) (s : State) : (State.hkCtrl v s).quiet = s.quiet := by
  simp [State.hkCtrl]

@[simp] theorem State.hkScan_quiet (s : State) : (State.hkScan s).quiet = s.quiet := by
  simp [State.hkScan]

@[simp] theorem State.hkResult_quiet (s : State) (ch : Nat) (code : Nat) : (State.hkResult s ch code).quiet = s.quiet := by
  simp [State.hkResult, quiet_mk, pending_quiet, tap_quiet, hist_quiet, caps_quiet]

@[simp] theorem State.convDone_quiet (s : State) (c : Nat) (q : Nat) : (State.convDone s c q).quiet = s.quiet := by
  simp only [State.convDone]
  (repeat' first | (simp; done) | split)

@[simp] theorem State.nextRounds_quiet (s : State) : (State.nextRounds s).quiet = s.quiet := by
  simp [State.nextRounds]

@[simp] theorem State.showClr_quiet (s : State) : (State.showClr s).quiet = s.quiet := by
  simp [State.showClr]

@[simp] theorem State.strobesEnd_quiet (s : State) : (State.strobesEnd s).quiet = s.quiet := by
  simp [State.strobesEnd]

@[simp] theorem State.holdReset_quiet (s : State) (n : Nat) : (State.holdReset s n).quiet = s.quiet := by
  simp [State.holdReset]

@[simp] theorem State.leaveReset_quiet (s : State) : s.leaveReset.quiet = s.quiet := by
  unfold State.leaveReset
  extract_lets s1 s2 s3 s4
  have h1 : s1.quiet = s.quiet := by
    apply State.forEach_quiet
    intro s n
    split <;> simp
  simp [s4, s3, s2, h1, quiet_mk, pending_quiet, tap_quiet, hist_quiet, caps_quiet, apply_ite State.quiet]

@[simp] theorem State.zeroTime_quiet (s : State) : (State.zeroTime s).quiet = s.quiet := by
  simp [State.zeroTime, quiet_mk, pending_quiet, tap_quiet, hist_quiet, caps_quiet]

@[simp] theorem State.stopMbist_quiet (s : State) : (State.stopMbist s).quiet = s.quiet := by
  simp [State.stopMbist]

@[simp] theorem State.startFirmware_quiet (s : State) (k : Nat) (b : List Byte) : (State.startFirmware s k b).quiet = s.quiet := by
  simp [State.startFirmware, quiet_mk, pending_quiet, tap_quiet, hist_quiet, caps_quiet]

@[simp] theorem State.cfgPend_quiet (s : State) : (State.cfgPend s).quiet = s.quiet := by
  simp [State.cfgPend]

@[simp] theorem State.caskSiu_quiet (s : State) (c : Cask) : (State.caskSiu s c).quiet = s.quiet := by
  simp [State.caskSiu, quiet_mk, pending_quiet, tap_quiet, hist_quiet, caps_quiet]

@[simp] theorem State.caskRegs_quiet (s : State) (c : Cask) : (State.caskRegs s c).quiet = s.quiet := by
  simp [State.caskRegs]

@[simp] theorem State.applyCask_quiet (s : State) (k : Nat) (c : Cask) : (State.applyCask s k c).quiet = s.quiet := by
  simp [State.applyCask, quiet_mk, pending_quiet, tap_quiet, hist_quiet, caps_quiet]

@[simp] theorem State.rowOne_quiet (s : State) : (State.rowOne s).quiet = s.quiet := by
  unfold State.rowOne
  (repeat' split) <;> simp [quiet_mk, pending_quiet, tap_quiet, hist_quiet, caps_quiet]

@[simp] theorem State.loadAll_quiet (s : State) (ver : Nat) (body : List Byte) : (State.loadAll s ver body).quiet = s.quiet := by
  simp [State.loadAll]

@[simp] theorem State.ownAll_quiet (s : State) : (State.ownAll s).quiet = s.quiet := by
  simp [State.ownAll]

@[simp] theorem State.tryRun_quiet (s : State) : (State.tryRun s).quiet = s.quiet := by
  simp [State.tryRun]

@[simp] theorem State.takeRole_quiet (s : State) (r : Nat) : (State.takeRole s r).quiet = s.quiet := by
  simp [State.takeRole, quiet_mk, pending_quiet, tap_quiet, hist_quiet, caps_quiet]

@[simp] theorem State.beginDecision_quiet (s : State) : (State.beginDecision s).quiet = s.quiet := by
  simp only [State.beginDecision]
  (repeat' first | (simp [quiet_mk, pending_quiet, tap_quiet, hist_quiet, caps_quiet]; done) | split)

@[simp] theorem State.rowTwo_quiet (s : State) : (State.rowTwo s).quiet = s.quiet := by
  unfold State.rowTwo
  (repeat' split) <;> simp [quiet_mk, pending_quiet, tap_quiet, hist_quiet, caps_quiet]

@[simp] theorem State.setPlan_quiet (s : State) (n : Nat) (p : Option Plan) : (State.setPlan s n p).quiet = s.quiet := by
  simp [State.setPlan, quiet_mk, pending_quiet, tap_quiet, hist_quiet, caps_quiet]

@[simp] theorem State.setEdit_quiet (s : State) (n : Nat) (e : Option Edit) : (State.setEdit s n e).quiet = s.quiet := by
  simp [State.setEdit, quiet_mk, pending_quiet, tap_quiet, hist_quiet, caps_quiet]

@[simp] theorem State.pushLoad_quiet (s : State) (l : Load) : (State.pushLoad s l).quiet = s.quiet := by
  simp [State.pushLoad, quiet_mk, pending_quiet, tap_quiet, hist_quiet, caps_quiet]

@[simp] theorem State.loadRefused_quiet (s : State) (src : Src) (st : Status) (reason : Nat) : (State.loadRefused s src st reason).quiet = s.quiet := by
  simp [State.loadRefused]

@[simp] theorem State.beginLoad_quiet (s : State) (k : LoadKind) (c : HostCmd) (src : Src) : (s.beginLoad k c src).quiet = s.quiet := by
  unfold State.beginLoad
  extract_lets reason may s1
  have h1 : s1.quiet = s.quiet := by
    simp only [s1]
    split
    · split <;> simp
    · rfl
  clear_value s1
  split <;> simp [h1]

@[simp] theorem State.loadObject_quiet (s : State) (k : LoadKind) (c : HostCmd) (src : Src) : (State.loadObject s k c src).quiet = s.quiet := by
  simp [State.loadObject]

@[simp] theorem State.releaseEdit_quiet (s : State) (n : Nat) (c : HostCmd) (src : Src) : (State.releaseEdit s n c src).quiet = s.quiet := by
  simp [State.releaseEdit]

@[simp] theorem State.loadForm_quiet (s : State) (c : HostCmd) (src : Src) (field : Bool) (buffer : Bool) (reason : Nat) (f : State → State) (hf : ∀ s, (f s).quiet = s.quiet) : (State.loadForm s c src field buffer reason f).quiet = s.quiet := by
  unfold State.loadForm
  (repeat' split) <;> simp [*, quiet_mk, pending_quiet, tap_quiet, hist_quiet, caps_quiet]

@[simp] theorem State.loadComp_quiet (s : State) (c : HostCmd) (src : Src) : (State.loadComp s c src).quiet = s.quiet := by
  unfold State.loadComp
  (repeat' split) <;> simp

@[simp] theorem State.setFlash_quiet (s : State) (fw : Bool) (k : Nat) (b : List Byte) : (State.setFlash s fw k b).quiet = s.quiet := by
  simp [State.setFlash, quiet_mk, pending_quiet, tap_quiet, hist_quiet, caps_quiet]

@[simp] theorem State.loadImage_quiet (s : State) (fw : Bool) (c : HostCmd) (src : Src) : (State.loadImage s fw c src).quiet = s.quiet := by
  simp only [State.loadImage]
  (repeat' first | (simp; done) | split)

@[simp] theorem State.objectLoad_quiet (s : State) (c : HostCmd) (src : Src) : (State.objectLoad s c src).quiet = s.quiet := by
  unfold State.objectLoad
  (repeat' split) <;> simp

@[simp] theorem State.dropLoad_quiet (s : State) (n : Nat) : (State.dropLoad s n).quiet = s.quiet := by
  simp [State.dropLoad, quiet_mk, pending_quiet, tap_quiet, hist_quiet, caps_quiet]

@[simp] theorem State.setPair_quiet (s : State) (lo : Fd) (hi : Fd) (x : Int) : (State.setPair s lo hi x).quiet = s.quiet := by
  simp [State.setPair]

@[simp] theorem State.settleSlew_quiet (s : State) : (State.settleSlew s).quiet = s.quiet := by
  simp [State.settleSlew, quiet_mk, pending_quiet, tap_quiet, hist_quiet, caps_quiet]

@[simp] theorem State.showFreq_quiet (s : State) : (State.showFreq s).quiet = s.quiet := by
  simp [State.showFreq]

@[simp] theorem State.dropAuto_quiet (s : State) : (State.dropAuto s).quiet = s.quiet := by
  unfold State.dropAuto
  (repeat' split) <;> simp [quiet_mk, pending_quiet, tap_quiet, hist_quiet, caps_quiet]

@[simp] theorem State.setServo_quiet (s : State) (st : Nat) : (State.setServo s st).quiet = s.quiet := by
  simp [State.setServo, quiet_mk, pending_quiet, tap_quiet, hist_quiet, caps_quiet]

@[simp] theorem State.pendStep_quiet (s : State) (delta : Int) : (State.pendStep s delta).quiet = s.quiet := by
  simp [State.pendStep]

@[simp] theorem State.ptpTake_quiet (s : State) (m : PtpMsg) (lo : Int) (hi : Int) (f : State → State) (hf : ∀ s, (f s).quiet = s.quiet) : (State.ptpTake s m lo hi f).quiet = s.quiet := by
  unfold State.ptpTake
  (repeat' split) <;> simp [*, quiet_mk, pending_quiet, tap_quiet, hist_quiet, caps_quiet]

@[simp] theorem State.newSource_quiet (s : State) : (State.newSource s).quiet = s.quiet := by
  simp [State.newSource, quiet_mk, pending_quiet, tap_quiet, hist_quiet, caps_quiet]

@[simp] theorem State.changeSource_quiet (s : State) : (State.changeSource s).quiet = s.quiet := by
  simp [State.changeSource]

@[simp] theorem State.loseSource_quiet (s : State) : (State.loseSource s).quiet = s.quiet := by
  unfold State.loseSource
  (repeat' split) <;> simp [quiet_mk, pending_quiet, tap_quiet, hist_quiet, caps_quiet]

@[simp] theorem State.selectSource_quiet (s : State) (x : PtpSrc) : (State.selectSource s x).quiet = s.quiet := by
  simp [State.selectSource, quiet_mk, pending_quiet, tap_quiet, hist_quiet, caps_quiet]

@[simp] theorem State.chooseSource_quiet (s : State) : (State.chooseSource s).quiet = s.quiet := by
  unfold State.chooseSource
  (repeat' split) <;> simp

@[simp] theorem State.tmuCtrl_quiet (old : Nat) (s : State) : (State.tmuCtrl old s).quiet = s.quiet := by
  simp [State.tmuCtrl, quiet_mk, pending_quiet, tap_quiet, hist_quiet, caps_quiet]

@[simp] theorem State.putStep_quiet (s : State) (st : Step) : (State.putStep s st).quiet = s.quiet := by
  simp [State.putStep, quiet_mk, pending_quiet, tap_quiet, hist_quiet, caps_quiet]

@[simp] theorem State.dropStep_quiet (s : State) : (State.dropStep s).quiet = s.quiet := by
  simp [State.dropStep, quiet_mk, pending_quiet, tap_quiet, hist_quiet, caps_quiet]

@[simp] theorem State.timeStep_quiet (s : State) (c : HostCmd) (src : Src) : (State.timeStep s c src).quiet = s.quiet := by
  unfold State.timeStep
  dsimp only []
  apply State.withForm_quiet
  intros
  (repeat' first | (simp; done) | split)

@[simp] theorem State.stepRow_quiet (s : State) (c : HostCmd) : (State.stepRow s c).quiet = s.quiet := by
  simp [State.stepRow]

@[simp] theorem State.shiftTime_quiet (s : State) (d : Int) : (State.shiftTime s d).quiet = s.quiet := by
  simp [State.shiftTime, quiet_mk, pending_quiet, tap_quiet, hist_quiet, caps_quiet]

@[simp] theorem State.toutPin_quiet (s : State) (n : Nat) : (State.toutPin s n).quiet = s.quiet := by
  simp [State.toutPin, quiet_mk, pending_quiet, tap_quiet, hist_quiet, caps_quiet]

@[simp] theorem State.setPulse_quiet (s : State) (n : Nat) (p : Option Pulse) : (State.setPulse s n p).quiet = s.quiet := by
  simp [State.setPulse, quiet_mk, pending_quiet, tap_quiet, hist_quiet, caps_quiet]

@[simp] theorem State.skipEdges_quiet (s : State) (n : Nat) : (State.skipEdges s n).quiet = s.quiet := by
  unfold State.skipEdges
  (repeat' split) <;> simp [quiet_mk, pending_quiet, tap_quiet, hist_quiet, caps_quiet]

@[simp] theorem State.applyStep_quiet (s : State) (st : Step) : (State.applyStep s st).quiet = s.quiet := by
  simp [State.applyStep, quiet_mk, pending_quiet, tap_quiet, hist_quiet, caps_quiet]

@[simp] theorem State.stepAtMarker_quiet (s : State) : (State.stepAtMarker s).quiet = s.quiet := by
  unfold State.stepAtMarker
  (repeat' split) <;> simp

@[simp] theorem State.steerTo_quiet (s : State) (i : Int) (a : Int) (locked : Bool) : (State.steerTo s i a locked).quiet = s.quiet := by
  simp [State.steerTo, quiet_mk, pending_quiet, tap_quiet, hist_quiet, caps_quiet]

@[simp] theorem State.steer_quiet (s : State) (o : Int) (locked : Bool) : (State.steer s o locked).quiet = s.quiet := by
  simp [State.steer]

@[simp] theorem State.refuseJump_quiet (s : State) (o : Int) : (s.refuseJump o).quiet = s.quiet := by
  unfold State.refuseJump
  extract_lets s1
  have h1 : s1.quiet = s.quiet := by simp [s1]
  rw [← h1]
  rfl

@[simp] theorem State.setRun_quiet (s : State) (n : Nat) : (State.setRun s n).quiet = s.quiet := by
  simp [State.setRun, quiet_mk, pending_quiet, tap_quiet, hist_quiet, caps_quiet]

@[simp] theorem State.lock_quiet (s : State) : (State.lock s).quiet = s.quiet := by
  simp [State.lock, quiet_mk, pending_quiet, tap_quiet, hist_quiet, caps_quiet]

@[simp] theorem State.lockRun_quiet (s : State) (locked : Bool) (n : Nat) : (State.lockRun s locked n).quiet = s.quiet := by
  simp [State.lockRun]

@[simp] theorem State.sampleSteering_quiet (s : State) (o : Int) : (State.sampleSteering s o).quiet = s.quiet := by
  simp [State.sampleSteering]

@[simp] theorem State.newPending_quiet (s : State) (o : Int) : (State.newPending s o).quiet = s.quiet := by
  unfold State.newPending
  (repeat' split) <;> simp [quiet_mk, pending_quiet, tap_quiet, hist_quiet, caps_quiet]

@[simp] theorem State.samplePending_quiet (s : State) (o : Int) : (State.samplePending s o).quiet = s.quiet := by
  simp [State.samplePending, quiet_mk, pending_quiet, tap_quiet, hist_quiet, caps_quiet]

@[simp] theorem State.evaluated_quiet (s : State) (m : Int) : (State.evaluated s m).quiet = s.quiet := by
  simp [State.evaluated]

@[simp] theorem State.sampleEval_quiet (s : State) (o : Int) : (State.sampleEval s o).quiet = s.quiet := by
  simp [State.sampleEval, quiet_mk, pending_quiet, tap_quiet, hist_quiet, caps_quiet]

@[simp] theorem State.offsetSample_quiet (s : State) (o : Int) : (s.offsetSample o).quiet = s.quiet := by
  unfold State.offsetSample
  simp [apply_ite State.quiet]

@[simp] theorem State.syncComplete_quiet (s : State) (t2 : Int) (t1 : Int) (corr : Int) : (State.syncComplete s t2 t1 corr).quiet = s.quiet := by
  simp [State.syncComplete, quiet_mk, pending_quiet, tap_quiet, hist_quiet, caps_quiet]

@[simp] theorem State.delaySample_quiet (s : State) (x : Int) : (State.delaySample s x).quiet = s.quiet := by
  simp [State.delaySample, quiet_mk, pending_quiet, tap_quiet, hist_quiet, caps_quiet]

@[simp] theorem State.peerIgnored_quiet (s : State) (m : PtpMsg) : (State.peerIgnored s m).quiet = s.quiet := by
  simp [State.peerIgnored]

@[simp] theorem State.markTile_quiet (s : State) (t : Nat) : (State.markTile s t).quiet = s.quiet := by
  simp [State.markTile]

@[simp] theorem State.treeMarker_quiet (s : State) : (State.treeMarker s).quiet = s.quiet := by
  simp [State.treeMarker, quiet_mk, pending_quiet, tap_quiet, hist_quiet, caps_quiet]

@[simp] theorem State.remeasure_quiet (s : State) (t : Nat) (e : Option Int) : (State.remeasure s t e).quiet = s.quiet := by
  unfold State.remeasure
  (repeat' split) <;> simp

@[simp] theorem State.moveTrims_quiet (s : State) : (State.moveTrims s).quiet = s.quiet := by
  simp [State.moveTrims]

@[simp] theorem State.toutArm_quiet (s : State) (n : Nat) : (State.toutArm s n).quiet = s.quiet := by
  simp [State.toutArm]

@[simp] theorem State.toutStop_quiet (s : State) (n : Nat) : (State.toutStop s n).quiet = s.quiet := by
  simp only [State.toutStop]
  (repeat' first | (simp; done) | split)

@[simp] theorem State.endRead_quiet (s : State) : (State.endRead s).quiet = s.quiet := by
  simp [State.endRead, quiet_mk, pending_quiet, tap_quiet, hist_quiet, caps_quiet]

@[simp] theorem State.descRefused_quiet (s : State) (code : Nat) : (State.descRefused s code).quiet = s.quiet := by
  simp [State.descRefused]

@[simp] theorem State.dropObjects_quiet (s : State) : (State.dropObjects s).quiet = s.quiet := by
  simp [State.dropObjects, quiet_mk, pending_quiet, tap_quiet, hist_quiet, caps_quiet]

@[simp] theorem State.descAccepted_quiet (s : State) (d : Desc) : (State.descAccepted s d).quiet = s.quiet := by
  simp [State.descAccepted, quiet_mk, pending_quiet, tap_quiet, hist_quiet, caps_quiet]

@[simp] theorem State.descBytes_quiet (s : State) (b : List Byte) : (State.descBytes s b).quiet = s.quiet := by
  simp [State.descBytes, quiet_mk, pending_quiet, tap_quiet, hist_quiet, caps_quiet]

@[simp] theorem State.descRetry_quiet (s : State) : (State.descRetry s).quiet = s.quiet := by
  unfold State.descRetry
  (repeat' split) <;> simp [quiet_mk, pending_quiet, tap_quiet, hist_quiet, caps_quiet]

@[simp] theorem State.reread_quiet (s : State) : (State.reread s).quiet = s.quiet := by
  simp [State.reread, quiet_mk, pending_quiet, tap_quiet, hist_quiet, caps_quiet]

@[simp] theorem State.answer_quiet (s : State) (i : Nat) (r : GcrpReq) (st : Status) (detail : Nat) (extra : List Byte) : (State.answer s i r st detail extra).quiet = s.quiet := by
  simp [State.answer]

@[simp] theorem State.fwdGcrp_quiet (s : State) (r : GcrpReq) : (State.fwdGcrp s r).quiet = s.quiet := by
  simp [State.fwdGcrp]

@[simp] theorem State.gcrpEnd_quiet (s : State) (i : Nat) (r : GcrpReq) (st : Status) (detail : Nat) : (State.gcrpEnd s i r st detail).quiet = s.quiet := by
  simp [State.gcrpEnd]

@[simp] theorem State.openDone_quiet (s : State) (i : Nat) (r : GcrpReq) : (State.openDone s i r).quiet = s.quiet := by
  simp [State.openDone]

@[simp] theorem State.openRefused_quiet (s : State) (r : GcrpReq) (st : Status) (detail : Nat) : (State.openRefused s r st detail).quiet = s.quiet := by
  simp [State.openRefused]

@[simp] theorem State.sessFull_quiet (s : State) : (State.sessFull s).quiet = s.quiet := by
  simp [State.sessFull]

@[simp] theorem State.openAt_quiet (s : State) (i : Nat) (r : GcrpReq) (tx : Nat) : (State.openAt s i r tx).quiet = s.quiet := by
  simp [State.openAt]

@[simp] theorem State.openSession_quiet (s : State) (r : GcrpReq) : (State.openSession s r).quiet = s.quiet := by
  unfold State.openSession
  (repeat' split) <;> simp

@[simp] theorem State.changeRequest_quiet (s : State) (i : Nat) (r : GcrpReq) : (State.changeRequest s i r).quiet = s.quiet := by
  simp [State.changeRequest]

@[simp] theorem State.circuit_quiet (s : State) (i : Nat) (r : GcrpReq) : (State.circuit s i r).quiet = s.quiet := by
  simp [State.circuit]

@[simp] theorem State.gcrpDo_quiet (s : State) (i : Nat) (r : GcrpReq) : (State.gcrpDo s i r).quiet = s.quiet := by
  unfold State.gcrpDo
  (repeat' split) <;> simp

@[simp] theorem State.gcrpHit_quiet (s : State) (r : GcrpReq) : (State.gcrpHit s r).quiet = s.quiet := by
  simp only [State.gcrpHit]
  (repeat' first | (simp; done) | split)

@[simp] theorem State.gcrpOpen_quiet (s : State) (r : GcrpReq) : (State.gcrpOpen s r).quiet = s.quiet := by
  unfold State.gcrpOpen
  (repeat' split) <;> simp

@[simp] theorem State.gcrpTake_quiet (s : State) (r : GcrpReq) : (State.gcrpTake s r).quiet = s.quiet := by
  simp [State.gcrpTake]

@[simp] theorem State.gcrpRow_quiet (s : State) (type : Nat) (r : GcrpReq) : (State.gcrpRow s type r).quiet = s.quiet := by
  simp [State.gcrpRow]

@[simp] theorem State.idleClose_quiet (s : State) (i : Nat) : (State.idleClose s i).quiet = s.quiet := by
  simp [State.idleClose]

@[simp] theorem State.txFrame_quiet (s : State) (n : Nat) (cls : Nat) (event : Bool) (b : List Byte) : (State.txFrame s n cls event b).quiet = s.quiet := by
  simp [State.txFrame]

@[simp] theorem State.flushEgress_quiet (s : State) (n : Nat) : (State.flushEgress s n).quiet = s.quiet := by
  simp [State.flushEgress, quiet_mk, pending_quiet, tap_quiet, hist_quiet, caps_quiet]

@[simp] theorem State.setLink_quiet (s : State) (n : Nat) (lock : Bool) (ber : Bool) (fec : Bool) : (State.setLink s n lock ber fec).quiet = s.quiet := by
  simp [State.setLink]

@[simp] theorem State.cpCtrl_quiet (fecBefore : Bool) (n : Nat) (s : State) : (State.cpCtrl fecBefore n s).quiet = s.quiet := by
  simp [State.cpCtrl]

@[simp] theorem State.tcCorrect_quiet (s : State) (f : List Byte) (p : Parsed) (o : Nat) (x : Int) : (State.tcCorrect s f p o x).1.quiet = s.quiet := by
  simp [State.tcCorrect]

@[simp] theorem State.tcForward_quiet (s : State) (w : InFlight) : (State.tcForward s w).1.quiet = s.quiet := by
  simp only [State.tcForward]
  (repeat' first | (simp; done) | split)

@[simp] theorem State.forward_quiet (s : State) (w : InFlight) : (State.forward s w).quiet = s.quiet := by
  simp only [State.forward]
  (repeat' first | (simp; done) | split)

@[simp] theorem State.eventTimeout_quiet (s : State) (p : Nat) : (State.eventTimeout s p).quiet = s.quiet := by
  unfold State.eventTimeout
  (repeat' split) <;> simp [quiet_mk, pending_quiet, tap_quiet, hist_quiet, caps_quiet]

@[simp] theorem State.copyRing_quiet (s : State) (w : Waiting) (r : Nat) (result : List Byte) : (State.copyRing s w r result).quiet = s.quiet := by
  simp [State.copyRing, quiet_mk, pending_quiet, tap_quiet, hist_quiet, caps_quiet]

@[simp] theorem State.copySuper_quiet (s : State) (w : Waiting) : (State.copySuper s w).quiet = s.quiet := by
  simp [State.copySuper, quiet_mk, pending_quiet, tap_quiet, hist_quiet, caps_quiet]

@[simp] theorem State.copyEngine_quiet (s : State) (w : Waiting) (a : Act) : (State.copyEngine s w a).quiet = s.quiet := by
  unfold State.copyEngine
  (repeat' split) <;> simp

@[simp] theorem State.frameAct_quiet (s : State) (w : Waiting) : (State.frameAct s w).quiet = s.quiet := by
  unfold State.frameAct
  (repeat' split) <;> simp

@[simp] theorem State.hitProto_quiet (s : State) (i : Nat) : (State.hitProto s i).quiet = s.quiet := by
  simp [State.hitProto, quiet_mk, pending_quiet, tap_quiet, hist_quiet, caps_quiet]

@[simp] theorem State.hitAct_quiet (s : State) (i : Nat) : (State.hitAct s i).quiet = s.quiet := by
  simp [State.hitAct, quiet_mk, pending_quiet, tap_quiet, hist_quiet, caps_quiet]

@[simp] theorem State.classifyDeep_quiet (s : State) (w : Waiting) : (State.classifyDeep s w).1.quiet = s.quiet := by
  simp only [State.classifyDeep]
  (repeat' first | (simp; done) | split)

@[simp] theorem State.classifyKey_quiet (s : State) (w : Waiting) (f : List Byte) (p : Parsed) : (State.classifyKey s w f p).1.quiet = s.quiet := by
  simp only [State.classifyKey]
  (repeat' first | (simp; done) | split)

@[simp] theorem State.classify_quiet (s : State) (h : InFlight) : (State.classify s h).1.quiet = s.quiet := by
  simp only [State.classify]
  (repeat' first | (simp; done) | split)

@[simp] theorem State.drainCheck_quiet (s : State) : (State.drainCheck s).quiet = s.quiet := by
  simp [State.drainCheck]

@[simp] theorem State.setRelease_quiet (s : State) (n : Nat) (v : Nat) : (State.setRelease s n v).quiet = s.quiet := by
  simp [State.setRelease, quiet_mk, pending_quiet, tap_quiet, hist_quiet, caps_quiet]

@[simp] theorem State.releaseRun_quiet (n k : Nat) (s : State) : (State.releaseRun n k s).quiet = s.quiet := by
  induction k generalizing s with
  | zero => rfl
  | succ k ih =>
    unfold State.releaseRun
    simp only []
    split <;> simp [ih, quiet_mk, pending_quiet, tap_quiet, hist_quiet, caps_quiet]

@[simp] theorem State.releasePort_quiet (s : State) (n : Nat) : (State.releasePort s n).quiet = s.quiet := by
  simp [State.releasePort]

@[simp] theorem State.enterReorder_quiet (s : State) (w : Waiting) : (State.enterReorder s w).quiet = s.quiet := by
  simp [State.enterReorder, quiet_mk, pending_quiet, tap_quiet, hist_quiet, caps_quiet]

@[simp] theorem State.frameOut_quiet (s : State) (h : InFlight) : (State.frameOut s h).quiet = s.quiet := by
  simp [State.frameOut]

@[simp] theorem State.dropVersion_quiet (s : State) (v : Nat) : (State.dropVersion s v).quiet = s.quiet := by
  simp [State.dropVersion, quiet_mk, pending_quiet, tap_quiet, hist_quiet, caps_quiet]

@[simp] theorem State.stampFrame_quiet (s : State) (f : RxFrame) : (State.stampFrame s f).1.quiet = s.quiet := by
  simp [State.stampFrame, quiet_mk, pending_quiet, tap_quiet, hist_quiet, caps_quiet]

@[simp] theorem State.heldOut_quiet (s : State) (n : Nat) (stamp : Nat) : (State.heldOut s n stamp).quiet = s.quiet := by
  unfold State.heldOut
  (repeat' split) <;> simp [quiet_mk, pending_quiet, tap_quiet, hist_quiet, caps_quiet]

@[simp] theorem State.dealFrame_quiet (s : State) (f : RxFrame) (h : InFlight) : (State.dealFrame s f h).quiet = s.quiet := by
  unfold State.dealFrame
  (repeat' split) <;> simp [quiet_mk, pending_quiet, tap_quiet, hist_quiet, caps_quiet]

@[simp] theorem State.ptpOther_quiet (s : State) (n : Nat) (f : List Byte) : (State.ptpOther s n f).quiet = s.quiet := by
  unfold State.ptpOther
  (repeat' split) <;> simp

@[simp] theorem State.acceptable_quiet (s : State) (n : Nat) (b : List Byte) : (State.acceptable s n b).2.quiet = s.quiet := by
  unfold State.acceptable
  (repeat' split) <;> simp

@[simp] theorem State.frameIn_quiet (s : State) (f : RxFrame) : (State.frameIn s f).quiet = s.quiet := by
  simp [State.frameIn]

@[simp] theorem State.sendAnswer_quiet (s : State) (n : Nat) (f : List Byte) (p : Parsed) (etype : Nat) (body : List Byte) : (State.sendAnswer s n f p etype body).quiet = s.quiet := by
  simp [State.sendAnswer]

@[simp] theorem State.answered_quiet (s : State) (n : Nat) (b : List Byte) (asks : Bool) (f : State → State) (hf : ∀ s, (f s).quiet = s.quiet) : (State.answered s n b asks f).quiet = s.quiet := by
  unfold State.answered
  (repeat' split) <;> simp [*, quiet_mk, pending_quiet, tap_quiet, hist_quiet, caps_quiet]

@[simp] theorem State.txnArm_quiet (s : State) (c : HostCmd) (src : Src) : (State.txnArm s c src).quiet = s.quiet := by
  unfold State.txnArm
  dsimp only []
  apply State.withForm_quiet
  intros
  (repeat' first | (simp; done) | split)

@[simp] theorem State.commitLanes_quiet (s : State) (t : Nat) (k : Nat) : (State.commitLanes s t k).1.quiet = s.quiet := by
  simp only [State.commitLanes]
  (repeat' first | (simp; done) | split)

@[simp] theorem State.commitTile_quiet (s : State) (c : Nat) (t : Nat) (k : Nat) : (State.commitTile s c t k).quiet = s.quiet := by
  simp [State.commitTile]

@[simp] theorem State.shadowLane_quiet (s : State) (g : Nat) (r : Nat) : (State.shadowLane s g r).quiet = s.quiet := by
  simp [State.shadowLane]

@[simp] theorem State.shadowDark_quiet (s : State) (g : Nat) : (State.shadowDark s g).quiet = s.quiet := by
  simp [State.shadowDark]

@[simp] theorem State.shadowCommit_quiet (s : State) (i : Nat) (c : Nat) : (State.shadowCommit s i c).quiet = s.quiet := by
  simp only [State.shadowCommit]
  (repeat' first | (simp; done) | split)

@[simp] theorem State.verifyEnd_quiet (s : State) (i : Nat) : (State.verifyEnd s i).quiet = s.quiet := by
  simp [State.verifyEnd]

@[simp] theorem State.decideWindow_quiet (s : State) (t : Nat) (h : Nat) (quenched : Bool) : (State.decideWindow s t h quenched).quiet = s.quiet := by
  simp [State.decideWindow]

@[simp] theorem State.burstsOver_quiet (s : State) (i : Nat) : (State.burstsOver s i).quiet = s.quiet := by
  simp [State.burstsOver]

@[simp] theorem State.quenchEnd_quiet (s : State) (t : Nat) : (State.quenchEnd s t).quiet = s.quiet := by
  simp [State.quenchEnd]

@[simp] theorem State.bankEnd_quiet (s : State) (t : Nat) (k : Nat) : (State.bankEnd s t k).quiet = s.quiet := by
  simp only [State.bankEnd]
  (repeat' first | (simp; done) | split)

@[simp] theorem State.burstsEnd_quiet (s : State) (t : Nat) : (State.burstsEnd s t).quiet = s.quiet := by
  unfold State.burstsEnd
  (repeat' split) <;> simp

@[simp] theorem State.burstsBy_quiet (s : State) (t : Nat) (m : Nat) : (State.burstsBy s t m).quiet = s.quiet := by
  simp [State.burstsBy]

@[simp] theorem State.quenchDemand_quiet (s : State) : (State.quenchDemand s).quiet = s.quiet := by
  simp [State.quenchDemand, quiet_mk, pending_quiet, tap_quiet, hist_quiet, caps_quiet]

@[simp] theorem State.quenchTile_quiet (s : State) (q : Nat) (t : Nat) : (State.quenchTile s q t).quiet = s.quiet := by
  simp [State.quenchTile]

@[simp] theorem State.quenchTxn_quiet (s : State) (i : Nat) : (State.quenchTxn s i).quiet = s.quiet := by
  simp only [State.quenchTxn]
  (repeat' first | (simp; done) | split)

@[simp] theorem State.quenchTick_quiet (s : State) : (State.quenchTick s).quiet = s.quiet := by
  unfold State.quenchTick
  (repeat' split) <;> simp [quiet_mk, pending_quiet, tap_quiet, hist_quiet, caps_quiet]

@[simp] theorem State.quenchFirst_quiet (s : State) (c : Nat) : (State.quenchFirst s c).quiet = s.quiet := by
  unfold State.quenchFirst
  (repeat' split) <;> simp

@[simp] theorem State.armMiss_quiet (s : State) (h : Nat) (k : Nat) (r : Nat) : (State.armMiss s h k r).quiet = s.quiet := by
  simp [State.armMiss]

@[simp] theorem State.judge_quiet (s : State) (i : Nat) : (State.judge s i).quiet = s.quiet := by
  simp only [State.judge]
  (repeat' first | (simp; done) | split)

@[simp] theorem State.armDeadline_quiet (s : State) (i : Nat) : (State.armDeadline s i).quiet = s.quiet := by
  simp [State.armDeadline]

@[simp] theorem State.passedDeadline_quiet (s : State) (h : Nat) : (State.passedDeadline s h).quiet = s.quiet := by
  unfold State.passedDeadline
  (repeat' split) <;> simp

@[simp] theorem State.beforeAbort_quiet (s : State) (h : Nat) : (State.beforeAbort s h).quiet = s.quiet := by
  simp only [State.beforeAbort]
  (repeat' first | (simp; done) | split)

@[simp] theorem State.txnAbort_quiet (s : State) (c : HostCmd) (src : Src) : (State.txnAbort s c src).quiet = s.quiet := by
  unfold State.txnAbort
  dsimp only []
  apply State.withForm_quiet
  intros
  (repeat' first | (simp; done) | split)

@[simp] theorem State.commitNow_quiet (s : State) (i c : Nat) : (s.commitNow i c).quiet = s.quiet := by
  unfold State.commitNow
  extract_lets t h s1 s2 s3 s4
  have h2 : s2.quiet = s.quiet := by
    simp only [s2, s1]
    rw [State.forEach_quiet _ _ _ (fun s k => by split <;> simp)]
    simp
  have h4 : s4.quiet = s.quiet := by simp [s4, s3, h2]
  split <;> simp [h4]

@[simp] theorem State.commit_quiet (s : State) (h : Nat) : (State.commit s h).quiet = s.quiet := by
  unfold State.commit
  (repeat' split) <;> simp

@[simp] theorem State.hostExec_quiet (s : State) (c : HostCmd) (src : Src) : (State.hostExec s c src).quiet = s.quiet := by
  unfold State.hostExec
  (repeat' split) <;> simp

@[simp] theorem State.runHeld_quiet (s : State) (f : Nat → Bool) : (State.runHeld s f).quiet = s.quiet := by
  simp [State.runHeld, quiet_mk, pending_quiet, tap_quiet, hist_quiet, caps_quiet]

@[simp] theorem State.doReq_quiet (s : State) (r : HeldReq) : (s.doReq r).quiet = s.quiet := by
  cases r with
  | partner r => simp [State.doReq]
  | closure i k => simp only [State.doReq]; (repeat' split) <;> simp

@[simp] theorem State.runReqs_quiet (s : State) : s.runReqs.quiet = s.quiet := by
  unfold State.runReqs
  rw [foldl_quiet _ _ _ (fun s r => State.doReq_quiet s r)]
  simp [quiet_mk, pending_quiet, tap_quiet, hist_quiet, caps_quiet]

@[simp] theorem State.stopSync_quiet (s : State) : (State.stopSync s).quiet = s.quiet := by
  simp [State.stopSync, quiet_mk, pending_quiet, tap_quiet, hist_quiet, caps_quiet]

@[simp] theorem State.setRole_quiet (s : State) (r : Nat) : (State.setRole s r).quiet = s.quiet := by
  simp [State.setRole]

@[simp] theorem State.noSync_quiet (s : State) : (State.noSync s).quiet = s.quiet := by
  simp [State.noSync]

@[simp] theorem State.toSolo_quiet (s : State) : (State.toSolo s).quiet = s.quiet := by
  simp [State.toSolo]

@[simp] theorem State.judgeTwin_quiet (s : State) : (State.judgeTwin s).quiet = s.quiet := by
  simp [State.judgeTwin]

@[simp] theorem State.toStandby_quiet (s : State) : (State.toStandby s).quiet = s.quiet := by
  simp [State.toStandby, quiet_mk, pending_quiet, tap_quiet, hist_quiet, caps_quiet]

@[simp] theorem State.releaseAll_quiet (s : State) (cause : Nat) (next : Nat) : (State.releaseAll s cause next).quiet = s.quiet := by
  simp [State.releaseAll, quiet_mk, pending_quiet, tap_quiet, hist_quiet, caps_quiet]

@[simp] theorem State.dropSwitch_quiet (s : State) : (State.dropSwitch s).quiet = s.quiet := by
  unfold State.dropSwitch
  (repeat' split) <;> simp [quiet_mk, pending_quiet, tap_quiet, hist_quiet, caps_quiet]

@[simp] theorem State.resign_quiet (s : State) (cause : Nat) : (State.resign s cause).quiet = s.quiet := by
  simp [State.resign]

@[simp] theorem State.captureSnap_quiet (s : State) : (State.captureSnap s).quiet = s.quiet := by
  simp [State.captureSnap, quiet_mk, pending_quiet, tap_quiet, hist_quiet, caps_quiet]

@[simp] theorem State.bumpSessions_quiet (s : State) : (State.bumpSessions s).quiet = s.quiet := by
  simp [State.bumpSessions]

@[simp] theorem State.putSetpoints_quiet (s : State) (named : List (Nat × Nat)) (dark : List Nat) : (State.putSetpoints s named dark).quiet = s.quiet := by
  simp [State.putSetpoints]

@[simp] theorem State.applyShadow_quiet (s : State) (i : Nat) (c : Nat) : (State.applyShadow s i c).quiet = s.quiet := by
  simp [State.applyShadow, quiet_mk, pending_quiet, tap_quiet, hist_quiet, caps_quiet]

@[simp] theorem State.putAhead_quiet (s : State) : (State.putAhead s).quiet = s.quiet := by
  simp [State.putAhead, quiet_mk, pending_quiet, tap_quiet, hist_quiet, caps_quiet]

@[simp] theorem State.takeTxn_quiet (s : State) (i : Nat) : (State.takeTxn s i).quiet = s.quiet := by
  simp only [State.takeTxn]
  (repeat' first | (simp; done) | split)

@[simp] theorem State.firstTake_quiet (s : State) : (State.firstTake s).quiet = s.quiet := by
  simp [State.firstTake, quiet_mk, pending_quiet, tap_quiet, hist_quiet, caps_quiet]

@[simp] theorem State.takeDoms_quiet (s : State) (m : Nat) : (State.takeDoms s m).quiet = s.quiet := by
  simp [State.takeDoms]

@[simp] theorem State.guard_quiet (s : State) : (State.guard s).quiet = s.quiet := by
  simp [State.guard, quiet_mk, pending_quiet, tap_quiet, hist_quiet, caps_quiet]

@[simp] theorem State.switchDone_quiet (s : State) : (State.switchDone s).quiet = s.quiet := by
  unfold State.switchDone
  (repeat' split) <;> simp

@[simp] theorem State.ownxRise_quiet (s : State) (d : Nat) : (State.ownxRise s d).quiet = s.quiet := by
  simp [State.ownxRise, quiet_mk, pending_quiet, tap_quiet, hist_quiet, caps_quiet]

@[simp] theorem State.ownxFall_quiet (s : State) (d : Nat) : (State.ownxFall s d).quiet = s.quiet := by
  simp [State.ownxFall, quiet_mk, pending_quiet, tap_quiet, hist_quiet, caps_quiet]

@[simp] theorem State.twinOp_quiet (s : State) (c : HostCmd) (src : Src) (f : State → State) (hf : ∀ s, (f s).quiet = s.quiet) : (State.twinOp s c src f).quiet = s.quiet := by
  unfold State.twinOp
  dsimp only []
  apply State.withForm_quiet
  intros
  (repeat' first | (simp [*, quiet_mk, pending_quiet, tap_quiet, hist_quiet, caps_quiet]; done) | split)

@[simp] theorem State.switchover_quiet (s : State) (src : Src) : (State.switchover s src).quiet = s.quiet := by
  simp [State.switchover, quiet_mk, pending_quiet, tap_quiet, hist_quiet, caps_quiet]

@[simp] theorem State.twinCmd_quiet (s : State) (c : HostCmd) (src : Src) : (State.twinCmd s c src).quiet = s.quiet := by
  unfold State.twinCmd
  (repeat' split) <;> simp

@[simp] theorem State.readStore_quiet (s : State) (store : Nat) : (State.readStore s store).quiet = s.quiet := by
  simp [State.readStore, quiet_mk, pending_quiet, tap_quiet, hist_quiet, caps_quiet]

@[simp] theorem State.setTl_quiet (s : State) (lock : Bool) (fec : Bool) : (State.setTl s lock fec).quiet = s.quiet := by
  simp only [State.setTl]
  (repeat' first | (simp [quiet_mk, pending_quiet, tap_quiet, hist_quiet, caps_quiet]; done) | split)

@[simp] theorem State.twinGap_quiet (s : State) : (State.twinGap s).quiet = s.quiet := by
  simp [State.twinGap]

@[simp] theorem State.tlFrame_quiet (s : State) (m : List Byte) : (State.tlFrame s m).quiet = s.quiet := by
  simp [State.tlFrame, quiet_mk, pending_quiet, tap_quiet, hist_quiet, caps_quiet]

@[simp] theorem State.tlReceive_quiet (s : State) (ty : Nat) (f : List Byte) (act : List Byte → State → State)
    (h : ∀ b s, (act b s).quiet = s.quiet) : (s.tlReceive ty f act).quiet = s.quiet := by
  unfold State.tlReceive
  (repeat' split) <;> simp [h]

@[simp] theorem State.beginSync_quiet (s : State) : (State.beginSync s).quiet = s.quiet := by
  simp [State.beginSync, quiet_mk, pending_quiet, tap_quiet, hist_quiet, caps_quiet]

@[simp] theorem State.dualOwner_quiet (s : State) : (State.dualOwner s).quiet = s.quiet := by
  simp only [State.dualOwner]
  (repeat' first | (simp [quiet_mk, pending_quiet, tap_quiet, hist_quiet, caps_quiet]; done) | split)

@[simp] theorem State.beatRoles_quiet (s : State) (rxSeq : Nat) : (State.beatRoles s rxSeq).quiet = s.quiet := by
  simp [State.beatRoles, quiet_mk, pending_quiet, tap_quiet, hist_quiet, caps_quiet]

@[simp] theorem State.heardBeat_quiet (s : State) (b : List Byte) : (State.heardBeat s b).quiet = s.quiet := by
  simp [State.heardBeat, quiet_mk, pending_quiet, tap_quiet, hist_quiet, caps_quiet]

@[simp] theorem State.stageTwin_quiet (s : State) (r : StageReq) (h : Nat) : (State.stageTwin s r h).quiet = s.quiet := by
  simp [State.stageTwin]

@[simp] theorem State.noteBase_quiet (s : State) (n : Nat) (i : Nat) (k : Nat) (c : Nat) : (State.noteBase s n i k c).quiet = s.quiet := by
  simp [State.noteBase]

@[simp] theorem State.calNote_quiet (s : State) (b : List Byte) : (State.calNote s b).quiet = s.quiet := by
  simp [State.calNote]

@[simp] theorem State.quenchNote_quiet (s : State) (q : Nat) : (State.quenchNote s q).quiet = s.quiet := by
  simp [State.quenchNote]

@[simp] theorem State.txnNote_quiet (s : State) (b : List Byte) : (State.txnNote s b).quiet = s.quiet := by
  unfold State.txnNote
  (repeat' split) <;> simp

@[simp] theorem State.stageFwd_quiet (s : State) (c : TlCmd) : (State.stageFwd s c).quiet = s.quiet := by
  simp [State.stageFwd]

@[simp] theorem State.sessionFwd_quiet (s : State) (r : GcrpReq) : (State.sessionFwd s r).quiet = s.quiet := by
  simp only [State.sessionFwd]
  (repeat' first | (simp; done) | split)

@[simp] theorem State.applyTl_quiet (s : State) (c : TlCmd) : (State.applyTl s c).quiet = s.quiet := by
  unfold State.applyTl
  (repeat' split) <;> simp

@[simp] theorem State.takeTl_quiet (s : State) (c : TlCmd) : (State.takeTl s c).quiet = s.quiet := by
  simp [State.takeTl, quiet_mk, pending_quiet, tap_quiet, hist_quiet, caps_quiet]

@[simp] theorem State.tlFragment_quiet (s : State) (b : List Byte) : (State.tlFragment s b).quiet = s.quiet := by
  simp [State.tlFragment, quiet_mk, pending_quiet, tap_quiet, hist_quiet, caps_quiet]

@[simp] theorem State.roundStep_quiet (s : State) (t : Nat) (first : Nat) : (State.roundStep s t first).quiet = s.quiet := by
  simp [State.roundStep, quiet_mk, pending_quiet, tap_quiet, hist_quiet, caps_quiet]

@[simp] theorem State.snapshot_quiet (s : State) (b : List Byte) : (State.snapshot s b).quiet = s.quiet := by
  simp [State.snapshot]

@[simp] theorem State.putCalImg_quiet (s : State) (n : Nat) (i : CalImg) : (State.putCalImg s n i).quiet = s.quiet := by
  simp [State.putCalImg]

@[simp] theorem State.putStopAt_quiet (s : State) (n : Nat) : (State.putStopAt s n).quiet = s.quiet := by
  simp [State.putStopAt]

@[simp] theorem State.putSess_quiet (s : State) (i : Nat) (x : Sess) : (State.putSess s i x).quiet = s.quiet := by
  simp [State.putSess]

@[simp] theorem State.putStore_quiet (s : State) (img : StoreImg) : (State.putStore s img).quiet = s.quiet := by
  unfold State.putStore
  (repeat' split) <;> simp [quiet_mk, pending_quiet, tap_quiet, hist_quiet, caps_quiet]

@[simp] theorem State.healStore_quiet (s : State) (store : Nat) : (State.healStore s store).quiet = s.quiet := by
  unfold State.healStore
  (repeat' split) <;> simp

@[simp] theorem State.storeDone_quiet (s : State) (img : StoreImg) (last : Nat) : (State.storeDone s img last).quiet = s.quiet := by
  simp [State.storeDone, quiet_mk, pending_quiet, tap_quiet, hist_quiet, caps_quiet]

@[simp] theorem State.nextStore_quiet (s : State) (store : Nat) : (State.nextStore s store).quiet = s.quiet := by
  simp [State.nextStore, quiet_mk, pending_quiet, tap_quiet, hist_quiet, caps_quiet]

@[simp] theorem State.restartSync_quiet (s : State) : (State.restartSync s).quiet = s.quiet := by
  simp [State.restartSync]

@[simp] theorem State.setIn_quiet (s : State) (i : Nat) (v : Nat) : (State.setIn s i v).quiet = s.quiet := by
  simp [State.setIn]

@[simp] theorem State.rstEdge_quiet (s : State) (pressed : Bool) : (State.rstEdge s pressed).quiet = s.quiet := by
  simp [State.rstEdge, quiet_mk, pending_quiet, tap_quiet, hist_quiet, caps_quiet]

@[simp] theorem State.sampleChan_quiet (s : State) (raw : Nat) (c : Nat) : (State.sampleChan s raw c).quiet = s.quiet := by
  simp [State.sampleChan, quiet_mk, pending_quiet, tap_quiet, hist_quiet, caps_quiet]

@[simp] theorem State.openPresence_quiet (s : State) : (State.openPresence s).quiet = s.quiet := by
  simp [State.openPresence, quiet_mk, pending_quiet, tap_quiet, hist_quiet, caps_quiet]

@[simp] theorem State.closePresence_quiet (s : State) : (State.closePresence s).quiet = s.quiet := by
  simp [State.closePresence, quiet_mk, pending_quiet, tap_quiet, hist_quiet, caps_quiet]

@[simp] theorem State.cfgCommit_quiet (s : State) : (State.cfgCommit s).quiet = s.quiet := by
  simp [State.cfgCommit, quiet_mk, pending_quiet, tap_quiet, hist_quiet, caps_quiet]

@[simp] theorem State.resetReq_quiet (s : State) : (State.resetReq s).quiet = s.quiet := by
  simp [State.resetReq, quiet_mk, pending_quiet, tap_quiet, hist_quiet, caps_quiet]

@[simp] theorem State.siuCmd_quiet (v : Nat) (s : State) : (State.siuCmd v s).quiet = s.quiet := by
  simp [State.siuCmd]

@[simp] theorem State.enterSiu_quiet (s : State) (st : Nat) : (State.enterSiu s st).quiet = s.quiet := by
  simp [State.enterSiu, quiet_mk, pending_quiet, tap_quiet, hist_quiet, caps_quiet]

@[simp] theorem State.leaveFault_quiet (s : State) : (State.leaveFault s).quiet = s.quiet := by
  simp [State.leaveFault]

@[simp] theorem State.markOut_quiet (s : State) (x : Nat) (code : Nat) : (State.markOut s x code).quiet = s.quiet := by
  simp [State.markOut]

@[simp] theorem State.unmarkOut_quiet (s : State) (x : Nat) : (State.unmarkOut s x).quiet = s.quiet := by
  simp [State.unmarkOut, quiet_mk, pending_quiet, tap_quiet, hist_quiet, caps_quiet]

@[simp] theorem State.internalFault_quiet (s : State) : (State.internalFault s).quiet = s.quiet := by
  simp [State.internalFault]

@[simp] theorem State.outputFault_quiet (s : State) : (State.outputFault s).quiet = s.quiet := by
  simp [State.outputFault]

@[simp] theorem State.degrade_quiet (s : State) : (State.degrade s).quiet = s.quiet := by
  simp [State.degrade, quiet_mk, pending_quiet, tap_quiet, hist_quiet, caps_quiet]

@[simp] theorem State.edmFault_quiet (s : State) : (State.edmFault s).quiet = s.quiet := by
  simp [State.edmFault]

@[simp] theorem State.siuQuench_quiet (s : State) : (State.siuQuench s).quiet = s.quiet := by
  simp [State.siuQuench, quiet_mk, pending_quiet, tap_quiet, hist_quiet, caps_quiet]

@[simp] theorem State.enterInput_quiet (s : State) (i : Nat) (st : Nat) : (State.enterInput s i st).quiet = s.quiet := by
  simp [State.enterInput, quiet_mk, pending_quiet, tap_quiet, hist_quiet, caps_quiet]

@[simp] theorem State.evalInput_quiet (s : State) (i : Nat) : (State.evalInput s i).quiet = s.quiet := by
  simp [State.evalInput]

@[simp] theorem State.placeInput_quiet (s : State) (i : Nat) : (State.placeInput s i).quiet = s.quiet := by
  simp [State.placeInput, quiet_mk, pending_quiet, tap_quiet, hist_quiet, caps_quiet]

@[simp] theorem State.evalInputs_quiet (s : State) : (State.evalInputs s).quiet = s.quiet := by
  simp [State.evalInputs, quiet_mk, pending_quiet, tap_quiet, hist_quiet, caps_quiet]

@[simp] theorem State.countGuard_quiet (s : State) (before : Bool) : (State.countGuard s before).quiet = s.quiet := by
  simp [State.countGuard]

@[simp] theorem State.bypass_quiet (s : State) : (State.bypass s).quiet = s.quiet := by
  simp [State.bypass]

@[simp] theorem State.evalHands_quiet (s : State) : (State.evalHands s).1.quiet = s.quiet := by
  simp only [State.evalHands]
  (repeat' first | (simp [quiet_mk, pending_quiet, tap_quiet, hist_quiet, caps_quiet]; done) | split)

@[simp] theorem State.readbacks_quiet (s : State) (e : SiuEnv) : (State.readbacks s e).quiet = s.quiet := by
  simp [State.readbacks, quiet_mk, pending_quiet, tap_quiet, hist_quiet, caps_quiet]

@[simp] theorem State.findings_quiet (s : State) (e : SiuEnv) : (State.findings s e).1.quiet = s.quiet := by
  simp [State.findings]

@[simp] theorem State.refuseReset_quiet (s : State) : (State.refuseReset s).quiet = s.quiet := by
  simp [State.refuseReset]

@[simp] theorem State.clearInput_quiet (s : State) (i : Nat) : (State.clearInput s i).quiet = s.quiet := by
  simp [State.clearInput, quiet_mk, pending_quiet, tap_quiet, hist_quiet, caps_quiet]

@[simp] theorem State.acceptClear_quiet (s : State) : (State.acceptClear s).quiet = s.quiet := by
  simp [State.acceptClear]

@[simp] theorem State.refuseAll_quiet (s : State) : (State.refuseAll s).quiet = s.quiet := by
  simp [State.refuseAll, quiet_mk, pending_quiet, tap_quiet, hist_quiet, caps_quiet]

@[simp] theorem State.decideReset_quiet (s : State) (e : SiuEnv) : (State.decideReset s e).quiet = s.quiet := by
  simp [State.decideReset, quiet_mk, pending_quiet, tap_quiet, hist_quiet, caps_quiet]

@[simp] theorem State.autoStart_quiet (s : State) (e : SiuEnv) (hands : Bool) : (State.autoStart s e hands).quiet = s.quiet := by
  simp [State.autoStart, quiet_mk, pending_quiet, tap_quiet, hist_quiet, caps_quiet]

@[simp] theorem State.vsafeLow_quiet (s : State) (e : SiuEnv) : (State.vsafeLow s e).quiet = s.quiet := by
  simp [State.vsafeLow]

@[simp] theorem State.siuDecide_quiet (s : State) (e : SiuEnv) (entered : Bool) (hands : Bool) : (State.siuDecide s e entered hands).quiet = s.quiet := by
  simp [State.siuDecide, quiet_mk, pending_quiet, tap_quiet, hist_quiet, caps_quiet]

@[simp] theorem State.siuEvaluate_quiet (s : State) (e : SiuEnv) : (State.siuEvaluate s e).quiet = s.quiet := by
  unfold State.siuEvaluate
  (repeat' split) <;> simp [*, quiet_mk, pending_quiet, tap_quiet, hist_quiet, caps_quiet]

@[simp] theorem State.enterOn_quiet (s : State) : (State.enterOn s).quiet = s.quiet := by
  simp [State.enterOn, quiet_mk, pending_quiet, tap_quiet, hist_quiet, caps_quiet]

@[simp] theorem State.setSensor_quiet (s : State) (n : Nat) (v : Sensor) : (State.setSensor s n v).quiet = s.quiet := by
  simp [State.setSensor, quiet_mk, pending_quiet, tap_quiet, hist_quiet, caps_quiet]

@[simp] theorem State.setFailed_quiet (s : State) (n : Nat) (b : Bool) : (State.setFailed s n b).quiet = s.quiet := by
  simp [State.setFailed]

@[simp] theorem State.showTemp_quiet (s : State) (n : Nat) (v : Int) (pending : Bool) (fit : Bool) : (State.showTemp s n v pending fit).quiet = s.quiet := by
  simp [State.showTemp]

@[simp] theorem State.readSensor_quiet (s : State) (n : Nat) (r : Reading) (bad : Bool) : (State.readSensor s n r bad).quiet = s.quiet := by
  simp [State.readSensor]

@[simp] theorem State.readSensors_quiet (s : State) (rs : List Reading) : (State.readSensors s rs).quiet = s.quiet := by
  simp [State.readSensors]

@[simp] theorem State.followState_quiet (s : State) (thr : Fd) (f : Fd) (src : Nat) (tc : Int) (inRun : Nat) (outRun : Nat) : (State.followState s thr f src tc inRun outRun).quiet = s.quiet := by
  simp [State.followState]

@[simp] theorem State.followStates_quiet (s : State) (tc : Int) : (State.followStates s tc).quiet = s.quiet := by
  simp [State.followStates, quiet_mk, pending_quiet, tap_quiet, hist_quiet, caps_quiet]

@[simp] theorem State.followRange_quiet (s : State) (n : Nat) : (State.followRange s n).quiet = s.quiet := by
  simp [State.followRange]

@[simp] theorem State.followRanges_quiet (s : State) : (State.followRanges s).quiet = s.quiet := by
  simp [State.followRanges]

@[simp] theorem State.shutdown_quiet (s : State) : (State.shutdown s).quiet = s.quiet := by
  simp [State.shutdown, quiet_mk, pending_quiet, tap_quiet, hist_quiet, caps_quiet]

@[simp] theorem State.followShutdown_quiet (s : State) : (State.followShutdown s).quiet = s.quiet := by
  simp [State.followShutdown, quiet_mk, pending_quiet, tap_quiet, hist_quiet, caps_quiet]

@[simp] theorem State.shutdownRelease_quiet (s : State) (at' : Nat) : (State.shutdownRelease s at').quiet = s.quiet := by
  simp [State.shutdownRelease, quiet_mk, pending_quiet, tap_quiet, hist_quiet, caps_quiet]

@[simp] theorem State.exchangeComp_quiet (s : State) : (State.exchangeComp s).quiet = s.quiet := by
  simp [State.exchangeComp, quiet_mk, pending_quiet, tap_quiet, hist_quiet, caps_quiet]

@[simp] theorem State.setTrim_quiet (s : State) (j : Nat) (v : Int) : (State.setTrim s j v).quiet = s.quiet := by
  simp [State.setTrim, quiet_mk, pending_quiet, tap_quiet, hist_quiet, caps_quiet]

@[simp] theorem State.compensate_quiet (s : State) : (State.compensate s).quiet = s.quiet := by
  unfold State.compensate
  (repeat' split) <;> simp [quiet_mk, pending_quiet, tap_quiet, hist_quiet, caps_quiet]

@[simp] theorem State.stepBand_quiet (s : State) (t : Nat) : (State.stepBand s t).quiet = s.quiet := by
  simp [State.stepBand]

@[simp] theorem State.kilnReading_quiet (s : State) (vf : List Nat) : (State.kilnReading s vf).quiet = s.quiet := by
  simp [State.kilnReading]

@[simp] theorem State.fenceFor_quiet (s : State) (n : Nat) : (State.fenceFor s n).quiet = s.quiet := by
  unfold State.fenceFor
  (repeat' split) <;> simp

@[simp] theorem State.act_quiet (s : State) (r : Raise) (sev : Nat) (entry : List Byte) : (State.act s r sev entry).quiet = s.quiet := by
  simp [State.act, quiet_mk, pending_quiet, tap_quiet, hist_quiet, caps_quiet]

@[simp] theorem State.setFirst_quiet (s : State) (r : Raise) (sev : Nat) : (State.setFirst s r sev).quiet = s.quiet := by
  simp [State.setFirst]

@[simp] theorem State.fltInj_quiet (v : Nat) (s : State) : (State.fltInj v s).quiet = s.quiet := by
  simp [State.fltInj]

@[simp] theorem State.swTrig_quiet (v : Nat) (s : State) : (State.swTrig v s).quiet = s.quiet := by
  simp [State.swTrig]

@[simp] theorem State.copyHist_quiet (s : State) (n : Nat) : (State.copyHist s n).quiet = s.quiet := by
  unfold State.copyHist
  (repeat' split) <;> simp

@[simp] theorem State.histSnap_quiet (s : State) : (State.histSnap s).quiet = s.quiet := by
  simp [State.histSnap]

@[simp] theorem State.svnCommit_quiet (s : State) : (State.svnCommit s).quiet = s.quiet := by
  simp [State.svnCommit]

@[simp] theorem State.keyRevoke_quiet (s : State) (mask : Nat) : (State.keyRevoke s mask).quiet = s.quiet := by
  simp [State.keyRevoke]

@[simp] theorem State.setCopy_quiet (s : State) (k : Nat) (c : Option Cask) : (State.setCopy s k c).quiet = s.quiet := by
  simp [State.setCopy, quiet_mk, pending_quiet, tap_quiet, hist_quiet, caps_quiet]

@[simp] theorem State.sealEnd_quiet (s : State) (st : Status) : (State.sealEnd s st).quiet = s.quiet := by
  simp [State.sealEnd, quiet_mk, pending_quiet, tap_quiet, hist_quiet, caps_quiet]

@[simp] theorem State.sealOp_quiet (s : State) (k : Nat) (c : Cask) (op : SealSt) : (State.sealOp s k c op).quiet = s.quiet := by
  simp [State.sealOp, quiet_mk, pending_quiet, tap_quiet, hist_quiet, caps_quiet]

@[simp] theorem State.sealTarget_quiet (s : State) : (State.sealTarget s).2.quiet = s.quiet := by
  simp only [State.sealTarget]
  (repeat' first | (simp; done) | split)

@[simp] theorem State.sealStart_quiet (s : State) : (State.sealStart s).quiet = s.quiet := by
  simp [State.sealStart]

@[simp] theorem State.sealRead_quiet (s : State) (k : Nat) (c : Cask) (same : Bool) : (State.sealRead s k c same).quiet = s.quiet := by
  simp [State.sealRead]

@[simp] theorem State.btuCtrl_quiet (v : Nat) (s : State) : (State.btuCtrl v s).quiet = s.quiet := by
  simp [State.btuCtrl]

@[simp] theorem State.domRefused_quiet (s : State) (d : Nat) : (State.domRefused s d).quiet = s.quiet := by
  simp [State.domRefused]

@[simp] theorem State.askFence_quiet (s : State) (d : Nat) : (State.askFence s d).quiet = s.quiet := by
  simp [State.askFence]

@[simp] theorem State.askLoad_quiet (s : State) (d : Nat) (update : Bool) : (State.askLoad s d update).quiet = s.quiet := by
  simp [State.askLoad]

@[simp] theorem State.askReturn_quiet (s : State) (d : Nat) : (State.askReturn s d).quiet = s.quiet := by
  simp [State.askReturn]

@[simp] theorem State.domCtrl_quiet (d : Nat) (v : Nat) (s : State) : (State.domCtrl d v s).quiet = s.quiet := by
  simp [State.domCtrl]

@[simp] theorem State.writeDomCtrl_quiet (s : State) (d : Nat) (v : Nat) : (State.writeDomCtrl s d v).quiet = s.quiet := by
  simp [State.writeDomCtrl]

@[simp] theorem State.startLoading_quiet (s : State) (d : Nat) : (State.startLoading s d).quiet = s.quiet := by
  simp [State.startLoading]

@[simp] theorem State.fenceTxns_quiet (s : State) (d : Nat) : (State.fenceTxns s d).quiet = s.quiet := by
  simp [State.fenceTxns]

@[simp] theorem State.enterFenced_quiet (s : State) (d : Nat) : (State.enterFenced s d).quiet = s.quiet := by
  simp [State.enterFenced]

@[simp] theorem State.endLoading_quiet (s : State) (d : Nat) (ok : Bool) : (State.endLoading s d ok).quiet = s.quiet := by
  simp only [State.endLoading]
  (repeat' first | (simp; done) | split)

@[simp] theorem State.serviceDom_quiet (s : State) (d : Nat) : (State.serviceDom s d).quiet = s.quiet := by
  simp only [State.serviceDom]
  (repeat' first | (simp; done) | split)

@[simp] theorem State.serviceMarker_quiet (s : State) : (State.serviceMarker s).quiet = s.quiet := by
  simp [State.serviceMarker]

@[simp] theorem State.scrubbed_quiet (s : State) (p : Nat × Bool) : (State.scrubbed s p).quiet = s.quiet := by
  simp [State.scrubbed]

@[simp] theorem State.setRetiring_quiet (s : State) (k : Nat) (b : Bool) : (State.setRetiring s k b).quiet = s.quiet := by
  simp [State.setRetiring]

@[simp] theorem State.endLoad_quiet (s : State) (src : Src) : (State.endLoad s src).quiet = s.quiet := by
  unfold State.endLoad
  (repeat' split) <;> simp

@[simp] theorem State.busError_quiet (s : State) (r : MtxReq) : (State.busError s r).quiet = s.quiet := by
  unfold State.busError
  (repeat' split) <;> simp

@[simp] theorem State.poolBeat_quiet (s : State) (i : Nat) (b : Beat) : (State.poolBeat s i b).quiet = s.quiet := by
  simp [State.poolBeat, quiet_mk, pending_quiet, tap_quiet, hist_quiet, caps_quiet]

@[simp] theorem State.writeBeat_quiet (s : State) (a : Nat) (b : Beat) : (State.writeBeat s a b).quiet = s.quiet := by
  simp [State.writeBeat]

@[simp] theorem State.writeBeats_quiet (s : State) (r : MtxReq) : (State.writeBeats s r).quiet = s.quiet := by
  simp [State.writeBeats]

@[simp] theorem State.meet_quiet (s : State) (p : Nat × Bool) : (State.meet s p).quiet = s.quiet := by
  simp [State.meet]

@[simp] theorem State.serveBurst_quiet (s : State) (r : MtxReq) : (State.serveBurst s r).1.quiet = s.quiet := by
  simp only [State.serveBurst]
  (repeat' first | (simp; done) | split)

@[simp] theorem State.serveBursts_quiet (s : State) (l : List MtxReq) : (s.serveBursts l).1.quiet = s.quiet := by
  unfold State.serveBursts
  generalize ([] : List MtxReq) = e
  induction l generalizing s e with
  | nil => rfl
  | cons r l ih => rw [List.foldl_cons, ih]; simp

@[simp] theorem State.answerBurst_quiet (k : Nat) (errs : List MtxReq) (s : State) (r : MtxReq) : (State.answerBurst k errs s r).quiet = s.quiet := by
  simp [State.answerBurst]

@[simp] theorem State.tapShift_quiet (s : State) : (State.tapShift s).quiet = s.quiet := by
  unfold State.tapShift
  (repeat' split) <;> simp [quiet_mk, pending_quiet, tap_quiet, hist_quiet, caps_quiet]

@[simp] theorem State.parkStop_quiet (s : State) : (State.parkStop s).quiet = s.quiet := by
  simp [State.parkStop]

@[simp] theorem State.overdue_quiet (s : State) (m : Nat) (t : Nat) : (State.overdue s m t).quiet = s.quiet := by
  simp [State.overdue]

@[simp] theorem State.countFrame_quiet (s : State) (t : Nat) : (State.countFrame s t).quiet = s.quiet := by
  simp [State.countFrame]

@[simp] theorem State.overlapClose_quiet (s : State) (t : Nat) : (State.overlapClose s t).quiet = s.quiet := by
  simp [State.overlapClose]

@[simp] theorem State.spanMarker_quiet (s : State) (t : Nat) : (s.spanMarker t).quiet = s.quiet := by
  unfold State.spanMarker
  dsimp only []
  (repeat' split) <;> simp

@[simp] theorem State.clearMarker_quiet (s : State) (t : Nat) : (State.clearMarker s t).quiet = s.quiet := by
  simp [State.clearMarker]

@[simp] theorem State.freezeBank_quiet (s : State) (t : Nat) (k : Nat) : (State.freezeBank s t k).quiet = s.quiet := by
  simp [State.freezeBank]

@[simp] theorem State.freezeTile_quiet (s : State) (t : Nat) : (State.freezeTile s t).quiet = s.quiet := by
  simp [State.freezeTile]

@[simp] theorem State.trueTxn_quiet (s : State) (i : Nat) : (State.trueTxn s i).quiet = s.quiet := by
  simp only [State.trueTxn]
  (repeat' first | (simp [quiet_mk, pending_quiet, tap_quiet, hist_quiet, caps_quiet]; done) | split)

@[simp] theorem State.swapTile_quiet (s : State) (t : Nat) : (State.swapTile s t).quiet = s.quiet := by
  simp [State.swapTile]

@[simp] theorem State.lanesMarker_quiet (s : State) (t : Nat) (prev : Tab Nat) (old : Tile) : (State.lanesMarker s t prev old).quiet = s.quiet := by
  simp only [State.lanesMarker]
  (repeat' first | (simp; done) | split)

@[simp] theorem State.verifyMarker_quiet (s : State) (t : Nat) : (State.verifyMarker s t).quiet = s.quiet := by
  simp [State.verifyMarker]

@[simp] theorem State.markerFirst_quiet (s : State) (t : Nat) : (State.markerFirst s t).quiet = s.quiet := by
  simp [State.markerFirst]

@[simp] theorem State.markerFreeze_quiet (s : State) (t : Nat) : (State.markerFreeze s t).quiet = s.quiet := by
  simp [State.markerFreeze]

@[simp] theorem State.markerLanes_quiet (old s : State) (t : Nat) : (State.markerLanes old s t).quiet = s.quiet := by
  unfold State.markerLanes
  simp [apply_ite State.quiet]

@[simp] theorem State.ownMarker_quiet (s : State) : (State.ownMarker s).quiet = s.quiet := by
  simp [State.ownMarker, quiet_mk, pending_quiet, tap_quiet, hist_quiet, caps_quiet]

@[simp] theorem State.frameMarker_quiet (s : State) : s.frameMarker.quiet = s.quiet := by
  unfold State.frameMarker
  extract_lets old m s0 s1 s2 s3 s4 s5 s6 s7
  have h1 : s1.quiet = s.quiet := by simp [s1, s0, quiet_mk, pending_quiet, tap_quiet, hist_quiet, caps_quiet]
  have h4 : s4.quiet = s.quiet := by simp only [s4, s3, s2, apply_ite State.quiet]; simp [h1]
  split
  · simp [h1]
  · simp [s7, s6, s5, h4]

@[simp] theorem State.idle_quiet (s : State) : (State.idle s).quiet = s.quiet := by
  simp [State.idle]

@[simp] theorem State.holeAccess_quiet (s : State) (sup : Bool) (write : Bool) (o : Nat) : (State.holeAccess s sup write o).quiet = s.quiet := by
  simp [State.holeAccess]

@[simp] theorem State.endCauses_quiet (s : State) (o : Nat) : (State.endCauses s o).quiet = s.quiet := by
  simp [State.endCauses]

@[simp] theorem State.toutCtrl_quiet (n : Nat) (v : Nat) (s : State) : (State.toutCtrl n v s).quiet = s.quiet := by
  simp [State.toutCtrl]

@[simp] theorem State.afterWrite_quiet (b : State) (o v : Nat) (s : State) : (State.afterWrite b o v s).quiet = s.quiet := by
  unfold State.afterWrite
  repeat' split
  all_goals first | rfl | (simp; done) | (simp [apply_ite State.quiet]; done) | (simp [quiet_mk, pending_quiet, tap_quiet, hist_quiet, caps_quiet]; done)

@[simp] theorem State.snsCtrl_quiet (s : State) (o : Nat) (v : Nat) : (State.snsCtrl s o v).quiet = s.quiet := by
  simp [State.snsCtrl]

@[simp] theorem State.mtxCtrl_quiet (s : State) (sup : Bool) (o : Nat) (v : Nat) : (State.mtxCtrl s sup o v).quiet = s.quiet := by
  simp [State.mtxCtrl]

@[simp] theorem State.barWrite_quiet (s : State) (sup : Bool) (o : Nat) (v : Nat) : (State.barWrite s sup o v).quiet = s.quiet := by
  simp [State.barWrite]

@[simp] theorem State.writeKick_quiet (s : State) (v : Nat) : (State.writeKick s v).quiet = s.quiet := by
  simp [State.writeKick, quiet_mk, pending_quiet, tap_quiet, hist_quiet, caps_quiet]

@[simp] theorem State.writeMsix_quiet (s : State) (n : Nat) (k : Nat) (v : Nat) : (State.writeMsix s n k v).quiet = s.quiet := by
  simp [State.writeMsix, quiet_mk, pending_quiet, tap_quiet, hist_quiet, caps_quiet]

@[simp] theorem State.kickWrite_quiet (s : State) (o : Nat) (v : Nat) : (State.kickWrite s o v).quiet = s.quiet := by
  simp [State.kickWrite]

@[simp] theorem State.setShadow_quiet (s : State) (sup : Bool) (o : Nat) (v : Nat) : (State.setShadow s sup o v).quiet = s.quiet := by
  simp [State.setShadow, quiet_mk, pending_quiet, tap_quiet, hist_quiet, caps_quiet]

@[simp] theorem State.latch_quiet (s : State) (sup : Bool) (o : Nat) : (State.latch s sup o).quiet = s.quiet := by
  simp [State.latch]

@[simp] theorem State.clearRc_quiet (s : State) (o : Nat) : (State.clearRc s o).quiet = s.quiet := by
  simp [State.clearRc, quiet_mk, pending_quiet, tap_quiet, hist_quiet, caps_quiet]

end Sys2Proof.Machine
end

