-- ==== Sys2Proof/Laws/Tab.lean ====
section
/-! SUPPORT. The laws of sparse tables: a read after a write, and the canonical form kept by every write. -/

namespace Sys2Proof.Machine

@[simp] theorem Tab.read_nil {α : Type} (d : α) (k : Nat) : Tab.read d k [] = d := rfl

theorem Tab.read_without_same {α : Type} (d : α) (k : Nat) (t : Tab α) : (t.without k).read d k = d := by
  induction t with
  | nil => rfl
  | cons p r ih =>
    obtain ⟨k', v⟩ := p
    simp only [Tab.without]
    split
    · exact ih
    · next h => simp [Tab.read, Ne.symm h, ih]

theorem Tab.read_without_ne {α : Type} (d : α) {k j : Nat} (hj : j ≠ k) (t : Tab α) : (t.without k).read d j = t.read d j := by
  induction t with
  | nil => rfl
  | cons p r ih =>
    obtain ⟨k', v⟩ := p
    simp only [Tab.without]
    split
    · next h => simp [Tab.read, h, hj, ih]
    · simp only [Tab.read, ih]

theorem Tab.read_insert_same {α : Type} (d : α) (k : Nat) (v : α) (t : Tab α) : ((t.without k).insert k v).read d k = v := by
  induction t with
  | nil => simp [Tab.without, Tab.insert, Tab.read]
  | cons p r ih =>
    obtain ⟨k', v'⟩ := p
    simp only [Tab.without]
    split
    · exact ih
    · next h =>
      simp only [Tab.insert]
      split
      · simp [Tab.read]
      · simp [Tab.read, Ne.symm h, ih]

theorem Tab.read_insert_ne {α : Type} (d : α) {k j : Nat} (hj : j ≠ k) (v : α) (t : Tab α) : (t.insert k v).read d j = t.read d j := by
  induction t with
  | nil => simp [Tab.insert, Tab.read, hj]
  | cons p r ih =>
    obtain ⟨k', v'⟩ := p
    simp only [Tab.insert]
    split
    · simp [Tab.read, hj]
    · simp only [Tab.read, ih]

/-- A read after a write to the same key gives the value written. -/
@[simp] theorem Tab.read_write_same {α : Type} [DecidableEq α] (d : α) (k : Nat) (v : α) (t : Tab α) : (t.write d k v).read d k = v := by
  unfold Tab.write
  split
  · next h => rw [h, Tab.read_without_same]
  · exact Tab.read_insert_same d k v t

/-- A write leaves every other key alone. -/
theorem Tab.read_write_ne {α : Type} [DecidableEq α] (d e : α) {k j : Nat} (hj : j ≠ k) (v : α) (t : Tab α) :
    (t.write e k v).read d j = t.read d j := by
  unfold Tab.write
  split
  · exact Tab.read_without_ne d hj t
  · rw [Tab.read_insert_ne d hj, Tab.read_without_ne d hj]

/-- A read after a write, at any key. -/
theorem Tab.read_write {α : Type} [DecidableEq α] (d : α) (k j : Nat) (v : α) (t : Tab α) :
    (t.write d k v).read d j = if j = k then v else t.read d j := by
  split
  · next h => rw [h, Tab.read_write_same]
  · next h => exact Tab.read_write_ne d d h v t

theorem Tab.wfFrom_mono {α : Type} [DecidableEq α] {d : Nat → α} {lo lo' : Nat} {t : Tab α} (h : Tab.wfFrom d lo' t) (hl : lo ≤ lo') :
    Tab.wfFrom d lo t := by
  cases t with
  | nil => rfl
  | cons p r =>
    obtain ⟨k, v⟩ := p
    simp only [Tab.wfFrom, Bool.and_eq_true, decide_eq_true_eq] at h ⊢
    exact ⟨⟨by omega, h.1.2⟩, h.2⟩

theorem Tab.wfFrom_without {α : Type} [DecidableEq α] {d : Nat → α} {lo : Nat} {t : Tab α} (h : Tab.wfFrom d lo t) (k : Nat) :
    Tab.wfFrom d lo (t.without k) := by
  induction t generalizing lo with
  | nil => rfl
  | cons p r ih =>
    obtain ⟨k', v⟩ := p
    simp only [Tab.wfFrom, Bool.and_eq_true, decide_eq_true_eq] at h
    simp only [Tab.without]
    split
    · exact Tab.wfFrom_mono (ih h.2) (by omega)
    · simp [Tab.wfFrom, h.1, ih h.2]

theorem Tab.wfFrom_insert {α : Type} [DecidableEq α] {d : Nat → α} {lo : Nat} {t : Tab α} (h : Tab.wfFrom d lo t) {k : Nat} (hk : lo ≤ k)
    {v : α} (hv : v ≠ d k) : Tab.wfFrom d lo ((t.without k).insert k v) := by
  induction t generalizing lo with
  | nil => simp [Tab.without, Tab.insert, Tab.wfFrom, hk, hv]
  | cons p r ih =>
    obtain ⟨k', v'⟩ := p
    simp only [Tab.wfFrom, Bool.and_eq_true, decide_eq_true_eq] at h
    simp only [Tab.without]
    split
    · next e => exact ih (Tab.wfFrom_mono h.2 (by omega)) hk
    · next e =>
      simp only [Tab.insert]
      split
      · next h1 =>
        have h2 : Tab.wfFrom d (k' + 1) (Tab.without k r) := Tab.wfFrom_without h.2 k
        have h3 : k + 1 ≤ k' := h1
        simp [Tab.wfFrom, hk, hv, h3, h.1.2, h2]
      · next h1 =>
        have h2 : Tab.wfFrom d (k' + 1) ((Tab.without k r).insert k v) := ih h.2 (by omega)
        simp [Tab.wfFrom, h.1.1, h.1.2, h2]

/-- A write keeps the canonical form. -/
theorem Tab.wf_write {α : Type} [DecidableEq α] {d : Nat → α} {t : Tab α} (h : t.wf d) (k : Nat) (v : α) : (t.write (d k) k v).wf d := by
  unfold Tab.write
  split
  · exact Tab.wfFrom_without h k
  · next hv => exact Tab.wfFrom_insert h (Nat.zero_le k) hv

end Sys2Proof.Machine
end

