-- ==== Sys2Proof/Laws/Regs.lean ====
section
/-! SUPPORT. The laws of bit fields and of the register file: a field reads what was written, in its width, and a write leaves every
other register, and every other field of the same register, alone. -/

namespace Sys2Proof.Machine

/-! ### Bit fields -/

theorem getBits_lt (x lo wd : Nat) : getBits x lo wd < 2 ^ wd := Nat.mod_lt _ (Nat.two_pow_pos wd)

/-- A field reads back in its width. -/
theorem getBits_setBits_same (x lo wd v : Nat) : getBits (setBits x lo wd v) lo wd = v % 2 ^ wd := by
  unfold getBits setBits
  have h : x / 2 ^ (lo + wd) * 2 ^ (lo + wd) + v % 2 ^ wd * 2 ^ lo + x % 2 ^ lo =
      (x / 2 ^ (lo + wd) * 2 ^ wd + v % 2 ^ wd) * 2 ^ lo + x % 2 ^ lo := by
    rw [Nat.add_mul, Nat.mul_assoc, ← Nat.pow_add, Nat.add_comm wd lo]
  rw [h, Nat.add_comm, Nat.add_mul_div_right _ _ (Nat.two_pow_pos lo), Nat.div_eq_of_lt (Nat.mod_lt _ (Nat.two_pow_pos lo)),
    Nat.zero_add, Nat.add_comm, Nat.add_mul_mod_self_right, Nat.mod_mod]

/-- A word with a field set stays a word. -/
theorem setBits_lt {x lo wd n : Nat} (v : Nat) (hx : x < 2 ^ n) (h : lo + wd ≤ n) : setBits x lo wd v < 2 ^ n := by
  unfold setBits
  have h1 : v % 2 ^ wd * 2 ^ lo + x % 2 ^ lo < 2 ^ (lo + wd) := by
    have a := Nat.mod_lt v (Nat.two_pow_pos wd)
    have b := Nat.mod_lt x (Nat.two_pow_pos lo)
    calc v % 2 ^ wd * 2 ^ lo + x % 2 ^ lo < v % 2 ^ wd * 2 ^ lo + 2 ^ lo := by omega
      _ = (v % 2 ^ wd + 1) * 2 ^ lo := by rw [Nat.add_mul, Nat.one_mul]
      _ ≤ 2 ^ wd * 2 ^ lo := Nat.mul_le_mul_right _ a
      _ = 2 ^ (lo + wd) := by rw [← Nat.pow_add, Nat.add_comm]
  have h2 : x / 2 ^ (lo + wd) < 2 ^ (n - (lo + wd)) := by
    rw [Nat.div_lt_iff_lt_mul (Nat.two_pow_pos _), ← Nat.pow_add]
    have : n - (lo + wd) + (lo + wd) = n := by omega
    rwa [this]
  calc x / 2 ^ (lo + wd) * 2 ^ (lo + wd) + v % 2 ^ wd * 2 ^ lo + x % 2 ^ lo
      < x / 2 ^ (lo + wd) * 2 ^ (lo + wd) + 2 ^ (lo + wd) := by omega
    _ = (x / 2 ^ (lo + wd) + 1) * 2 ^ (lo + wd) := by rw [Nat.add_mul, Nat.one_mul]
    _ ≤ 2 ^ (n - (lo + wd)) * 2 ^ (lo + wd) := Nat.mul_le_mul_right _ h2
    _ = 2 ^ n := by rw [← Nat.pow_add]; congr 1; omega

/-- A field below the one that was set. -/
theorem getBits_setBits_below {x lo wd v a w : Nat} (h : a + w ≤ lo) : getBits (setBits x lo wd v) a w = getBits x a w := by
  unfold getBits setBits
  obtain ⟨k, rfl⟩ : ∃ k, lo = a + w + k := ⟨lo - (a + w), by omega⟩
  have e : ∀ y z : Nat, (y * 2 ^ (a + w + k) + z) / 2 ^ a % 2 ^ w = z / 2 ^ a % 2 ^ w := by
    intro y z
    have : y * 2 ^ (a + w + k) = (y * 2 ^ k * 2 ^ w) * 2 ^ a := by
      rw [Nat.mul_assoc, Nat.mul_assoc, ← Nat.pow_add, ← Nat.pow_add]
      congr 2
      omega
    rw [this, Nat.add_comm, Nat.add_mul_div_right _ _ (Nat.two_pow_pos a), Nat.add_mul_mod_self_right]
  have e1 : x / 2 ^ (a + w + k + wd) * 2 ^ (a + w + k + wd) + v % 2 ^ wd * 2 ^ (a + w + k) + x % 2 ^ (a + w + k) =
      (x / 2 ^ (a + w + k + wd) * 2 ^ wd + v % 2 ^ wd) * 2 ^ (a + w + k) + x % 2 ^ (a + w + k) := by
    rw [Nat.add_mul, Nat.mul_assoc, ← Nat.pow_add, Nat.add_comm wd]
  have e2 : x = x / 2 ^ (a + w + k) * 2 ^ (a + w + k) + x % 2 ^ (a + w + k) := by
    rw [Nat.mul_comm]
    exact (Nat.div_add_mod _ _).symm
  rw [e1, e]
  conv => rhs; rw [e2, e]

/-- A field above the one that was set. -/
theorem getBits_setBits_above {x lo wd v a w : Nat} (h : lo + wd ≤ a) : getBits (setBits x lo wd v) a w = getBits x a w := by
  unfold getBits setBits
  obtain ⟨k, rfl⟩ : ∃ k, a = lo + wd + k := ⟨a - (lo + wd), by omega⟩
  congr 1
  have h1 : v % 2 ^ wd * 2 ^ lo + x % 2 ^ lo < 2 ^ (lo + wd) := by
    have a := Nat.mod_lt v (Nat.two_pow_pos wd)
    have b := Nat.mod_lt x (Nat.two_pow_pos lo)
    calc v % 2 ^ wd * 2 ^ lo + x % 2 ^ lo < v % 2 ^ wd * 2 ^ lo + 2 ^ lo := by omega
      _ = (v % 2 ^ wd + 1) * 2 ^ lo := by rw [Nat.add_mul, Nat.one_mul]
      _ ≤ 2 ^ wd * 2 ^ lo := Nat.mul_le_mul_right _ a
      _ = 2 ^ (lo + wd) := by rw [← Nat.pow_add, Nat.add_comm]
  rw [Nat.add_assoc, Nat.pow_add 2 (lo + wd) k, ← Nat.div_div_eq_div_mul, ← Nat.div_div_eq_div_mul]
  congr 1
  rw [Nat.add_comm, Nat.add_mul_div_right _ _ (Nat.two_pow_pos _), Nat.div_eq_of_lt h1, Nat.zero_add]

/-! ### The register file -/

@[simp] theorem State.word_setWord (s : State) (o : Nat) (w : Word) : (s.setWord o w).word o = w := by
  simp [State.word, State.setWord]

theorem State.word_setWord_ne (s : State) {o o' : Nat} (h : o' ≠ o) (w : Word) : (s.setWord o w).word o' = s.word o' := by
  simp [State.word, State.setWord, Tab.read_write_ne _ _ h]

/-- The field lies inside its 32-bit word. -/
abbrev Fd.fits (f : Fd) : Prop := f.lo + f.wd ≤ 32

theorem State.word_setReg (s : State) (f : Fd) (i v : Nat) :
    (s.setReg f i v).word (f.offAt i) = BitVec.ofNat 32 (setBits (s.word (f.offAt i)).toNat f.lo f.wd v) := by
  simp [State.setReg]

/-- A field reads what was written, in its width. -/
theorem State.reg_setReg (s : State) (f : Fd) (i v : Nat) (hf : f.fits) : (s.setReg f i v).reg f i = v % 2 ^ f.wd := by
  unfold State.reg
  rw [State.word_setReg, BitVec.toNat_ofNat, Nat.mod_eq_of_lt (setBits_lt v (s.word (f.offAt i)).isLt hf), getBits_setBits_same]

/-- A write of a field leaves the fields of every other register alone. -/
theorem State.reg_setReg_ne (s : State) (f g : Fd) (i j v : Nat) (h : g.offAt j ≠ f.offAt i) : (s.setReg f i v).reg g j = s.reg g j := by
  unfold State.reg State.setReg
  rw [State.word_setWord_ne _ h]

/-- A write of a field leaves the other fields of its register alone. -/
theorem State.reg_setReg_other (s : State) (f g : Fd) (i j v : Nat) (hf : f.fits) (ho : g.offAt j = f.offAt i)
    (h : g.lo + g.wd ≤ f.lo ∨ f.lo + f.wd ≤ g.lo) : (s.setReg f i v).reg g j = s.reg g j := by
  unfold State.reg
  rw [ho, State.word_setReg, BitVec.toNat_ofNat, Nat.mod_eq_of_lt (setBits_lt v (s.word (f.offAt i)).isLt hf)]
  rcases h with h | h
  · rw [getBits_setBits_below h]
  · rw [getBits_setBits_above h]

/-- Only the registers change. -/
theorem State.setReg_eq (s : State) (f : Fd) (i v : Nat) : s.setReg f i v = { s with regs := (s.setReg f i v).regs } := rfl

theorem State.count_eq (s : State) (f : Fd) (i n : Nat) : s.count f i n = { s with regs := (s.count f i n).regs } := by
  unfold State.count
  split <;> rfl

/-- A counter rises by n and stops at its largest value. -/
theorem State.reg_count (s : State) (f : Fd) (i n : Nat) (hf : f.fits) :
    (s.count f i n).reg f i = if n = 0 then s.reg f i else min (2 ^ f.wd - 1) (s.reg f i + n) := by
  unfold State.count
  split
  · rfl
  · rw [State.reg_setReg _ _ _ _ hf, Nat.mod_eq_of_lt]
    have := Nat.two_pow_pos f.wd
    omega

theorem State.reg_inc (s : State) (f : Fd) (i : Nat) (hf : f.fits) :
    (s.inc f i).reg f i = min (2 ^ f.wd - 1) (s.reg f i + 1) := by
  unfold State.inc
  rw [State.reg_count _ _ _ _ hf]
  simp

/-- Raising leaves every register alone. -/
@[simp] theorem State.raise_regs (s : State) (n info : Nat) : (s.raise n info).regs = s.regs := by
  unfold State.raise State.raiseEv
  repeat' split
  all_goals rfl

@[simp] theorem State.raise_reg (s : State) (n info : Nat) (f : Fd) (i : Nat) : (s.raise n info).reg f i = s.reg f i := by
  unfold State.reg State.word
  rw [State.raise_regs]

@[simp] theorem State.send_reg (s : State) (m : OutMsg) (f : Fd) (i : Nat) : (s.send m).reg f i = s.reg f i := rfl

end Sys2Proof.Machine
end

