-- ==== Sys2Proof/Laws/Sram.lean ====
section
/-! SUPPORT. The laws of the internal memories' bytes: a read after a write, and the canonical form kept by every write. -/

namespace Sys2Proof.Machine

@[simp] theorem Sram.get_put_same (m : Sram) (a : Nat) (v : BitVec 8) : (m.put a v).get a = some v := by
  induction m with
  | nil => simp [Sram.put, Sram.get]
  | cons c m ih =>
    obtain ⟨b, w⟩ := c
    simp only [Sram.put]
    split
    · simp [Sram.get]
    · split
      · simp [Sram.get]
      · next h => simp [Sram.get, Ne.symm h, ih]

theorem Sram.get_put_ne (m : Sram) {a b : Nat} (h : b ≠ a) (v : BitVec 8) : (m.put a v).get b = m.get b := by
  induction m with
  | nil => simp [Sram.put, Sram.get, Ne.symm h]
  | cons c m ih =>
    obtain ⟨d, w⟩ := c
    simp only [Sram.put]
    split
    · simp [Sram.get, Ne.symm h]
    · split
      · next e => subst e; simp [Sram.get, Ne.symm h]
      · simp [Sram.get, ih]

theorem Sram.all_put {m : Sram} {p : Host.Cell → Bool} (h : m.all p = true) {a : Nat} {v : BitVec 8} (ha : p (a, v) = true) :
    (m.put a v).all p = true := by
  induction m with
  | nil => simpa [Sram.put] using ha
  | cons c m ih =>
    obtain ⟨b, w⟩ := c
    rw [List.all_cons, Bool.and_eq_true] at h
    simp only [Sram.put]
    split
    · simp only [List.all_cons, Bool.and_eq_true]; exact ⟨ha, h.1, h.2⟩
    · split
      · simp only [List.all_cons, Bool.and_eq_true]; exact ⟨ha, h.2⟩
      · simp only [List.all_cons, Bool.and_eq_true]; exact ⟨h.1, ih h.2⟩

/-- A write keeps the addresses rising. -/
theorem Sram.wf_put {m : Sram} (h : m.wf = true) (a : Nat) (v : BitVec 8) : (m.put a v).wf = true := by
  induction m with
  | nil => rfl
  | cons c m ih =>
    obtain ⟨b, w⟩ := c
    simp only [Sram.wf, Bool.and_eq_true] at h
    simp only [Sram.put]
    split
    · next hab =>
      simp only [Sram.wf, List.all_cons, Bool.and_eq_true, decide_eq_true_eq]
      refine ⟨⟨hab, ?_⟩, h.1, h.2⟩
      rw [List.all_eq_true] at h ⊢
      intro x hx
      have := h.1 x hx
      simp only [decide_eq_true_eq] at this ⊢
      omega
    · next hab =>
      split
      · next e => subst e; simpa only [Sram.wf, Bool.and_eq_true] using h
      · next e =>
        simp only [Sram.wf, Bool.and_eq_true]
        exact ⟨Sram.all_put h.1 (by simp only [decide_eq_true_eq]; omega), ih h.2⟩

end Sys2Proof.Machine
end

