-- ==== Sys2Proof/Laws/State.lean ====
section
/-! SUPPORT. One lemma per field and update: what an update of the state leaves alone, so that no proof unfolds a record update. -/

namespace Sys2Proof.Machine

@[simp] theorem State.send_out (s : State) (m : OutMsg) : (s.send m).out = m :: s.out := rfl
@[simp] theorem State.advance_dt (s : State) (n : Nat) : (s.advance n).dt = s.dt + n := rfl
@[simp] theorem State.advance_tick (s : State) (n : Nat) : (s.advance n).tick = s.tick + n := rfl
theorem State.advanceTo_dt (s : State) (t : Nat) : (s.advanceTo t).dt = max s.dt t := by
  unfold State.advanceTo
  split
  · next h => exact (Nat.max_eq_right (Nat.le_of_lt h)).symm
  · next h => exact (Nat.max_eq_left (Nat.le_of_not_lt h)).symm
@[simp] theorem State.tile_setTile (s : State) (t : Nat) (v : Tile) : (s.setTile t v).tile t = v := by
  simp [State.tile, State.setTile]
theorem State.tile_setTile_ne (s : State) {t u : Nat} (h : u ≠ t) (v : Tile) : (s.setTile t v).tile u = s.tile u := by
  simp [State.tile, State.setTile, Tab.read_write_ne _ _ h]

/-! setWord -/
@[simp] theorem State.setWord_pending (s : State) (o : Nat) (w : Word) : (s.setWord o w).pending = s.pending := rfl
@[simp] theorem State.setWord_free (s : State) (o : Nat) (w : Word) : (s.setWord o w).free = s.free := rfl
@[simp] theorem State.setWord_dt (s : State) (o : Nat) (w : Word) : (s.setWord o w).dt = s.dt := rfl
@[simp] theorem State.setWord_tick (s : State) (o : Nat) (w : Word) : (s.setWord o w).tick = s.tick := rfl
@[simp] theorem State.setWord_eff (s : State) (o : Nat) (w : Word) : (s.setWord o w).eff = s.eff := rfl
@[simp] theorem State.setWord_shadow (s : State) (o : Nat) (w : Word) : (s.setWord o w).shadow = s.shadow := rfl
@[simp] theorem State.setWord_pins (s : State) (o : Nat) (w : Word) : (s.setWord o w).pins = s.pins := rfl
@[simp] theorem State.setWord_marker (s : State) (o : Nat) (w : Word) : (s.setWord o w).marker = s.marker := rfl
@[simp] theorem State.setWord_started (s : State) (o : Nat) (w : Word) : (s.setWord o w).started = s.started := rfl
@[simp] theorem State.setWord_tiles (s : State) (o : Nat) (w : Word) : (s.setWord o w).tiles = s.tiles := rfl
@[simp] theorem State.setWord_swaps (s : State) (o : Nat) (w : Word) : (s.setWord o w).swaps = s.swaps := rfl
@[simp] theorem State.setWord_fab (s : State) (o : Nat) (w : Word) : (s.setWord o w).fab = s.fab := rfl
@[simp] theorem State.setWord_txn (s : State) (o : Nat) (w : Word) : (s.setWord o w).txn = s.txn := rfl
@[simp] theorem State.setWord_flt (s : State) (o : Nat) (w : Word) : (s.setWord o w).flt = s.flt := rfl
@[simp] theorem State.setWord_tmu (s : State) (o : Nat) (w : Word) : (s.setWord o w).tmu = s.tmu := rfl
@[simp] theorem State.setWord_cal (s : State) (o : Nat) (w : Word) : (s.setWord o w).cal = s.cal := rfl
@[simp] theorem State.setWord_adm (s : State) (o : Nat) (w : Word) : (s.setWord o w).adm = s.adm := rfl
@[simp] theorem State.setWord_hif (s : State) (o : Nat) (w : Word) : (s.setWord o w).hif = s.hif := rfl
@[simp] theorem State.setWord_cpx (s : State) (o : Nat) (w : Word) : (s.setWord o w).cpx = s.cpx := rfl
@[simp] theorem State.setWord_twn (s : State) (o : Nat) (w : Word) : (s.setWord o w).twn = s.twn := rfl
@[simp] theorem State.setWord_siu (s : State) (o : Nat) (w : Word) : (s.setWord o w).siu = s.siu := rfl
@[simp] theorem State.setWord_kln (s : State) (o : Nat) (w : Word) : (s.setWord o w).kln = s.kln := rfl
@[simp] theorem State.setWord_btu (s : State) (o : Nat) (w : Word) : (s.setWord o w).btu = s.btu := rfl
@[simp] theorem State.setWord_tap (s : State) (o : Nat) (w : Word) : (s.setWord o w).tap = s.tap := rfl
@[simp] theorem State.setWord_mtx (s : State) (o : Nat) (w : Word) : (s.setWord o w).mtx = s.mtx := rfl
@[simp] theorem State.setWord_out (s : State) (o : Nat) (w : Word) : (s.setWord o w).out = s.out := rfl

/-! setReg -/
@[simp] theorem State.setReg_pending (s : State) (f : Fd) (i v : Nat) : (s.setReg f i v).pending = s.pending := State.setWord_pending s _ _
@[simp] theorem State.setReg_free (s : State) (f : Fd) (i v : Nat) : (s.setReg f i v).free = s.free := State.setWord_free s _ _
@[simp] theorem State.setReg_dt (s : State) (f : Fd) (i v : Nat) : (s.setReg f i v).dt = s.dt := State.setWord_dt s _ _
@[simp] theorem State.setReg_tick (s : State) (f : Fd) (i v : Nat) : (s.setReg f i v).tick = s.tick := State.setWord_tick s _ _
@[simp] theorem State.setReg_eff (s : State) (f : Fd) (i v : Nat) : (s.setReg f i v).eff = s.eff := State.setWord_eff s _ _
@[simp] theorem State.setReg_shadow (s : State) (f : Fd) (i v : Nat) : (s.setReg f i v).shadow = s.shadow := State.setWord_shadow s _ _
@[simp] theorem State.setReg_pins (s : State) (f : Fd) (i v : Nat) : (s.setReg f i v).pins = s.pins := State.setWord_pins s _ _
@[simp] theorem State.setReg_marker (s : State) (f : Fd) (i v : Nat) : (s.setReg f i v).marker = s.marker := State.setWord_marker s _ _
@[simp] theorem State.setReg_started (s : State) (f : Fd) (i v : Nat) : (s.setReg f i v).started = s.started := State.setWord_started s _ _
@[simp] theorem State.setReg_tiles (s : State) (f : Fd) (i v : Nat) : (s.setReg f i v).tiles = s.tiles := State.setWord_tiles s _ _
@[simp] theorem State.setReg_swaps (s : State) (f : Fd) (i v : Nat) : (s.setReg f i v).swaps = s.swaps := State.setWord_swaps s _ _
@[simp] theorem State.setReg_fab (s : State) (f : Fd) (i v : Nat) : (s.setReg f i v).fab = s.fab := State.setWord_fab s _ _
@[simp] theorem State.setReg_txn (s : State) (f : Fd) (i v : Nat) : (s.setReg f i v).txn = s.txn := State.setWord_txn s _ _
@[simp] theorem State.setReg_flt (s : State) (f : Fd) (i v : Nat) : (s.setReg f i v).flt = s.flt := State.setWord_flt s _ _
@[simp] theorem State.setReg_tmu (s : State) (f : Fd) (i v : Nat) : (s.setReg f i v).tmu = s.tmu := State.setWord_tmu s _ _
@[simp] theorem State.setReg_cal (s : State) (f : Fd) (i v : Nat) : (s.setReg f i v).cal = s.cal := State.setWord_cal s _ _
@[simp] theorem State.setReg_adm (s : State) (f : Fd) (i v : Nat) : (s.setReg f i v).adm = s.adm := State.setWord_adm s _ _
@[simp] theorem State.setReg_hif (s : State) (f : Fd) (i v : Nat) : (s.setReg f i v).hif = s.hif := State.setWord_hif s _ _
@[simp] theorem State.setReg_cpx (s : State) (f : Fd) (i v : Nat) : (s.setReg f i v).cpx = s.cpx := State.setWord_cpx s _ _
@[simp] theorem State.setReg_twn (s : State) (f : Fd) (i v : Nat) : (s.setReg f i v).twn = s.twn := State.setWord_twn s _ _
@[simp] theorem State.setReg_siu (s : State) (f : Fd) (i v : Nat) : (s.setReg f i v).siu = s.siu := State.setWord_siu s _ _
@[simp] theorem State.setReg_kln (s : State) (f : Fd) (i v : Nat) : (s.setReg f i v).kln = s.kln := State.setWord_kln s _ _
@[simp] theorem State.setReg_btu (s : State) (f : Fd) (i v : Nat) : (s.setReg f i v).btu = s.btu := State.setWord_btu s _ _
@[simp] theorem State.setReg_tap (s : State) (f : Fd) (i v : Nat) : (s.setReg f i v).tap = s.tap := State.setWord_tap s _ _
@[simp] theorem State.setReg_mtx (s : State) (f : Fd) (i v : Nat) : (s.setReg f i v).mtx = s.mtx := State.setWord_mtx s _ _
@[simp] theorem State.setReg_out (s : State) (f : Fd) (i v : Nat) : (s.setReg f i v).out = s.out := State.setWord_out s _ _

/-! setFlag -/
@[simp] theorem State.setFlag_pending (s : State) (f : Fd) (i : Nat) (b : Bool) : (s.setFlag f i b).pending = s.pending := State.setReg_pending s f i _
@[simp] theorem State.setFlag_free (s : State) (f : Fd) (i : Nat) (b : Bool) : (s.setFlag f i b).free = s.free := State.setReg_free s f i _
@[simp] theorem State.setFlag_dt (s : State) (f : Fd) (i : Nat) (b : Bool) : (s.setFlag f i b).dt = s.dt := State.setReg_dt s f i _
@[simp] theorem State.setFlag_tick (s : State) (f : Fd) (i : Nat) (b : Bool) : (s.setFlag f i b).tick = s.tick := State.setReg_tick s f i _
@[simp] theorem State.setFlag_eff (s : State) (f : Fd) (i : Nat) (b : Bool) : (s.setFlag f i b).eff = s.eff := State.setReg_eff s f i _
@[simp] theorem State.setFlag_shadow (s : State) (f : Fd) (i : Nat) (b : Bool) : (s.setFlag f i b).shadow = s.shadow := State.setReg_shadow s f i _
@[simp] theorem State.setFlag_pins (s : State) (f : Fd) (i : Nat) (b : Bool) : (s.setFlag f i b).pins = s.pins := State.setReg_pins s f i _
@[simp] theorem State.setFlag_marker (s : State) (f : Fd) (i : Nat) (b : Bool) : (s.setFlag f i b).marker = s.marker := State.setReg_marker s f i _
@[simp] theorem State.setFlag_started (s : State) (f : Fd) (i : Nat) (b : Bool) : (s.setFlag f i b).started = s.started := State.setReg_started s f i _
@[simp] theorem State.setFlag_tiles (s : State) (f : Fd) (i : Nat) (b : Bool) : (s.setFlag f i b).tiles = s.tiles := State.setReg_tiles s f i _
@[simp] theorem State.setFlag_swaps (s : State) (f : Fd) (i : Nat) (b : Bool) : (s.setFlag f i b).swaps = s.swaps := State.setReg_swaps s f i _
@[simp] theorem State.setFlag_fab (s : State) (f : Fd) (i : Nat) (b : Bool) : (s.setFlag f i b).fab = s.fab := State.setReg_fab s f i _
@[simp] theorem State.setFlag_txn (s : State) (f : Fd) (i : Nat) (b : Bool) : (s.setFlag f i b).txn = s.txn := State.setReg_txn s f i _
@[simp] theorem State.setFlag_flt (s : State) (f : Fd) (i : Nat) (b : Bool) : (s.setFlag f i b).flt = s.flt := State.setReg_flt s f i _
@[simp] theorem State.setFlag_tmu (s : State) (f : Fd) (i : Nat) (b : Bool) : (s.setFlag f i b).tmu = s.tmu := State.setReg_tmu s f i _
@[simp] theorem State.setFlag_cal (s : State) (f : Fd) (i : Nat) (b : Bool) : (s.setFlag f i b).cal = s.cal := State.setReg_cal s f i _
@[simp] theorem State.setFlag_adm (s : State) (f : Fd) (i : Nat) (b : Bool) : (s.setFlag f i b).adm = s.adm := State.setReg_adm s f i _
@[simp] theorem State.setFlag_hif (s : State) (f : Fd) (i : Nat) (b : Bool) : (s.setFlag f i b).hif = s.hif := State.setReg_hif s f i _
@[simp] theorem State.setFlag_cpx (s : State) (f : Fd) (i : Nat) (b : Bool) : (s.setFlag f i b).cpx = s.cpx := State.setReg_cpx s f i _
@[simp] theorem State.setFlag_twn (s : State) (f : Fd) (i : Nat) (b : Bool) : (s.setFlag f i b).twn = s.twn := State.setReg_twn s f i _
@[simp] theorem State.setFlag_siu (s : State) (f : Fd) (i : Nat) (b : Bool) : (s.setFlag f i b).siu = s.siu := State.setReg_siu s f i _
@[simp] theorem State.setFlag_kln (s : State) (f : Fd) (i : Nat) (b : Bool) : (s.setFlag f i b).kln = s.kln := State.setReg_kln s f i _
@[simp] theorem State.setFlag_btu (s : State) (f : Fd) (i : Nat) (b : Bool) : (s.setFlag f i b).btu = s.btu := State.setReg_btu s f i _
@[simp] theorem State.setFlag_tap (s : State) (f : Fd) (i : Nat) (b : Bool) : (s.setFlag f i b).tap = s.tap := State.setReg_tap s f i _
@[simp] theorem State.setFlag_mtx (s : State) (f : Fd) (i : Nat) (b : Bool) : (s.setFlag f i b).mtx = s.mtx := State.setReg_mtx s f i _
@[simp] theorem State.setFlag_out (s : State) (f : Fd) (i : Nat) (b : Bool) : (s.setFlag f i b).out = s.out := State.setReg_out s f i _

/-! count -/
@[simp] theorem State.count_pending (s : State) (f : Fd) (i n : Nat) : (s.count f i n).pending = s.pending := by
  unfold State.count
  split
  · rfl
  · exact State.setReg_pending s f i _
@[simp] theorem State.count_free (s : State) (f : Fd) (i n : Nat) : (s.count f i n).free = s.free := by
  unfold State.count
  split
  · rfl
  · exact State.setReg_free s f i _
@[simp] theorem State.count_dt (s : State) (f : Fd) (i n : Nat) : (s.count f i n).dt = s.dt := by
  unfold State.count
  split
  · rfl
  · exact State.setReg_dt s f i _
@[simp] theorem State.count_tick (s : State) (f : Fd) (i n : Nat) : (s.count f i n).tick = s.tick := by
  unfold State.count
  split
  · rfl
  · exact State.setReg_tick s f i _
@[simp] theorem State.count_eff (s : State) (f : Fd) (i n : Nat) : (s.count f i n).eff = s.eff := by
  unfold State.count
  split
  · rfl
  · exact State.setReg_eff s f i _
@[simp] theorem State.count_shadow (s : State) (f : Fd) (i n : Nat) : (s.count f i n).shadow = s.shadow := by
  unfold State.count
  split
  · rfl
  · exact State.setReg_shadow s f i _
@[simp] theorem State.count_pins (s : State) (f : Fd) (i n : Nat) : (s.count f i n).pins = s.pins := by
  unfold State.count
  split
  · rfl
  · exact State.setReg_pins s f i _
@[simp] theorem State.count_marker (s : State) (f : Fd) (i n : Nat) : (s.count f i n).marker = s.marker := by
  unfold State.count
  split
  · rfl
  · exact State.setReg_marker s f i _
@[simp] theorem State.count_started (s : State) (f : Fd) (i n : Nat) : (s.count f i n).started = s.started := by
  unfold State.count
  split
  · rfl
  · exact State.setReg_started s f i _
@[simp] theorem State.count_tiles (s : State) (f : Fd) (i n : Nat) : (s.count f i n).tiles = s.tiles := by
  unfold State.count
  split
  · rfl
  · exact State.setReg_tiles s f i _
@[simp] theorem State.count_swaps (s : State) (f : Fd) (i n : Nat) : (s.count f i n).swaps = s.swaps := by
  unfold State.count
  split
  · rfl
  · exact State.setReg_swaps s f i _
@[simp] theorem State.count_fab (s : State) (f : Fd) (i n : Nat) : (s.count f i n).fab = s.fab := by
  unfold State.count
  split
  · rfl
  · exact State.setReg_fab s f i _
@[simp] theorem State.count_txn (s : State) (f : Fd) (i n : Nat) : (s.count f i n).txn = s.txn := by
  unfold State.count
  split
  · rfl
  · exact State.setReg_txn s f i _
@[simp] theorem State.count_flt (s : State) (f : Fd) (i n : Nat) : (s.count f i n).flt = s.flt := by
  unfold State.count
  split
  · rfl
  · exact State.setReg_flt s f i _
@[simp] theorem State.count_tmu (s : State) (f : Fd) (i n : Nat) : (s.count f i n).tmu = s.tmu := by
  unfold State.count
  split
  · rfl
  · exact State.setReg_tmu s f i _
@[simp] theorem State.count_cal (s : State) (f : Fd) (i n : Nat) : (s.count f i n).cal = s.cal := by
  unfold State.count
  split
  · rfl
  · exact State.setReg_cal s f i _
@[simp] theorem State.count_adm (s : State) (f : Fd) (i n : Nat) : (s.count f i n).adm = s.adm := by
  unfold State.count
  split
  · rfl
  · exact State.setReg_adm s f i _
@[simp] theorem State.count_hif (s : State) (f : Fd) (i n : Nat) : (s.count f i n).hif = s.hif := by
  unfold State.count
  split
  · rfl
  · exact State.setReg_hif s f i _
@[simp] theorem State.count_cpx (s : State) (f : Fd) (i n : Nat) : (s.count f i n).cpx = s.cpx := by
  unfold State.count
  split
  · rfl
  · exact State.setReg_cpx s f i _
@[simp] theorem State.count_twn (s : State) (f : Fd) (i n : Nat) : (s.count f i n).twn = s.twn := by
  unfold State.count
  split
  · rfl
  · exact State.setReg_twn s f i _
@[simp] theorem State.count_siu (s : State) (f : Fd) (i n : Nat) : (s.count f i n).siu = s.siu := by
  unfold State.count
  split
  · rfl
  · exact State.setReg_siu s f i _
@[simp] theorem State.count_kln (s : State) (f : Fd) (i n : Nat) : (s.count f i n).kln = s.kln := by
  unfold State.count
  split
  · rfl
  · exact State.setReg_kln s f i _
@[simp] theorem State.count_btu (s : State) (f : Fd) (i n : Nat) : (s.count f i n).btu = s.btu := by
  unfold State.count
  split
  · rfl
  · exact State.setReg_btu s f i _
@[simp] theorem State.count_tap (s : State) (f : Fd) (i n : Nat) : (s.count f i n).tap = s.tap := by
  unfold State.count
  split
  · rfl
  · exact State.setReg_tap s f i _
@[simp] theorem State.count_mtx (s : State) (f : Fd) (i n : Nat) : (s.count f i n).mtx = s.mtx := by
  unfold State.count
  split
  · rfl
  · exact State.setReg_mtx s f i _
@[simp] theorem State.count_out (s : State) (f : Fd) (i n : Nat) : (s.count f i n).out = s.out := by
  unfold State.count
  split
  · rfl
  · exact State.setReg_out s f i _

/-! inc -/
@[simp] theorem State.inc_pending (s : State) (f : Fd) (i : Nat) : (s.inc f i).pending = s.pending := State.count_pending s f i 1
@[simp] theorem State.inc_free (s : State) (f : Fd) (i : Nat) : (s.inc f i).free = s.free := State.count_free s f i 1
@[simp] theorem State.inc_dt (s : State) (f : Fd) (i : Nat) : (s.inc f i).dt = s.dt := State.count_dt s f i 1
@[simp] theorem State.inc_tick (s : State) (f : Fd) (i : Nat) : (s.inc f i).tick = s.tick := State.count_tick s f i 1
@[simp] theorem State.inc_eff (s : State) (f : Fd) (i : Nat) : (s.inc f i).eff = s.eff := State.count_eff s f i 1
@[simp] theorem State.inc_shadow (s : State) (f : Fd) (i : Nat) : (s.inc f i).shadow = s.shadow := State.count_shadow s f i 1
@[simp] theorem State.inc_pins (s : State) (f : Fd) (i : Nat) : (s.inc f i).pins = s.pins := State.count_pins s f i 1
@[simp] theorem State.inc_marker (s : State) (f : Fd) (i : Nat) : (s.inc f i).marker = s.marker := State.count_marker s f i 1
@[simp] theorem State.inc_started (s : State) (f : Fd) (i : Nat) : (s.inc f i).started = s.started := State.count_started s f i 1
@[simp] theorem State.inc_tiles (s : State) (f : Fd) (i : Nat) : (s.inc f i).tiles = s.tiles := State.count_tiles s f i 1
@[simp] theorem State.inc_swaps (s : State) (f : Fd) (i : Nat) : (s.inc f i).swaps = s.swaps := State.count_swaps s f i 1
@[simp] theorem State.inc_fab (s : State) (f : Fd) (i : Nat) : (s.inc f i).fab = s.fab := State.count_fab s f i 1
@[simp] theorem State.inc_txn (s : State) (f : Fd) (i : Nat) : (s.inc f i).txn = s.txn := State.count_txn s f i 1
@[simp] theorem State.inc_flt (s : State) (f : Fd) (i : Nat) : (s.inc f i).flt = s.flt := State.count_flt s f i 1
@[simp] theorem State.inc_tmu (s : State) (f : Fd) (i : Nat) : (s.inc f i).tmu = s.tmu := State.count_tmu s f i 1
@[simp] theorem State.inc_cal (s : State) (f : Fd) (i : Nat) : (s.inc f i).cal = s.cal := State.count_cal s f i 1
@[simp] theorem State.inc_adm (s : State) (f : Fd) (i : Nat) : (s.inc f i).adm = s.adm := State.count_adm s f i 1
@[simp] theorem State.inc_hif (s : State) (f : Fd) (i : Nat) : (s.inc f i).hif = s.hif := State.count_hif s f i 1
@[simp] theorem State.inc_cpx (s : State) (f : Fd) (i : Nat) : (s.inc f i).cpx = s.cpx := State.count_cpx s f i 1
@[simp] theorem State.inc_twn (s : State) (f : Fd) (i : Nat) : (s.inc f i).twn = s.twn := State.count_twn s f i 1
@[simp] theorem State.inc_siu (s : State) (f : Fd) (i : Nat) : (s.inc f i).siu = s.siu := State.count_siu s f i 1
@[simp] theorem State.inc_kln (s : State) (f : Fd) (i : Nat) : (s.inc f i).kln = s.kln := State.count_kln s f i 1
@[simp] theorem State.inc_btu (s : State) (f : Fd) (i : Nat) : (s.inc f i).btu = s.btu := State.count_btu s f i 1
@[simp] theorem State.inc_tap (s : State) (f : Fd) (i : Nat) : (s.inc f i).tap = s.tap := State.count_tap s f i 1
@[simp] theorem State.inc_mtx (s : State) (f : Fd) (i : Nat) : (s.inc f i).mtx = s.mtx := State.count_mtx s f i 1
@[simp] theorem State.inc_out (s : State) (f : Fd) (i : Nat) : (s.inc f i).out = s.out := State.count_out s f i 1

/-! setCause -/
@[simp] theorem State.setCause_pending (s : State) (n : Nat) (b : Bool) : (s.setCause n b).pending = s.pending := State.setReg_pending s _ _ _
@[simp] theorem State.setCause_free (s : State) (n : Nat) (b : Bool) : (s.setCause n b).free = s.free := State.setReg_free s _ _ _
@[simp] theorem State.setCause_dt (s : State) (n : Nat) (b : Bool) : (s.setCause n b).dt = s.dt := State.setReg_dt s _ _ _
@[simp] theorem State.setCause_tick (s : State) (n : Nat) (b : Bool) : (s.setCause n b).tick = s.tick := State.setReg_tick s _ _ _
@[simp] theorem State.setCause_eff (s : State) (n : Nat) (b : Bool) : (s.setCause n b).eff = s.eff := State.setReg_eff s _ _ _
@[simp] theorem State.setCause_shadow (s : State) (n : Nat) (b : Bool) : (s.setCause n b).shadow = s.shadow := State.setReg_shadow s _ _ _
@[simp] theorem State.setCause_pins (s : State) (n : Nat) (b : Bool) : (s.setCause n b).pins = s.pins := State.setReg_pins s _ _ _
@[simp] theorem State.setCause_marker (s : State) (n : Nat) (b : Bool) : (s.setCause n b).marker = s.marker := State.setReg_marker s _ _ _
@[simp] theorem State.setCause_started (s : State) (n : Nat) (b : Bool) : (s.setCause n b).started = s.started := State.setReg_started s _ _ _
@[simp] theorem State.setCause_tiles (s : State) (n : Nat) (b : Bool) : (s.setCause n b).tiles = s.tiles := State.setReg_tiles s _ _ _
@[simp] theorem State.setCause_swaps (s : State) (n : Nat) (b : Bool) : (s.setCause n b).swaps = s.swaps := State.setReg_swaps s _ _ _
@[simp] theorem State.setCause_fab (s : State) (n : Nat) (b : Bool) : (s.setCause n b).fab = s.fab := State.setReg_fab s _ _ _
@[simp] theorem State.setCause_txn (s : State) (n : Nat) (b : Bool) : (s.setCause n b).txn = s.txn := State.setReg_txn s _ _ _
@[simp] theorem State.setCause_flt (s : State) (n : Nat) (b : Bool) : (s.setCause n b).flt = s.flt := State.setReg_flt s _ _ _
@[simp] theorem State.setCause_tmu (s : State) (n : Nat) (b : Bool) : (s.setCause n b).tmu = s.tmu := State.setReg_tmu s _ _ _
@[simp] theorem State.setCause_cal (s : State) (n : Nat) (b : Bool) : (s.setCause n b).cal = s.cal := State.setReg_cal s _ _ _
@[simp] theorem State.setCause_adm (s : State) (n : Nat) (b : Bool) : (s.setCause n b).adm = s.adm := State.setReg_adm s _ _ _
@[simp] theorem State.setCause_hif (s : State) (n : Nat) (b : Bool) : (s.setCause n b).hif = s.hif := State.setReg_hif s _ _ _
@[simp] theorem State.setCause_cpx (s : State) (n : Nat) (b : Bool) : (s.setCause n b).cpx = s.cpx := State.setReg_cpx s _ _ _
@[simp] theorem State.setCause_twn (s : State) (n : Nat) (b : Bool) : (s.setCause n b).twn = s.twn := State.setReg_twn s _ _ _
@[simp] theorem State.setCause_siu (s : State) (n : Nat) (b : Bool) : (s.setCause n b).siu = s.siu := State.setReg_siu s _ _ _
@[simp] theorem State.setCause_kln (s : State) (n : Nat) (b : Bool) : (s.setCause n b).kln = s.kln := State.setReg_kln s _ _ _
@[simp] theorem State.setCause_btu (s : State) (n : Nat) (b : Bool) : (s.setCause n b).btu = s.btu := State.setReg_btu s _ _ _
@[simp] theorem State.setCause_tap (s : State) (n : Nat) (b : Bool) : (s.setCause n b).tap = s.tap := State.setReg_tap s _ _ _
@[simp] theorem State.setCause_mtx (s : State) (n : Nat) (b : Bool) : (s.setCause n b).mtx = s.mtx := State.setReg_mtx s _ _ _
@[simp] theorem State.setCause_out (s : State) (n : Nat) (b : Bool) : (s.setCause n b).out = s.out := State.setReg_out s _ _ _

/-! setHeld -/
@[simp] theorem State.setHeld_pending (s : State) (n : Nat) (b : Bool) : (s.setHeld n b).pending = s.pending := State.setReg_pending s _ _ _
@[simp] theorem State.setHeld_free (s : State) (n : Nat) (b : Bool) : (s.setHeld n b).free = s.free := State.setReg_free s _ _ _
@[simp] theorem State.setHeld_dt (s : State) (n : Nat) (b : Bool) : (s.setHeld n b).dt = s.dt := State.setReg_dt s _ _ _
@[simp] theorem State.setHeld_tick (s : State) (n : Nat) (b : Bool) : (s.setHeld n b).tick = s.tick := State.setReg_tick s _ _ _
@[simp] theorem State.setHeld_eff (s : State) (n : Nat) (b : Bool) : (s.setHeld n b).eff = s.eff := State.setReg_eff s _ _ _
@[simp] theorem State.setHeld_shadow (s : State) (n : Nat) (b : Bool) : (s.setHeld n b).shadow = s.shadow := State.setReg_shadow s _ _ _
@[simp] theorem State.setHeld_pins (s : State) (n : Nat) (b : Bool) : (s.setHeld n b).pins = s.pins := State.setReg_pins s _ _ _
@[simp] theorem State.setHeld_marker (s : State) (n : Nat) (b : Bool) : (s.setHeld n b).marker = s.marker := State.setReg_marker s _ _ _
@[simp] theorem State.setHeld_started (s : State) (n : Nat) (b : Bool) : (s.setHeld n b).started = s.started := State.setReg_started s _ _ _
@[simp] theorem State.setHeld_tiles (s : State) (n : Nat) (b : Bool) : (s.setHeld n b).tiles = s.tiles := State.setReg_tiles s _ _ _
@[simp] theorem State.setHeld_swaps (s : State) (n : Nat) (b : Bool) : (s.setHeld n b).swaps = s.swaps := State.setReg_swaps s _ _ _
@[simp] theorem State.setHeld_fab (s : State) (n : Nat) (b : Bool) : (s.setHeld n b).fab = s.fab := State.setReg_fab s _ _ _
@[simp] theorem State.setHeld_txn (s : State) (n : Nat) (b : Bool) : (s.setHeld n b).txn = s.txn := State.setReg_txn s _ _ _
@[simp] theorem State.setHeld_flt (s : State) (n : Nat) (b : Bool) : (s.setHeld n b).flt = s.flt := State.setReg_flt s _ _ _
@[simp] theorem State.setHeld_tmu (s : State) (n : Nat) (b : Bool) : (s.setHeld n b).tmu = s.tmu := State.setReg_tmu s _ _ _
@[simp] theorem State.setHeld_cal (s : State) (n : Nat) (b : Bool) : (s.setHeld n b).cal = s.cal := State.setReg_cal s _ _ _
@[simp] theorem State.setHeld_adm (s : State) (n : Nat) (b : Bool) : (s.setHeld n b).adm = s.adm := State.setReg_adm s _ _ _
@[simp] theorem State.setHeld_hif (s : State) (n : Nat) (b : Bool) : (s.setHeld n b).hif = s.hif := State.setReg_hif s _ _ _
@[simp] theorem State.setHeld_cpx (s : State) (n : Nat) (b : Bool) : (s.setHeld n b).cpx = s.cpx := State.setReg_cpx s _ _ _
@[simp] theorem State.setHeld_twn (s : State) (n : Nat) (b : Bool) : (s.setHeld n b).twn = s.twn := State.setReg_twn s _ _ _
@[simp] theorem State.setHeld_siu (s : State) (n : Nat) (b : Bool) : (s.setHeld n b).siu = s.siu := State.setReg_siu s _ _ _
@[simp] theorem State.setHeld_kln (s : State) (n : Nat) (b : Bool) : (s.setHeld n b).kln = s.kln := State.setReg_kln s _ _ _
@[simp] theorem State.setHeld_btu (s : State) (n : Nat) (b : Bool) : (s.setHeld n b).btu = s.btu := State.setReg_btu s _ _ _
@[simp] theorem State.setHeld_tap (s : State) (n : Nat) (b : Bool) : (s.setHeld n b).tap = s.tap := State.setReg_tap s _ _ _
@[simp] theorem State.setHeld_mtx (s : State) (n : Nat) (b : Bool) : (s.setHeld n b).mtx = s.mtx := State.setReg_mtx s _ _ _
@[simp] theorem State.setHeld_out (s : State) (n : Nat) (b : Bool) : (s.setHeld n b).out = s.out := State.setReg_out s _ _ _

/-! raiseEv -/
@[simp] theorem State.raiseEv_pending (s : State) (r : Raise) : (s.raiseEv r).pending = s.pending := by
  unfold State.raiseEv
  repeat' split
  all_goals rfl
@[simp] theorem State.raiseEv_free (s : State) (r : Raise) : (s.raiseEv r).free = s.free := by
  unfold State.raiseEv
  repeat' split
  all_goals rfl
@[simp] theorem State.raiseEv_dt (s : State) (r : Raise) : (s.raiseEv r).dt = s.dt := by
  unfold State.raiseEv
  repeat' split
  all_goals rfl
@[simp] theorem State.raiseEv_tick (s : State) (r : Raise) : (s.raiseEv r).tick = s.tick := by
  unfold State.raiseEv
  repeat' split
  all_goals rfl
@[simp] theorem State.raiseEv_regs (s : State) (r : Raise) : (s.raiseEv r).regs = s.regs := by
  unfold State.raiseEv
  repeat' split
  all_goals rfl
@[simp] theorem State.raiseEv_eff (s : State) (r : Raise) : (s.raiseEv r).eff = s.eff := by
  unfold State.raiseEv
  repeat' split
  all_goals rfl
@[simp] theorem State.raiseEv_shadow (s : State) (r : Raise) : (s.raiseEv r).shadow = s.shadow := by
  unfold State.raiseEv
  repeat' split
  all_goals rfl
@[simp] theorem State.raiseEv_pins (s : State) (r : Raise) : (s.raiseEv r).pins = s.pins := by
  unfold State.raiseEv
  repeat' split
  all_goals rfl
@[simp] theorem State.raiseEv_marker (s : State) (r : Raise) : (s.raiseEv r).marker = s.marker := by
  unfold State.raiseEv
  repeat' split
  all_goals rfl
@[simp] theorem State.raiseEv_started (s : State) (r : Raise) : (s.raiseEv r).started = s.started := by
  unfold State.raiseEv
  repeat' split
  all_goals rfl
@[simp] theorem State.raiseEv_tiles (s : State) (r : Raise) : (s.raiseEv r).tiles = s.tiles := by
  unfold State.raiseEv
  repeat' split
  all_goals rfl
@[simp] theorem State.raiseEv_swaps (s : State) (r : Raise) : (s.raiseEv r).swaps = s.swaps := by
  unfold State.raiseEv
  repeat' split
  all_goals rfl
@[simp] theorem State.raiseEv_fab (s : State) (r : Raise) : (s.raiseEv r).fab = s.fab := by
  unfold State.raiseEv
  repeat' split
  all_goals rfl
@[simp] theorem State.raiseEv_txn (s : State) (r : Raise) : (s.raiseEv r).txn = s.txn := by
  unfold State.raiseEv
  repeat' split
  all_goals rfl
@[simp] theorem State.raiseEv_tmu (s : State) (r : Raise) : (s.raiseEv r).tmu = s.tmu := by
  unfold State.raiseEv
  repeat' split
  all_goals rfl
@[simp] theorem State.raiseEv_cal (s : State) (r : Raise) : (s.raiseEv r).cal = s.cal := by
  unfold State.raiseEv
  repeat' split
  all_goals rfl
@[simp] theorem State.raiseEv_adm (s : State) (r : Raise) : (s.raiseEv r).adm = s.adm := by
  unfold State.raiseEv
  repeat' split
  all_goals rfl
@[simp] theorem State.raiseEv_hif (s : State) (r : Raise) : (s.raiseEv r).hif = s.hif := by
  unfold State.raiseEv
  repeat' split
  all_goals rfl
@[simp] theorem State.raiseEv_cpx (s : State) (r : Raise) : (s.raiseEv r).cpx = s.cpx := by
  unfold State.raiseEv
  repeat' split
  all_goals rfl
@[simp] theorem State.raiseEv_twn (s : State) (r : Raise) : (s.raiseEv r).twn = s.twn := by
  unfold State.raiseEv
  repeat' split
  all_goals rfl
@[simp] theorem State.raiseEv_siu (s : State) (r : Raise) : (s.raiseEv r).siu = s.siu := by
  unfold State.raiseEv
  repeat' split
  all_goals rfl
@[simp] theorem State.raiseEv_kln (s : State) (r : Raise) : (s.raiseEv r).kln = s.kln := by
  unfold State.raiseEv
  repeat' split
  all_goals rfl
@[simp] theorem State.raiseEv_btu (s : State) (r : Raise) : (s.raiseEv r).btu = s.btu := by
  unfold State.raiseEv
  repeat' split
  all_goals rfl
@[simp] theorem State.raiseEv_tap (s : State) (r : Raise) : (s.raiseEv r).tap = s.tap := by
  unfold State.raiseEv
  repeat' split
  all_goals rfl
@[simp] theorem State.raiseEv_mtx (s : State) (r : Raise) : (s.raiseEv r).mtx = s.mtx := by
  unfold State.raiseEv
  repeat' split
  all_goals rfl
@[simp] theorem State.raiseEv_out (s : State) (r : Raise) : (s.raiseEv r).out = s.out := by
  unfold State.raiseEv
  repeat' split
  all_goals rfl

/-! raise -/
@[simp] theorem State.raise_pending (s : State) (n info : Nat) : (s.raise n info).pending = s.pending := State.raiseEv_pending s _
@[simp] theorem State.raise_free (s : State) (n info : Nat) : (s.raise n info).free = s.free := State.raiseEv_free s _
@[simp] theorem State.raise_dt (s : State) (n info : Nat) : (s.raise n info).dt = s.dt := State.raiseEv_dt s _
@[simp] theorem State.raise_tick (s : State) (n info : Nat) : (s.raise n info).tick = s.tick := State.raiseEv_tick s _
@[simp] theorem State.raise_eff (s : State) (n info : Nat) : (s.raise n info).eff = s.eff := State.raiseEv_eff s _
@[simp] theorem State.raise_shadow (s : State) (n info : Nat) : (s.raise n info).shadow = s.shadow := State.raiseEv_shadow s _
@[simp] theorem State.raise_pins (s : State) (n info : Nat) : (s.raise n info).pins = s.pins := State.raiseEv_pins s _
@[simp] theorem State.raise_marker (s : State) (n info : Nat) : (s.raise n info).marker = s.marker := State.raiseEv_marker s _
@[simp] theorem State.raise_started (s : State) (n info : Nat) : (s.raise n info).started = s.started := State.raiseEv_started s _
@[simp] theorem State.raise_tiles (s : State) (n info : Nat) : (s.raise n info).tiles = s.tiles := State.raiseEv_tiles s _
@[simp] theorem State.raise_swaps (s : State) (n info : Nat) : (s.raise n info).swaps = s.swaps := State.raiseEv_swaps s _
@[simp] theorem State.raise_fab (s : State) (n info : Nat) : (s.raise n info).fab = s.fab := State.raiseEv_fab s _
@[simp] theorem State.raise_txn (s : State) (n info : Nat) : (s.raise n info).txn = s.txn := State.raiseEv_txn s _
@[simp] theorem State.raise_tmu (s : State) (n info : Nat) : (s.raise n info).tmu = s.tmu := State.raiseEv_tmu s _
@[simp] theorem State.raise_cal (s : State) (n info : Nat) : (s.raise n info).cal = s.cal := State.raiseEv_cal s _
@[simp] theorem State.raise_adm (s : State) (n info : Nat) : (s.raise n info).adm = s.adm := State.raiseEv_adm s _
@[simp] theorem State.raise_hif (s : State) (n info : Nat) : (s.raise n info).hif = s.hif := State.raiseEv_hif s _
@[simp] theorem State.raise_cpx (s : State) (n info : Nat) : (s.raise n info).cpx = s.cpx := State.raiseEv_cpx s _
@[simp] theorem State.raise_twn (s : State) (n info : Nat) : (s.raise n info).twn = s.twn := State.raiseEv_twn s _
@[simp] theorem State.raise_siu (s : State) (n info : Nat) : (s.raise n info).siu = s.siu := State.raiseEv_siu s _
@[simp] theorem State.raise_kln (s : State) (n info : Nat) : (s.raise n info).kln = s.kln := State.raiseEv_kln s _
@[simp] theorem State.raise_btu (s : State) (n info : Nat) : (s.raise n info).btu = s.btu := State.raiseEv_btu s _
@[simp] theorem State.raise_tap (s : State) (n info : Nat) : (s.raise n info).tap = s.tap := State.raiseEv_tap s _
@[simp] theorem State.raise_mtx (s : State) (n info : Nat) : (s.raise n info).mtx = s.mtx := State.raiseEv_mtx s _
@[simp] theorem State.raise_out (s : State) (n info : Nat) : (s.raise n info).out = s.out := State.raiseEv_out s _

/-! raiseCond -/
@[simp] theorem State.raiseCond_pending (s : State) (n info : Nat) : (s.raiseCond n info).pending = s.pending := (State.raise_pending _ n info).trans (State.setCause_pending s n true)
@[simp] theorem State.raiseCond_free (s : State) (n info : Nat) : (s.raiseCond n info).free = s.free := (State.raise_free _ n info).trans (State.setCause_free s n true)
@[simp] theorem State.raiseCond_dt (s : State) (n info : Nat) : (s.raiseCond n info).dt = s.dt := (State.raise_dt _ n info).trans (State.setCause_dt s n true)
@[simp] theorem State.raiseCond_tick (s : State) (n info : Nat) : (s.raiseCond n info).tick = s.tick := (State.raise_tick _ n info).trans (State.setCause_tick s n true)
@[simp] theorem State.raiseCond_eff (s : State) (n info : Nat) : (s.raiseCond n info).eff = s.eff := (State.raise_eff _ n info).trans (State.setCause_eff s n true)
@[simp] theorem State.raiseCond_shadow (s : State) (n info : Nat) : (s.raiseCond n info).shadow = s.shadow := (State.raise_shadow _ n info).trans (State.setCause_shadow s n true)
@[simp] theorem State.raiseCond_pins (s : State) (n info : Nat) : (s.raiseCond n info).pins = s.pins := (State.raise_pins _ n info).trans (State.setCause_pins s n true)
@[simp] theorem State.raiseCond_marker (s : State) (n info : Nat) : (s.raiseCond n info).marker = s.marker := (State.raise_marker _ n info).trans (State.setCause_marker s n true)
@[simp] theorem State.raiseCond_started (s : State) (n info : Nat) : (s.raiseCond n info).started = s.started := (State.raise_started _ n info).trans (State.setCause_started s n true)
@[simp] theorem State.raiseCond_tiles (s : State) (n info : Nat) : (s.raiseCond n info).tiles = s.tiles := (State.raise_tiles _ n info).trans (State.setCause_tiles s n true)
@[simp] theorem State.raiseCond_swaps (s : State) (n info : Nat) : (s.raiseCond n info).swaps = s.swaps := (State.raise_swaps _ n info).trans (State.setCause_swaps s n true)
@[simp] theorem State.raiseCond_fab (s : State) (n info : Nat) : (s.raiseCond n info).fab = s.fab := (State.raise_fab _ n info).trans (State.setCause_fab s n true)
@[simp] theorem State.raiseCond_txn (s : State) (n info : Nat) : (s.raiseCond n info).txn = s.txn := (State.raise_txn _ n info).trans (State.setCause_txn s n true)
@[simp] theorem State.raiseCond_tmu (s : State) (n info : Nat) : (s.raiseCond n info).tmu = s.tmu := (State.raise_tmu _ n info).trans (State.setCause_tmu s n true)
@[simp] theorem State.raiseCond_cal (s : State) (n info : Nat) : (s.raiseCond n info).cal = s.cal := (State.raise_cal _ n info).trans (State.setCause_cal s n true)
@[simp] theorem State.raiseCond_adm (s : State) (n info : Nat) : (s.raiseCond n info).adm = s.adm := (State.raise_adm _ n info).trans (State.setCause_adm s n true)
@[simp] theorem State.raiseCond_hif (s : State) (n info : Nat) : (s.raiseCond n info).hif = s.hif := (State.raise_hif _ n info).trans (State.setCause_hif s n true)
@[simp] theorem State.raiseCond_cpx (s : State) (n info : Nat) : (s.raiseCond n info).cpx = s.cpx := (State.raise_cpx _ n info).trans (State.setCause_cpx s n true)
@[simp] theorem State.raiseCond_twn (s : State) (n info : Nat) : (s.raiseCond n info).twn = s.twn := (State.raise_twn _ n info).trans (State.setCause_twn s n true)
@[simp] theorem State.raiseCond_siu (s : State) (n info : Nat) : (s.raiseCond n info).siu = s.siu := (State.raise_siu _ n info).trans (State.setCause_siu s n true)
@[simp] theorem State.raiseCond_kln (s : State) (n info : Nat) : (s.raiseCond n info).kln = s.kln := (State.raise_kln _ n info).trans (State.setCause_kln s n true)
@[simp] theorem State.raiseCond_btu (s : State) (n info : Nat) : (s.raiseCond n info).btu = s.btu := (State.raise_btu _ n info).trans (State.setCause_btu s n true)
@[simp] theorem State.raiseCond_tap (s : State) (n info : Nat) : (s.raiseCond n info).tap = s.tap := (State.raise_tap _ n info).trans (State.setCause_tap s n true)
@[simp] theorem State.raiseCond_mtx (s : State) (n info : Nat) : (s.raiseCond n info).mtx = s.mtx := (State.raise_mtx _ n info).trans (State.setCause_mtx s n true)
@[simp] theorem State.raiseCond_out (s : State) (n info : Nat) : (s.raiseCond n info).out = s.out := (State.raise_out _ n info).trans (State.setCause_out s n true)

/-! send -/
@[simp] theorem State.send_pending (s : State) (m : OutMsg) : (s.send m).pending = s.pending := rfl
@[simp] theorem State.send_free (s : State) (m : OutMsg) : (s.send m).free = s.free := rfl
@[simp] theorem State.send_dt (s : State) (m : OutMsg) : (s.send m).dt = s.dt := rfl
@[simp] theorem State.send_tick (s : State) (m : OutMsg) : (s.send m).tick = s.tick := rfl
@[simp] theorem State.send_regs (s : State) (m : OutMsg) : (s.send m).regs = s.regs := rfl
@[simp] theorem State.send_eff (s : State) (m : OutMsg) : (s.send m).eff = s.eff := rfl
@[simp] theorem State.send_shadow (s : State) (m : OutMsg) : (s.send m).shadow = s.shadow := rfl
@[simp] theorem State.send_pins (s : State) (m : OutMsg) : (s.send m).pins = s.pins := rfl
@[simp] theorem State.send_marker (s : State) (m : OutMsg) : (s.send m).marker = s.marker := rfl
@[simp] theorem State.send_started (s : State) (m : OutMsg) : (s.send m).started = s.started := rfl
@[simp] theorem State.send_tiles (s : State) (m : OutMsg) : (s.send m).tiles = s.tiles := rfl
@[simp] theorem State.send_swaps (s : State) (m : OutMsg) : (s.send m).swaps = s.swaps := rfl
@[simp] theorem State.send_fab (s : State) (m : OutMsg) : (s.send m).fab = s.fab := rfl
@[simp] theorem State.send_txn (s : State) (m : OutMsg) : (s.send m).txn = s.txn := rfl
@[simp] theorem State.send_flt (s : State) (m : OutMsg) : (s.send m).flt = s.flt := rfl
@[simp] theorem State.send_tmu (s : State) (m : OutMsg) : (s.send m).tmu = s.tmu := rfl
@[simp] theorem State.send_cal (s : State) (m : OutMsg) : (s.send m).cal = s.cal := rfl
@[simp] theorem State.send_adm (s : State) (m : OutMsg) : (s.send m).adm = s.adm := rfl
@[simp] theorem State.send_hif (s : State) (m : OutMsg) : (s.send m).hif = s.hif := rfl
@[simp] theorem State.send_cpx (s : State) (m : OutMsg) : (s.send m).cpx = s.cpx := rfl
@[simp] theorem State.send_twn (s : State) (m : OutMsg) : (s.send m).twn = s.twn := rfl
@[simp] theorem State.send_siu (s : State) (m : OutMsg) : (s.send m).siu = s.siu := rfl
@[simp] theorem State.send_kln (s : State) (m : OutMsg) : (s.send m).kln = s.kln := rfl
@[simp] theorem State.send_btu (s : State) (m : OutMsg) : (s.send m).btu = s.btu := rfl
@[simp] theorem State.send_tap (s : State) (m : OutMsg) : (s.send m).tap = s.tap := rfl
@[simp] theorem State.send_mtx (s : State) (m : OutMsg) : (s.send m).mtx = s.mtx := rfl

/-! advance -/
@[simp] theorem State.advance_pending (s : State) (n : Nat) : (s.advance n).pending = s.pending := rfl
@[simp] theorem State.advance_free (s : State) (n : Nat) : (s.advance n).free = s.free := rfl
@[simp] theorem State.advance_regs (s : State) (n : Nat) : (s.advance n).regs = s.regs := rfl
@[simp] theorem State.advance_eff (s : State) (n : Nat) : (s.advance n).eff = s.eff := rfl
@[simp] theorem State.advance_shadow (s : State) (n : Nat) : (s.advance n).shadow = s.shadow := rfl
@[simp] theorem State.advance_pins (s : State) (n : Nat) : (s.advance n).pins = s.pins := rfl
@[simp] theorem State.advance_marker (s : State) (n : Nat) : (s.advance n).marker = s.marker := rfl
@[simp] theorem State.advance_started (s : State) (n : Nat) : (s.advance n).started = s.started := rfl
@[simp] theorem State.advance_tiles (s : State) (n : Nat) : (s.advance n).tiles = s.tiles := rfl
@[simp] theorem State.advance_swaps (s : State) (n : Nat) : (s.advance n).swaps = s.swaps := rfl
@[simp] theorem State.advance_fab (s : State) (n : Nat) : (s.advance n).fab = s.fab := rfl
@[simp] theorem State.advance_txn (s : State) (n : Nat) : (s.advance n).txn = s.txn := rfl
@[simp] theorem State.advance_flt (s : State) (n : Nat) : (s.advance n).flt = s.flt := rfl
@[simp] theorem State.advance_tmu (s : State) (n : Nat) : (s.advance n).tmu = s.tmu := rfl
@[simp] theorem State.advance_cal (s : State) (n : Nat) : (s.advance n).cal = s.cal := rfl
@[simp] theorem State.advance_adm (s : State) (n : Nat) : (s.advance n).adm = s.adm := rfl
@[simp] theorem State.advance_hif (s : State) (n : Nat) : (s.advance n).hif = s.hif := rfl
@[simp] theorem State.advance_cpx (s : State) (n : Nat) : (s.advance n).cpx = s.cpx := rfl
@[simp] theorem State.advance_twn (s : State) (n : Nat) : (s.advance n).twn = s.twn := rfl
@[simp] theorem State.advance_siu (s : State) (n : Nat) : (s.advance n).siu = s.siu := rfl
@[simp] theorem State.advance_kln (s : State) (n : Nat) : (s.advance n).kln = s.kln := rfl
@[simp] theorem State.advance_btu (s : State) (n : Nat) : (s.advance n).btu = s.btu := rfl
@[simp] theorem State.advance_tap (s : State) (n : Nat) : (s.advance n).tap = s.tap := rfl
@[simp] theorem State.advance_mtx (s : State) (n : Nat) : (s.advance n).mtx = s.mtx := rfl
@[simp] theorem State.advance_out (s : State) (n : Nat) : (s.advance n).out = s.out := rfl

/-! advanceTo -/
@[simp] theorem State.advanceTo_pending (s : State) (t : Nat) : (s.advanceTo t).pending = s.pending := by
  unfold State.advanceTo
  split <;> rfl
@[simp] theorem State.advanceTo_free (s : State) (t : Nat) : (s.advanceTo t).free = s.free := by
  unfold State.advanceTo
  split <;> rfl
@[simp] theorem State.advanceTo_regs (s : State) (t : Nat) : (s.advanceTo t).regs = s.regs := by
  unfold State.advanceTo
  split <;> rfl
@[simp] theorem State.advanceTo_eff (s : State) (t : Nat) : (s.advanceTo t).eff = s.eff := by
  unfold State.advanceTo
  split <;> rfl
@[simp] theorem State.advanceTo_shadow (s : State) (t : Nat) : (s.advanceTo t).shadow = s.shadow := by
  unfold State.advanceTo
  split <;> rfl
@[simp] theorem State.advanceTo_pins (s : State) (t : Nat) : (s.advanceTo t).pins = s.pins := by
  unfold State.advanceTo
  split <;> rfl
@[simp] theorem State.advanceTo_marker (s : State) (t : Nat) : (s.advanceTo t).marker = s.marker := by
  unfold State.advanceTo
  split <;> rfl
@[simp] theorem State.advanceTo_started (s : State) (t : Nat) : (s.advanceTo t).started = s.started := by
  unfold State.advanceTo
  split <;> rfl
@[simp] theorem State.advanceTo_tiles (s : State) (t : Nat) : (s.advanceTo t).tiles = s.tiles := by
  unfold State.advanceTo
  split <;> rfl
@[simp] theorem State.advanceTo_swaps (s : State) (t : Nat) : (s.advanceTo t).swaps = s.swaps := by
  unfold State.advanceTo
  split <;> rfl
@[simp] theorem State.advanceTo_fab (s : State) (t : Nat) : (s.advanceTo t).fab = s.fab := by
  unfold State.advanceTo
  split <;> rfl
@[simp] theorem State.advanceTo_txn (s : State) (t : Nat) : (s.advanceTo t).txn = s.txn := by
  unfold State.advanceTo
  split <;> rfl
@[simp] theorem State.advanceTo_flt (s : State) (t : Nat) : (s.advanceTo t).flt = s.flt := by
  unfold State.advanceTo
  split <;> rfl
@[simp] theorem State.advanceTo_tmu (s : State) (t : Nat) : (s.advanceTo t).tmu = s.tmu := by
  unfold State.advanceTo
  split <;> rfl
@[simp] theorem State.advanceTo_cal (s : State) (t : Nat) : (s.advanceTo t).cal = s.cal := by
  unfold State.advanceTo
  split <;> rfl
@[simp] theorem State.advanceTo_adm (s : State) (t : Nat) : (s.advanceTo t).adm = s.adm := by
  unfold State.advanceTo
  split <;> rfl
@[simp] theorem State.advanceTo_hif (s : State) (t : Nat) : (s.advanceTo t).hif = s.hif := by
  unfold State.advanceTo
  split <;> rfl
@[simp] theorem State.advanceTo_cpx (s : State) (t : Nat) : (s.advanceTo t).cpx = s.cpx := by
  unfold State.advanceTo
  split <;> rfl
@[simp] theorem State.advanceTo_twn (s : State) (t : Nat) : (s.advanceTo t).twn = s.twn := by
  unfold State.advanceTo
  split <;> rfl
@[simp] theorem State.advanceTo_siu (s : State) (t : Nat) : (s.advanceTo t).siu = s.siu := by
  unfold State.advanceTo
  split <;> rfl
@[simp] theorem State.advanceTo_kln (s : State) (t : Nat) : (s.advanceTo t).kln = s.kln := by
  unfold State.advanceTo
  split <;> rfl
@[simp] theorem State.advanceTo_btu (s : State) (t : Nat) : (s.advanceTo t).btu = s.btu := by
  unfold State.advanceTo
  split <;> rfl
@[simp] theorem State.advanceTo_tap (s : State) (t : Nat) : (s.advanceTo t).tap = s.tap := by
  unfold State.advanceTo
  split <;> rfl
@[simp] theorem State.advanceTo_mtx (s : State) (t : Nat) : (s.advanceTo t).mtx = s.mtx := by
  unfold State.advanceTo
  split <;> rfl
@[simp] theorem State.advanceTo_out (s : State) (t : Nat) : (s.advanceTo t).out = s.out := by
  unfold State.advanceTo
  split <;> rfl

/-! setTile -/
@[simp] theorem State.setTile_pending (s : State) (t : Nat) (v : Tile) : (s.setTile t v).pending = s.pending := rfl
@[simp] theorem State.setTile_free (s : State) (t : Nat) (v : Tile) : (s.setTile t v).free = s.free := rfl
@[simp] theorem State.setTile_dt (s : State) (t : Nat) (v : Tile) : (s.setTile t v).dt = s.dt := rfl
@[simp] theorem State.setTile_tick (s : State) (t : Nat) (v : Tile) : (s.setTile t v).tick = s.tick := rfl
@[simp] theorem State.setTile_regs (s : State) (t : Nat) (v : Tile) : (s.setTile t v).regs = s.regs := rfl
@[simp] theorem State.setTile_eff (s : State) (t : Nat) (v : Tile) : (s.setTile t v).eff = s.eff := rfl
@[simp] theorem State.setTile_shadow (s : State) (t : Nat) (v : Tile) : (s.setTile t v).shadow = s.shadow := rfl
@[simp] theorem State.setTile_pins (s : State) (t : Nat) (v : Tile) : (s.setTile t v).pins = s.pins := rfl
@[simp] theorem State.setTile_marker (s : State) (t : Nat) (v : Tile) : (s.setTile t v).marker = s.marker := rfl
@[simp] theorem State.setTile_started (s : State) (t : Nat) (v : Tile) : (s.setTile t v).started = s.started := rfl
@[simp] theorem State.setTile_swaps (s : State) (t : Nat) (v : Tile) : (s.setTile t v).swaps = s.swaps := rfl
@[simp] theorem State.setTile_fab (s : State) (t : Nat) (v : Tile) : (s.setTile t v).fab = s.fab := rfl
@[simp] theorem State.setTile_txn (s : State) (t : Nat) (v : Tile) : (s.setTile t v).txn = s.txn := rfl
@[simp] theorem State.setTile_flt (s : State) (t : Nat) (v : Tile) : (s.setTile t v).flt = s.flt := rfl
@[simp] theorem State.setTile_tmu (s : State) (t : Nat) (v : Tile) : (s.setTile t v).tmu = s.tmu := rfl
@[simp] theorem State.setTile_cal (s : State) (t : Nat) (v : Tile) : (s.setTile t v).cal = s.cal := rfl
@[simp] theorem State.setTile_adm (s : State) (t : Nat) (v : Tile) : (s.setTile t v).adm = s.adm := rfl
@[simp] theorem State.setTile_hif (s : State) (t : Nat) (v : Tile) : (s.setTile t v).hif = s.hif := rfl
@[simp] theorem State.setTile_cpx (s : State) (t : Nat) (v : Tile) : (s.setTile t v).cpx = s.cpx := rfl
@[simp] theorem State.setTile_twn (s : State) (t : Nat) (v : Tile) : (s.setTile t v).twn = s.twn := rfl
@[simp] theorem State.setTile_siu (s : State) (t : Nat) (v : Tile) : (s.setTile t v).siu = s.siu := rfl
@[simp] theorem State.setTile_kln (s : State) (t : Nat) (v : Tile) : (s.setTile t v).kln = s.kln := rfl
@[simp] theorem State.setTile_btu (s : State) (t : Nat) (v : Tile) : (s.setTile t v).btu = s.btu := rfl
@[simp] theorem State.setTile_tap (s : State) (t : Nat) (v : Tile) : (s.setTile t v).tap = s.tap := rfl
@[simp] theorem State.setTile_mtx (s : State) (t : Nat) (v : Tile) : (s.setTile t v).mtx = s.mtx := rfl
@[simp] theorem State.setTile_out (s : State) (t : Nat) (v : Tile) : (s.setTile t v).out = s.out := rfl

/-! modTile -/
@[simp] theorem State.modTile_pending (s : State) (t : Nat) (g : Tile → Tile) : (s.modTile t g).pending = s.pending := State.setTile_pending s t _
@[simp] theorem State.modTile_free (s : State) (t : Nat) (g : Tile → Tile) : (s.modTile t g).free = s.free := State.setTile_free s t _
@[simp] theorem State.modTile_dt (s : State) (t : Nat) (g : Tile → Tile) : (s.modTile t g).dt = s.dt := State.setTile_dt s t _
@[simp] theorem State.modTile_tick (s : State) (t : Nat) (g : Tile → Tile) : (s.modTile t g).tick = s.tick := State.setTile_tick s t _
@[simp] theorem State.modTile_regs (s : State) (t : Nat) (g : Tile → Tile) : (s.modTile t g).regs = s.regs := State.setTile_regs s t _
@[simp] theorem State.modTile_eff (s : State) (t : Nat) (g : Tile → Tile) : (s.modTile t g).eff = s.eff := State.setTile_eff s t _
@[simp] theorem State.modTile_shadow (s : State) (t : Nat) (g : Tile → Tile) : (s.modTile t g).shadow = s.shadow := State.setTile_shadow s t _
@[simp] theorem State.modTile_pins (s : State) (t : Nat) (g : Tile → Tile) : (s.modTile t g).pins = s.pins := State.setTile_pins s t _
@[simp] theorem State.modTile_marker (s : State) (t : Nat) (g : Tile → Tile) : (s.modTile t g).marker = s.marker := State.setTile_marker s t _
@[simp] theorem State.modTile_started (s : State) (t : Nat) (g : Tile → Tile) : (s.modTile t g).started = s.started := State.setTile_started s t _
@[simp] theorem State.modTile_swaps (s : State) (t : Nat) (g : Tile → Tile) : (s.modTile t g).swaps = s.swaps := State.setTile_swaps s t _
@[simp] theorem State.modTile_fab (s : State) (t : Nat) (g : Tile → Tile) : (s.modTile t g).fab = s.fab := State.setTile_fab s t _
@[simp] theorem State.modTile_txn (s : State) (t : Nat) (g : Tile → Tile) : (s.modTile t g).txn = s.txn := State.setTile_txn s t _
@[simp] theorem State.modTile_flt (s : State) (t : Nat) (g : Tile → Tile) : (s.modTile t g).flt = s.flt := State.setTile_flt s t _
@[simp] theorem State.modTile_tmu (s : State) (t : Nat) (g : Tile → Tile) : (s.modTile t g).tmu = s.tmu := State.setTile_tmu s t _
@[simp] theorem State.modTile_cal (s : State) (t : Nat) (g : Tile → Tile) : (s.modTile t g).cal = s.cal := State.setTile_cal s t _
@[simp] theorem State.modTile_adm (s : State) (t : Nat) (g : Tile → Tile) : (s.modTile t g).adm = s.adm := State.setTile_adm s t _
@[simp] theorem State.modTile_hif (s : State) (t : Nat) (g : Tile → Tile) : (s.modTile t g).hif = s.hif := State.setTile_hif s t _
@[simp] theorem State.modTile_cpx (s : State) (t : Nat) (g : Tile → Tile) : (s.modTile t g).cpx = s.cpx := State.setTile_cpx s t _
@[simp] theorem State.modTile_twn (s : State) (t : Nat) (g : Tile → Tile) : (s.modTile t g).twn = s.twn := State.setTile_twn s t _
@[simp] theorem State.modTile_siu (s : State) (t : Nat) (g : Tile → Tile) : (s.modTile t g).siu = s.siu := State.setTile_siu s t _
@[simp] theorem State.modTile_kln (s : State) (t : Nat) (g : Tile → Tile) : (s.modTile t g).kln = s.kln := State.setTile_kln s t _
@[simp] theorem State.modTile_btu (s : State) (t : Nat) (g : Tile → Tile) : (s.modTile t g).btu = s.btu := State.setTile_btu s t _
@[simp] theorem State.modTile_tap (s : State) (t : Nat) (g : Tile → Tile) : (s.modTile t g).tap = s.tap := State.setTile_tap s t _
@[simp] theorem State.modTile_mtx (s : State) (t : Nat) (g : Tile → Tile) : (s.modTile t g).mtx = s.mtx := State.setTile_mtx s t _
@[simp] theorem State.modTile_out (s : State) (t : Nat) (g : Tile → Tile) : (s.modTile t g).out = s.out := State.setTile_out s t _

/-! setShadow -/
@[simp] theorem State.setShadow_pending (s : State) (b : Bool) (o v : Nat) : (s.setShadow b o v).pending = s.pending := rfl
@[simp] theorem State.setShadow_free (s : State) (b : Bool) (o v : Nat) : (s.setShadow b o v).free = s.free := rfl
@[simp] theorem State.setShadow_dt (s : State) (b : Bool) (o v : Nat) : (s.setShadow b o v).dt = s.dt := rfl
@[simp] theorem State.setShadow_tick (s : State) (b : Bool) (o v : Nat) : (s.setShadow b o v).tick = s.tick := rfl
@[simp] theorem State.setShadow_regs (s : State) (b : Bool) (o v : Nat) : (s.setShadow b o v).regs = s.regs := rfl
@[simp] theorem State.setShadow_eff (s : State) (b : Bool) (o v : Nat) : (s.setShadow b o v).eff = s.eff := rfl
@[simp] theorem State.setShadow_pins (s : State) (b : Bool) (o v : Nat) : (s.setShadow b o v).pins = s.pins := rfl
@[simp] theorem State.setShadow_marker (s : State) (b : Bool) (o v : Nat) : (s.setShadow b o v).marker = s.marker := rfl
@[simp] theorem State.setShadow_started (s : State) (b : Bool) (o v : Nat) : (s.setShadow b o v).started = s.started := rfl
@[simp] theorem State.setShadow_tiles (s : State) (b : Bool) (o v : Nat) : (s.setShadow b o v).tiles = s.tiles := rfl
@[simp] theorem State.setShadow_swaps (s : State) (b : Bool) (o v : Nat) : (s.setShadow b o v).swaps = s.swaps := rfl
@[simp] theorem State.setShadow_fab (s : State) (b : Bool) (o v : Nat) : (s.setShadow b o v).fab = s.fab := rfl
@[simp] theorem State.setShadow_txn (s : State) (b : Bool) (o v : Nat) : (s.setShadow b o v).txn = s.txn := rfl
@[simp] theorem State.setShadow_flt (s : State) (b : Bool) (o v : Nat) : (s.setShadow b o v).flt = s.flt := rfl
@[simp] theorem State.setShadow_tmu (s : State) (b : Bool) (o v : Nat) : (s.setShadow b o v).tmu = s.tmu := rfl
@[simp] theorem State.setShadow_cal (s : State) (b : Bool) (o v : Nat) : (s.setShadow b o v).cal = s.cal := rfl
@[simp] theorem State.setShadow_adm (s : State) (b : Bool) (o v : Nat) : (s.setShadow b o v).adm = s.adm := rfl
@[simp] theorem State.setShadow_hif (s : State) (b : Bool) (o v : Nat) : (s.setShadow b o v).hif = s.hif := rfl
@[simp] theorem State.setShadow_cpx (s : State) (b : Bool) (o v : Nat) : (s.setShadow b o v).cpx = s.cpx := rfl
@[simp] theorem State.setShadow_twn (s : State) (b : Bool) (o v : Nat) : (s.setShadow b o v).twn = s.twn := rfl
@[simp] theorem State.setShadow_siu (s : State) (b : Bool) (o v : Nat) : (s.setShadow b o v).siu = s.siu := rfl
@[simp] theorem State.setShadow_kln (s : State) (b : Bool) (o v : Nat) : (s.setShadow b o v).kln = s.kln := rfl
@[simp] theorem State.setShadow_btu (s : State) (b : Bool) (o v : Nat) : (s.setShadow b o v).btu = s.btu := rfl
@[simp] theorem State.setShadow_tap (s : State) (b : Bool) (o v : Nat) : (s.setShadow b o v).tap = s.tap := rfl
@[simp] theorem State.setShadow_mtx (s : State) (b : Bool) (o v : Nat) : (s.setShadow b o v).mtx = s.mtx := rfl
@[simp] theorem State.setShadow_out (s : State) (b : Bool) (o v : Nat) : (s.setShadow b o v).out = s.out := rfl

end Sys2Proof.Machine
end

