-- ==== Sys2Proof/Tests/Slice0.lean ====
section
/-! SUPPORT. Tests of the model: what `wellFormed` refuses, worked examples of the spec, and for every statement of
Certificates/Slice0/Obligations.lean a concrete state that meets its hypotheses (`wit_…`). -/

set_option Elab.async false

open Sys2Proof Sys2Proof.Machine Sys2Proof.Machine.Reg

/-! ### States to test on -/

/-- Both resets released, in start-up state `st`, with role `r`. -/
def fixUp (st r : Nat) : State := (({ ({} : State) with pins := { porstN := true } } : State).setReg BTU_STATE_STATE 0 st).setReg TWN_STATUS_ROLE 0 r

/-- In `RUN` with role `SOLO`. -/
def fixRun : State := fixUp 4 2

/-- Domain 0 owned and driving, with tile 0 populated. -/
def fixDrives : State :=
  let s := fixRun.setReg KFI_STATUS_OWN 0 1
  { s with fab := { s.fab with desc := some { tileMask := 1, rowMask := [65535] }, ownReady := 1, ownSensed := 1 } }

/-- A host command of kind `k` with these descriptor bytes set. -/
def fixCmd (k : Nat) (bs : List (Nat × Nat)) (data : List Byte := []) : HostCmd :=
  { ring := 0, data := data
    desc := bs.foldl (fun l p => l.set p.1 (BitVec.ofNat 8 p.2)) (BitVec.ofNat 8 k :: List.replicate 63 0) }

/-- Transaction `t` in slot 0. -/
def fixSlot (t : Txn) : State := (fixDrives.setSlot 0 t).modTile 0 (fun tl => { tl with leafOk := true })

/-- A paired device with TL up, in a role. -/
def fixTwin (r : Nat) : State :=
  let s := ((fixDrives.setReg TWN_STATUS_ROLE 0 r).setFlag TWN_STATUS_TL_UP 0 true).setFlag SIU_STATUS_PRES_OPEN 0 true
  let s := (s.setFlag TWN_STATUS_TWIN_SEEN 0 true).setReg TWN_STATUS_TWIN_ROLE 0 (if r = 1 then 0 else 1)
  { s with twn := { s.twn with paired := true, twinSynced := true, hbAt := some 0 }, btu := { s.btu with row := 4 } }

/-- A TL frame to the device with strap 0. -/
def fixTl (type : Nat) (body : List Byte) : List Byte :=
  let m := leBytes 1 1 ++ leBytes 1 type ++ beBytes 2 (16 + body.length) ++ beBytes 8 7 ++ leBytes 4 0 ++ body
  withFcs (beBytes 6 0x025A4B000000 ++ beBytes 6 0x025A4B000001 ++ beBytes 2 0x88B5 ++ (if m.length < 46 then padTo 46 m else m))

/-- The command stands fetched in its ring, and host memory may be reached. -/
def fixHas (s : State) (c : HostCmd) : State :=
  (({ s with hif := { s.hif with link := true } } : State).setFlag HIF_STATUS_BME 0 true).modRing c.ring (fun g =>
    { g with st := 1, cmds := [{ cmdId := c.cmdId, order := false, irq := false, desc := c.desc }] })

theorem crc32_of_fold (l : List Byte) (v : Nat) (h : (l.drop 0).foldl crcByte 0xFFFFFFFF = v) : crc32 l = Nat.xor v 0xFFFFFFFF := by
  subst h
  rfl

theorem Cask.signed_valid (c : Cask) (h : c.magic = 0x4B53434B) (f : c.fmtVer = 1) : c.signed.valid = true := by
  simp [Cask.valid, Cask.signed, Cask.header, Cask.body, h, f]

/-- A cask copy that this device sealed. -/
def fixCask (gen : Nat) : Cask :=
  Cask.signed { gen := gen, dieId := Config.dieId.toNat, base := List.replicate 16 3, cfg0 := 0xC64, cfg1 := 0x1E03C, crc := siuCrc 0xC64 0x1E03C
                thr := 0, throttle := 0, ctrl := 0, twn := 0 }

theorem fixCask_valid (gen : Nat) : (fixCask gen).valid = true := Cask.signed_valid _ rfl rfl

/-- A GCRP request at a port. -/
def fixReq (p : Nat) : GcrpReq := { port := p, srcAddr := 0, srcPort := 0, msg := [] }

/-- Transaction `t` in slot 0 of a device that owns no tile, with a QUENCH tick at tick q. -/
def fixFar (q : Nat) (t : Txn) : State := { ((fixRun.setSlot 0 t)) with txn := { ((fixRun.setSlot 0 t)).txn with quenchAt := some q } }

/-- State `s` at its QUENCH tick q, the tiles still to come. -/
def farEnds (s : State) (q : Nat) : State := ({ (s.advanceTo q) with txn := { s.txn with quenchAt := none } }).forEach State.quenchTxn allSlots

theorem foldl_keeps {α β γ : Type} (p : α → γ) (f : α → β → α) (h : ∀ a b, p (f a b) = p a) : ∀ (l : List β) (a : α), p (l.foldl f a) = p a
  | [], _ => rfl
  | b :: l, a => (foldl_keeps p f h l (f a b)).trans (h a b)

theorem tlRun_txn (k : Nat) : ∀ s : State, (State.tlRun k s).txn = s.txn := by
  induction k with
  | zero => intro s; rfl
  | succ k ih =>
    intro s; unfold State.tlRun; split; rfl; split
    · split
      · rw [ih]; rfl
      · rfl
    · rfl

/-- A QUENCH tick touches no tile that is not owned, and what follows leaves the transactions. -/
theorem far_quenched (s : State) (q : Nat) (hq : s.txn.quenchAt = some q) (h : (farEnds s q).reg KFI_STATUS_OWN = 0) :
    s.quenchTick.txn = (farEnds s q).txn := by
  have no : ∀ k, (farEnds s q).ownsTile k = false := by
    intro k; unfold State.ownsTile State.owns; rw [h]; simp [bit]
  have far : ∀ l : List Nat, (farEnds s q).forEach (fun s k => if s.ownsTile k && s.populated k then s.quenchTile q k else s) l = farEnds s q := by
    intro l
    induction l with
    | nil => simp only [State.forEach, List.foldl_nil]
    | cons k l ih =>
      simp only [State.forEach, List.foldl_cons, no, Bool.false_and, Bool.false_eq_true, if_false]
      exact ih
  have note : ∀ (s : State) (a b c e f g i j : Nat) (d : Option Nat), (s.note a b c d e f g i j).txn = s.txn := by
    intros
    unfold State.note; split
    · rfl
    · unfold State.sendTl; split
      · rfl
      · simp only [State.tlGo, tlRun_txn]
  have modes : ∀ s : State, (s.forEach State.refreshModes allTiles).txn = s.txn := by
    intro s; exact foldl_keeps State.txn State.refreshModes (fun s k => by simp [State.refreshModes]) allTiles s
  have step : s.quenchTick = ((((((farEnds s q).forEach (fun s k => if s.ownsTile k && s.populated k then s.quenchTile q k else s) allTiles).refreshQuench).setDtRegs
      TXN_QDT_NS_NS TXN_QDT_FRAC_FRAC TXN_QDT_SEC_LO_SEC_LO TXN_QDT_SEC_HI_SEC_HI (dtOf q)).inc TXN_CNT2_QUENCHES).forEach State.refreshModes
      allTiles).note 0xFFFF 4 0 (some q) 0 0xFFFF 0 0 0 := by
    unfold State.quenchTick; rw [hq]; rfl
  rw [step, far, note, modes]
  simp [State.setDtRegs, State.refreshQuench]

theorem far_arming : ((fixFar 3 { st := .arming, tiles := [0], deadline := 5 }).quenchTick.slot 0).st = .free := by
  rw [State.slot, far_quenched _ 3 rfl (by decide +kernel)]; decide +kernel

theorem far_armed : ((fixFar 3 { st := .armed, commit := some 5, tiles := [0] }).quenchTick.slot 0).st ≠ .armed := by
  rw [State.slot, far_quenched _ 3 rfl (by decide +kernel)]; decide +kernel

/-- A staged transaction with a TXN_ABORT fetched, and a QUENCH tick at 0. -/
def farAbort : State := fixHas (fixFar 0 { st := .staged }) (fixCmd 4 [])

theorem farAbort_quenched : (farAbort.startCmd (farAbort.asFetched (fixCmd 4 []))).quenchTick.findHandle 0 = none := by
  unfold State.findHandle State.slot
  rw [far_quenched _ 0 rfl (by decide +kernel)]; decide +kernel
/-! ### Operands out of range are refused -/

theorem test_ill_formed_1 : (
   [.slotStart 32 [], .slotStart 0 [(96, 0)], .slotStart 0 [(0, 8)], .columnCurrentLimit 96 0 false, .columnCurrentLimit 0 8 false,
    .frfBiasLimit 96 false, .sampleRecord 96 0 0 0 0 false false, .sampleRecord 0 32 0 0 0 false false,
    .sampleRecord 0 0 8 0 0 false false, .sampleRecord 0 0 0 16384 0 false false, .sampleRecord 0 0 0 0 16384 false false,
    .rangeFiner 96 0 0, .rangeFiner 0 128 0, .rangeFiner 0 0 2, .senseFaultRun 96 0 0, .senseFaultRun 0 128 0, .senseFaultRun 0 0 2,
    .loopRowUpdate 96 0, .loopRowUpdate 0 16, .loopFreeze 96 0, .loopFreeze 0 128, .reacqEnd 96 0, .reacqEnd 0 128,
    .divergenceEpisode 96 0] : List Instr).all (fun i => !i.wellFormed) = true := by decide +kernel

theorem test_ill_formed_2 : (
   [.divergenceEpisode 0 128, .holdMaxExpiry 96 0, .holdMaxExpiry 0 128, .driftFlag 96 0, .driftFlag 0 128, .scarabStep 96 0 0,
    .scarabCalDone 96 false, .scarabOverlapStart 96, .senseStartupCalDone 96 0 0 0, .senseStartupCalDone 0 512 0 0,
    .senseStartupCalDone 0 0 256 0, .senseStartupCalDone 0 0 0 256, .lineCheck 96, .lineCheckDone 96 0, .lineCheckDone 0 256,
    .ownxChange 8 false, .ownershipConflict 8, .descriptorBlockDone (List.replicate 257 0) false, .spanChange 96 0,
    .spanChange 0 (2 ^ 32), .parkDwellEnd 96, .steepDwellEnd 96, .burstsEnd 96, .clearBurstEnd 96] : List Instr).all (fun i => !i.wellFormed) = true := by decide +kernel

theorem test_ill_formed_3 : (
   [.announceReceived { port := 2 } [] 0 false, .announceReceived { port := 0, domain := 256 } [] 0 false,
    .announceReceived { port := 0, seq := 65536 } [] 0 false, .announceReceived { port := 0 } [] 65536 false,
    .syncReceived { port := 2 } 0 false, .syncReceived { port := 0, domain := 256 } 0 false,
    .syncReceived { port := 0, seq := 65536 } 0 false, .followUpReceived { port := 2 } 0,
    .followUpReceived { port := 0, domain := 256 } 0, .followUpReceived { port := 0, seq := 65536 } 0,
    .delayRespReceived { port := 2 } 0, .delayRespReceived { port := 0, domain := 256 } 0,
    .delayRespReceived { port := 0, seq := 65536 } 0, .pdelayReqSend 2 0, .pdelayReqReceived { port := 2 } 0,
    .pdelayReqReceived { port := 0, domain := 256 } 0, .pdelayReqReceived { port := 0, seq := 65536 } 0,
    .pdelayRespReceived { port := 2 } 0, .pdelayRespReceived { port := 0, domain := 256 } 0,
    .pdelayRespReceived { port := 0, seq := 65536 } 0, .tmuCtrlWrite (2 ^ 32),
    .timeStepAccept { ring := 65536, desc := List.replicate 64 0 }, .timeStepAccept { ring := 0, desc := List.replicate 63 0 },
    .timeStepExplicit { ring := 65536, desc := List.replicate 64 0 }] : List Instr).all (fun i => !i.wellFormed) = true := by decide +kernel

theorem test_ill_formed_4 : (
   [.timeStepExplicit { ring := 0, desc := List.replicate 63 0 }, .treeCalDone (List.replicate 95 none),
    .treeRemeasure (List.replicate 97 none), .returnCalDone 8 (List.replicate 12 none), .returnCalDone 0 (List.replicate 96 none),
    .toutArm 4, .toutStop 4, .toutEdge 4, .tcapEdge 4 0 false, .tcapRead .kick 0, .tcapRead .host 4, .latchingRegisterRead .kick 0,
    .latchingRegisterRead .host 2, .latchingRegisterRead .host 0x1000000, .tcEgressTimeout 2,
    .objectLoad { ring := 65536, desc := List.replicate 64 0 }, .objectLoad { ring := 0, desc := List.replicate 63 0 },
    .txnStage { ring := 65536, desc := List.replicate 64 0 }, .txnStage { ring := 0, desc := List.replicate 63 0 }, .stageCopyDone 63,
    .txnArm { ring := 65536, desc := List.replicate 64 0 }, .txnArm { ring := 0, desc := List.replicate 63 0 },
    .txnAbort { ring := 65536, desc := List.replicate 64 0 }, .txnAbort { ring := 0, desc := List.replicate 63 0 }] : List Instr).all (fun i => !i.wellFormed) = true := by decide +kernel

theorem test_ill_formed_5 : (
   [.armedReport 96 0, .armedReport 0 2, .armDeadline 63, .commitTick 65536, .verifyWindowClose 96 0, .verifyWindowClose 0 65536,
    .verifyOutcome 96 0, .verifyOutcome 0 65536, .tableWrite { ring := 65536, desc := List.replicate 64 0 },
    .tableWrite { ring := 0, desc := List.replicate 63 0 }, .tableCommit { ring := 65536, desc := List.replicate 64 0 },
    .tableCommit { ring := 0, desc := List.replicate 63 0 }, .calendarStart { ring := 65536, desc := List.replicate 64 0 },
    .calendarStart { ring := 0, desc := List.replicate 63 0 }, .stopBoundary { ring := 65536, desc := List.replicate 64 0 },
    .stopBoundary { ring := 0, desc := List.replicate 63 0 }, .stopNow { ring := 65536, desc := List.replicate 64 0 },
    .stopNow { ring := 0, desc := List.replicate 63 0 }, .calendarSwap { ring := 65536, desc := List.replicate 64 0 },
    .calendarSwap { ring := 0, desc := List.replicate 63 0 }, .calIssuePoint 16, .calCycleBoundary 16, .linkUp 2,
    .linkDown 2 false false false] : List Instr).all (fun i => !i.wellFormed) = true := by decide +kernel

theorem test_ill_formed_6 : (
   [.frameReceived { port := 2, bytes := [] }, .reorderTimeout 2, .arpRequest 2 [], .neighbourSolicitation 2 [], .planSelect (fixReq 2),
    .editApply (fixReq 2), .circuit (fixReq 2), .query (fixReq 2), .sessionOpen (fixReq 2), .sessionClose (fixReq 2),
    .heartbeat (fixReq 2), .sessionIdleExpiry 16384, .quarantineEnd 16384, .hostInterfaceEnable (2 ^ 32), .adminRingEnable (2 ^ 32),
    .eventRingEnable (2 ^ 32), .kickGroup 1024, .kickEvtCi { ci := 65536 }, .doorbellLineDone 1024 (List.replicate 64 0) false,
    .doorbellLineDone 0 (List.replicate 63 0) false, .doorbellLineDone 0 (2 ^ 32 :: List.replicate 63 0) false,
    .descriptorReturned { ring := 65536, desc := List.replicate 64 0 } false,
    .descriptorReturned { ring := 0, desc := List.replicate 63 0 } false, .coalesceTimer (some 65536)] : List Instr).all (fun i => !i.wellFormed) = true := by decide +kernel

theorem test_ill_formed_7 : (
   [.calLoad { ring := 65536, desc := List.replicate 64 0 }, .calLoad { ring := 0, desc := List.replicate 63 0 },
    .calSwap { ring := 65536, desc := List.replicate 64 0 }, .calSwap { ring := 0, desc := List.replicate 63 0 },
    .calStart { ring := 65536, desc := List.replicate 64 0 }, .calStart { ring := 0, desc := List.replicate 63 0 }, .calPointEnd 96,
    .sessionOpOpen { ring := 65536, desc := List.replicate 64 0 }, .sessionOpOpen { ring := 0, desc := List.replicate 63 0 },
    .sessionOpClose { ring := 65536, desc := List.replicate 64 0 }, .sessionOpClose { ring := 0, desc := List.replicate 63 0 },
    .sessionOpSetClass { ring := 65536, desc := List.replicate 64 0 }, .sessionOpSetClass { ring := 0, desc := List.replicate 63 0 },
    .sessionOpAnswer { ring := 65536, desc := List.replicate 64 0 }, .sessionOpAnswer { ring := 0, desc := List.replicate 63 0 },
    .telemetryRead { ring := 65536, desc := List.replicate 64 0 }, .telemetryRead { ring := 0, desc := List.replicate 63 0 },
    .hkInject { ring := 65536, desc := List.replicate 64 0 }, .hkInject { ring := 0, desc := List.replicate 63 0 },
    .faultClear { ring := 65536, desc := List.replicate 64 0 }, .faultClear { ring := 0, desc := List.replicate 63 0 },
    .twinOpSwitchover { ring := 65536, desc := List.replicate 64 0 }, .twinOpSwitchover { ring := 0, desc := List.replicate 63 0 },
    .twinOpResign { ring := 65536, desc := List.replicate 64 0 }] : List Instr).all (fun i => !i.wellFormed) = true := by decide +kernel

theorem test_ill_formed_8 : (
   [.twinOpResign { ring := 0, desc := List.replicate 63 0 }, .twinOpRejoin { ring := 65536, desc := List.replicate 64 0 },
    .twinOpRejoin { ring := 0, desc := List.replicate 63 0 }, .takeover 8, .outputTest 2, .kilnReading (List.replicate 23 500),
    .hkConversionDone 4 0, .hkCalRequest (2 ^ 32), .faultInject (2 ^ 32), .softwareTrigger (2 ^ 32), .watchdogFire 96, .keyRevoke 16,
    .fence 8, .update 8, .reload 8, .loadingStart 8, .loadDone 8 false, .returnService 8, .scrub [(2 ^ 40, false)],
    .masterReset { master := 7 }, .masterReset { master := 0, held := [{ master := 7, addr := 0, beats := [] }] },
    .masterReset { master := 0, held := [{ master := 0, id := 16, addr := 0, beats := [] }] },
    .masterReset { master := 0, held := [{ master := 0, addr := 2 ^ 40, beats := [] }] },
    .masterReset { master := 0, held := [{ master := 0, addr := 0, beats := [], delivered := some 1 }] }] : List Instr).all (fun i => !i.wellFormed) = true := by decide +kernel

theorem test_ill_formed_9 : (
   [.retirementDone 7, .registerWrite .host 2 0, .registerWrite .host 0x1000000 0, .registerWrite .host 0 (2 ^ 32),
    .rcRegisterRead .host 2, .rcRegisterRead .host 0x1000000, .bar0IllegalAccess false 0 3 0, .bar0IllegalAccess false 0x1000000 4 0,
    .bar0IllegalAccess false 0 4 (2 ^ 32), .samplePreload (2 ^ 2025), .mbistDone (2 ^ 13), .bypass 256, .siuChannelSample (2 ^ 12),
    .msixVectorUnmask (some 2048)] : List Instr).all (fun i => !i.wellFormed) = true := by decide +kernel

theorem test_well_formed : (
   [.slotStart 0 [], .sampleRecord 0 0 0 0 0 false false, .loopRowUpdate 0 0, .divergenceEpisode 0 0, .scarabStep 0 0 0,
    .senseStartupCalDone 0 0 0 0, .ownxChange 0 false, .spanChange 0 0, .burstsEnd 0, .syncReceived { port := 0 } 0 false,
    .pdelayReqSend 0 0, .tmuCtrlWrite 0, .treeCalDone (List.replicate 96 none), .toutArm 0, .tcapEdge 0 0 false, .tcEgressTimeout 0,
    .stageCopyDone 0, .armedReport 0 0, .verifyWindowClose 0 0, .tableCommit { ring := 0, desc := List.replicate 64 0 },
    .stopNow { ring := 0, desc := List.replicate 64 0 }, .calCycleBoundary 0, .frameReceived { port := 0, bytes := [] },
    .neighbourSolicitation 0 [], .circuit (fixReq 0), .sessionClose (fixReq 0), .quarantineEnd 0, .eventRingEnable 0,
    .doorbellLineDone 0 (List.replicate 64 0) false, .calLoad { ring := 0, desc := List.replicate 64 0 }, .calPointEnd 0,
    .sessionOpSetClass { ring := 0, desc := List.replicate 64 0 }, .hkInject { ring := 0, desc := List.replicate 64 0 },
    .twinOpResign { ring := 0, desc := List.replicate 64 0 }, .outputTest 0, .hkCalRequest 0, .watchdogFire 0, .update 0,
    .loadDone 0 false, .masterReset { master := 0 }, .rcRegisterRead .host 0, .mbistDone 0, .msixVectorUnmask none] : List Instr).all Instr.wellFormed = true := by decide +kernel

/-! ### Worked examples of the spec. Every expected value below is the spec's own. -/

/-- The gain set of the worked examples of Element Loops, with the matrices of the second. -/
def exGain : GainSet :=
  { a := [4096, 1024, 0, 0, 0, 2048, 0, 0, 0, 0, 3072, 0, 0, 0, 0, 4096], b := [0, 0, 0, 0, 1024, 0, 0, 0]
    c := [4096, 0, 0, 0, 0, 0, 0, 0], l := [2048, 0, 1024, 0, 0, 0, 256, 0], k := [8192, 2048, 0, 4096, 0, 0, 0, 0], ki := [1024, 512]
    nbrUse := 0, n := List.replicate 32 0, zmin0 := -2097152, zmax0 := 2097152, zmin1 := -2097152, zmax1 := 2097152, innovMax := 8388607 }

def exTile : Tile := { curves := { live := [(8, { pri := List.replicate 17 40100, trim := List.replicate 17 20480 })] } }

/-- Frame 10 of element 5,000: the lane before the frame. -/
def exLane : Lane := { x2 := 5120000, z0 := 49152, r := 16384, rT := 16384, uaP := 40000, uaT := 20480, gset := 18, g := 120 }

def exMeas : Option Meas :=
  measure { n1 := 119020, n2 := 118980, reason := 0, idx := 2720 } { n1 := 41012, n2 := 40988, reason := 0, idx := 2720 } 25 120

theorem test_loop_measures : exMeas = some { kappa := 16793, kappa0 := 16896, sigma := 160000 } := by decide +kernel

def exOut : LaneOut := exTile.control 8 10 exLane exGain { sRef := 160000 } exMeas

theorem test_loop_codes : exOut.codeP = 40002 ∧ exOut.codeT = 20480 ∧ exOut.lane.z0 = 49408 ∧ exOut.lane.z1 = 256 := by decide +kernel

theorem test_loop_observer : exOut.lane.x0 = 128 ∧ exOut.lane.x1 = 64 ∧ exOut.lane.x2 = 5120000 ∧ exOut.lane.x3 = 16 := by decide +kernel

/-- The burst-to-feedback handover: x̂ after step 3 is reached by an observer that holds it; ν comes from one neighbour. -/
theorem test_handover : let l : Lane := { x0 := -1024, x1 := 512, x2 := 5128192, uaP := 40100, uaT := 20480 }
    (exGain.handoverZ l 0 256 (uOfCode 40100) (uOfCode 40100) = (6144, false, 0)) ∧
    (exGain.handoverZ l 1 0 (uOfCode 20480) (uOfCode 20480) = (0, false, 0)) ∧
    codeOfU (exGain.control l 0 6144 256 (uOfCode 40100)).1 = (40100, false) := by decide +kernel

theorem test_state_class : stateClass 16384 0x0800 0xF800 = 2 := by decide

theorem test_tone : (State.reset.toneOf 39 8) = (0x110000, true) ∧ toneS 2720 = -56237 ∧ ditherOf 64 2720 = -55 := by decide +kernel

theorem test_slew : slewValid 8192 1 12 = true ∧ slewReach 0 65535 8192 1 12 = 65535 ∧ slewReach 0 65535 8192 1 6 = 57344 := by decide

theorem test_normalised : normal 10512 1 = 160000 ∧ normal 1262 1 = 12000 ∧ normal 12512 3 = 12000 := by decide

theorem test_step_frames : stepFrames (3198 * 65536) = 1 := by decide +kernel

theorem test_dt_bytes : (dtBytes { sec := 1750000000, ns := 4000, frac := 32768 }) =
    [0x80, 0xE1, 0x4E, 0x68, 0, 0, 0, 0, 0xA0, 0x0F, 0, 0, 0, 0x80, 0, 0] := by decide

theorem test_crc32_check_value : crc32 ("123456789".toList.map (fun c => BitVec.ofNat 8 c.toNat)) = 0xCBF43926 := by decide +kernel

/-- The admission tick of the worked example of Admission: tenants 7, 12 and 900 and requests A, B and C. -/
def exTenant (prio : Nat) : Tenant := { rate := 2500000, hi := 8388607, prio := prio, en := true }

def exReq (t k order d w e g : Nat) (c : Option (Nat × Nat)) : Req :=
  { src := .nobody, tenant := t, cls := k, order := order, commit := c, named := [g]
    charge := { owner := some (t, k), parts := [(d, w, e)], unit := 64 } }

def exCommit : Option (Nat × Nat) := some (300101000 * 65536, 384129280)

def exAdm : State :=
  let s := (((fixRun.setReg ADM_STATUS_F_LIVE 0 256).setReg ADM_ENERGY_E_CAP 0 1200).setReg ADM_ENERGY_E_HICREDIT 0 65535)
  let s := ((s.setReg ADM_CTRL_MAX_PER_TICK 0 8).setReg ADM_DOM_RATE_D_RATE 3 50000000).setReg ADM_DOM_RATE_D_RATE 5 50000000
  let s := ((s.setReg ADM_DOM_LIM_D_HICREDIT 3 8388607).setReg ADM_DOM_LIM_D_HICREDIT 5 8388607).setReg ADM_LEAD_ADMIT_LEAD 0 20
  let s := (s.setReg ADM_LEAD_ADMIT_WIN 0 100).takeEffects admRegs
  { s with
    dt := 384000000
    adm := { s.adm with
      tenants := { live := [(7, exTenant 2), (12, exTenant 2), (900, exTenant 1)] }
      profiles := { live := (List.range 3).map (fun k => (k, { share := 0x8000, hi := 8388607, maxWait := 1000 })) }
      tCred := [(7, 20 * creditUnit), (12, -4 * creditUnit)], cCred := [(58, 4 * classUnit), (97, -3 * classUnit)]
      dCred := [(3, -50 * creditUnit)], eCred := 20000 * nJUnit
      reqs := [exReq 7 2 301 3 96 7296 5000 exCommit, exReq 12 1 45 3 64 4864 5000 exCommit, exReq 900 0 400 5 128 9728 8192 none] } }

theorem test_admission_costs : exAdm.adm.reqs.map (fun r => r.charge.cost) = [210, 140, 280] := by decide

theorem test_admission_rise : exAdm.rise.adm.tCred.map (fun p => (p.1, p.2 / creditUnit)) = [(7, 30), (12, 6), (900, 10)] ∧
    exAdm.rise.adm.cCred.map (fun p => (p.1, p.2 / classUnit)) = [(58, 9), (97, 2), (7200, 5)] ∧
    exAdm.rise.adm.dCred.map (fun p => (p.1, p.2 / creditUnit)) = [(3, 150), (5, 200)] ∧ exAdm.rise.adm.eCred = 68000 * nJUnit := by
  decide +kernel

theorem test_admission_selects : exAdm.rise.selectStep.2.map Req.tenant = [900, 12, 7] ∧
    (exAdm.rise.resolve exAdm.rise.selectStep.2).2.map Req.tenant = [7] ∧ exAdm.firstMarker = 384028800 := by decide +kernel

theorem test_admission_idle_reset : let s := exAdm.rise.selectAdmit.idleReset
    s.adm.tCred.map (fun p => (p.1, p.2 / creditUnit)) = [(12, -134), (900, -270)] ∧
    s.adm.cCred.map (fun p => (p.1, p.2 / classUnit)) = [(97, -138), (7200, -275)] ∧
    s.adm.dCred.map (fun p => (p.1, p.2 / creditUnit)) = [(5, -80)] ∧ s.adm.eCred = 0 := by decide +kernel

/-- The late rotor schedule of the worked example of Calendar, with the late policy of its first entry. -/
def exRotor (late : Nat) : State :=
  let s := (fixRun.setReg TXN_CTRL_ARM_MARGIN 0 2000)
  { s with
    dt := 1024060544
    cal := { pool := [(0, some (1280 + 2 ^ 32 * 21 + 2 ^ 48 + 2 ^ 50 + 2 ^ 51 * late + 2 ^ 56 * 15))]
             lists := [(3, { desc := some { base := dtOf 1024000000, first := 0, count := 1, cycle := 25600, tag := 0 } })] } }

theorem test_calendar_align : (exRotor 1).startBase 3 = some (1024076800, .lateAligned) := by decide +kernel
theorem test_calendar_now : (exRotor 2).startBase 3 = some (1024070400, .lateNow) := by decide +kernel

/-- The jump of the worked example of Time Synchronisation: a transaction armed for 600,004,000 ns, TIME_STEP at 600,000,000 ns. -/
def exJump : State :=
  let s := fixRun.setReg TXN_CTRL_ARM_MARGIN 0 2000
  { s with dt := 768000000, txn := { s.txn with slots := [(0, { st := .armed, commit := some 768005120 })] } }

theorem test_step_placement : exJump.stepMarker { delta := 3198 * 65536, frames := 1, src := .nobody, accepted := 768000000, accept := true } =
    some 768019200 := by decide +kernel

/-- The throttle of the worked example of Kiln. -/
def exKiln : State := ((fixRun.setFlag KLN_STATUS_THROTTLING 0 true).setReg KLN_THROTTLE_K_SLOPE 0 60).setReg KLN_THROTTLE_FLOOR 0 20

theorem test_throttle : exKiln.fNow (16 * 106) = 209 ∧ exKiln.fMin = 52 := by decide +kernel

/-- Ring pair 4,163 of the worked example of Host Interface. -/
def exRing : State :=
  let s := ((fixRun.setFlag HIF_STATUS_BME 0 true).setFlag HIF_CTRL_EN 0 true).setReg HIF_CTRL_FETCH_BURST 0 4
  { s with hif := { s.hif with link := true, rings := [(4163, { cmdLog2 := 8, cplLog2 := 7, st := 1, cmdPi := 1, cmdCi := 65534, cplPi := 1000, cplCi := 900, owed := 20 })] } }

theorem test_fetch : (match exec .descriptorFetch exRing with
    | .next t => ((t.ring 4163).owed, (t.ring 4163).cmdCi, t.out)
    | _ => (0, 0, [])) = (22, 65535, [.descRead 4163 254 (64 * 254)]) := by decide +kernel

/-- The supply sag of the worked example of Fault Model: one cycle takes three raises. -/
def exSag : State := { fixRun with flt := { raises := [{ src := 235, injected := true }, { src := 235, info := 39 + 256 * 3 }, { src := 805 }] } }

theorem test_fault_order : (match exec .eventRecord exSag with
    | .next t => (t.flt.hist.map (fun e => (e.src, e.injected, e.first)), t.reg FLT_FF_SRC_SOURCE, t.role)
    | _ => ([], 0, 0)) = ([(235, true, false), (235, false, false), (805, false, true)], 805, roleResigned) := by decide +kernel

theorem test_fault_registers : FLT_SEV_SEV.offAt 100 - FLT_SEV_SEV.off = 400 ∧ FLT_SEV_SEV.off % 0x10000 = 0x200 ∧
    FLT_HELD_HELD.offAt 25 % 0x10000 = 0xE4 := by decide

/-! ### The hypotheses of the statements are met -/

theorem wit_StepRunsFrontCommand : ({ State.reset with pending := [.heartbeatSend] } : State).pending = .heartbeatSend :: [] := rfl
theorem wit_IdleStepPassesOneTick : ({ fixRun with started := true } : State).pending = [] ∧ (({ fixRun with started := true } : State).started = true ∧
    ({ fixRun with started := true } : State).pins.porstN = true ∧ ({ fixRun with started := true } : State).pins.resetN = true) ∧
    State.reset.pending = [] ∧ ¬ (State.reset.started = true ∧ State.reset.pins.porstN = true ∧ State.reset.pins.resetN = true) := by
  decide

theorem wit_CommandsKeepTheQueue : exec .porDone State.reset = .next State.reset := rfl

theorem wit_FieldsOfTheRegisterMapDoNotOverlap : KFI_STATUS_DESC_VALID ∈ fieldsAt KFI_STATUS_DESC_VALID.off ∧
    KFI_STATUS_PARK_TABLE ∈ fieldsAt KFI_STATUS_DESC_VALID.off ∧ KFI_STATUS_DESC_VALID ≠ KFI_STATUS_PARK_TABLE := by decide +kernel

theorem wit_WriteOfAFieldKeepsEveryOtherField : KFI_STATUS_OWN.lo + KFI_STATUS_OWN.wd ≤ 32 ∧
    (KFI_CTRL_FDI_FAST.offAt 0 ≠ KFI_STATUS_OWN.offAt 0 ∨ KFI_CTRL_FDI_FAST.lo + KFI_CTRL_FDI_FAST.wd ≤ KFI_STATUS_OWN.lo ∨
      KFI_STATUS_OWN.lo + KFI_STATUS_OWN.wd ≤ KFI_CTRL_FDI_FAST.lo) := by decide

theorem wit_RaisesReachTheLoggerOrTheIsland :
    (fixRun.pins.porstN = true ∧ fixRun.pins.resetN = true) ∧
    (let s : State := { fixRun with pins := { porstN := true, resetN := false } }
     s.pins.porstN = true ∧ s.pins.resetN = false ∧ s.flt.kept.length < 8) ∧ (State.reset.pins.porstN = false) ∧ State.reset.flt.kept.length ≤ 8 := by decide
theorem wit_ConditionsSetTheirCauseAndRaise : (929 : Nat) < 1024 ∧ (5 : Nat) < 1024 ∧ (5 : Nat) ≠ 929 ∧ fixRun.pins.porstN = true ∧ fixRun.pins.resetN = true := by decide

theorem wit_EveryStepKeepsBoundedStores : fixRun.bounded ∧ step fixRun = .next fixRun :=
  ⟨⟨by decide, by decide, Nat.two_pow_pos _, by decide⟩, rfl⟩

theorem wit_PowerOnResetEffect : fixRun.pins.porstN = true ∧ State.reset.pins.porstN = false ∧ fixRun.fab.clrN = true ∧
    (KFI_STATUS_OWN ∈ fieldsAt (KFI_STATUS_OWN.offAt 0) ∧ KFI_STATUS_OWN ∉ pinFields ∧ KFI_STATUS_OWN ∉ [DRV_STATUS_CLR, FLT_CAUSE_CAUSE]) ∧
    GLB_TEST_TEST_EN ∈ pinFields := ⟨rfl, rfl, rfl, by decide, by decide⟩

theorem wit_WarmResetEffect : (fixRun.pins.porstN = true ∧ fixRun.pins.resetN = true) ∧
    (State.reset.pins.porstN = false ∧ State.reset.pins.resetN = true) ∧ ({ fixRun with pins := { resetN := false } } : State).pins.resetN = false ∧
    (BTU_STATE_STATE ∈ fieldsAt (BTU_STATE_STATE.offAt 0) ∧ keptByReset (BTU_STATE_STATE.offAt 0) = false ∧ BTU_STATE_STATE ∉ pinFields ∧
      BTU_STATE_STATE ∉ [KLN_STATUS_SHUTDOWN, BTU_RESET_PORST, BTU_RESET_WARM, BTU_RESET_WARM_CNT, FLT_CAUSE_CAUSE, DRV_STATUS_CLR]) :=
  ⟨⟨rfl, rfl⟩, ⟨rfl, rfl⟩, rfl, by decide⟩

theorem wit_ResetReleasesStartTimeAtZero : (State.reset.pins.porstN = false ∧ State.reset.pins.resetN = true) ∧
    (let s : State := { fixRun with pins := { porstN := true, resetN := false } }
     s.pins.porstN = true ∧ s.pins.resetN = false ∧ s.reg GLB_MBIST_RESULT < 2 ^ 31 ∧ s.btu.resTo ≤ s.tick ∧ s.btu.porTo ≤ s.tick) ∧
    fixRun.pins.porstN = true ∧ fixRun.pins.resetN = true := by decide +kernel

theorem wit_SafetySupplyAndResetLimits :
    (let s : State := { fixRun with pins := { porstN := true, resetN := false } }
     s.pins.porstN = true ∧ s.pins.resetN = false ∧ s.tick ≤ s.btu.heldFrom + 12800000001) ∧
    fixRun.pins.porstN = true ∧ fixRun.pins.resetN = true := by decide +kernel

theorem wit_ParkSequenceOfR101 : (∀ p ∈ [ParkPh.off, .owned, .burst, .waiting],
    let s : State := { State.reset with pins := { porstN := true, resetN := false }, fab := { State.reset.fab with parkPh := List.replicate 8 p } }
    s.pins.resetN = false ∧ s.fab.ownxRaw = 0 ∧ 23000 ≤ s.fab.vhv ∧ s.tap.drive = none ∧ s.fab.parkDoms = 255 ∧
      s.fab.parkPh = List.replicate 8 p ∧ s.fab.parkPh.length = 8) ∧
    (let s : State := { State.reset with pins := { porstN := true, resetN := false }
                                         fab := { State.reset.fab with parkPh := [.owned, .off, .owned, .off, .off, .off, .off, .off], ownxRaw := 1 } }
     s.pins.resetN = false ∧ s.fab.parkPh.length = 8 ∧ s.fab.parkPh.getD 0 .off = .owned ∧ bit s.fab.ownxRaw 0 = true ∧ s.fab.parkPh.getD 1 .off ≠ .owned) := by
  decide

def fixReady : State :=
  ({ ((fixUp 3 2).setFlag KFI_STATUS_DESC_VALID 0 true) with
      fab := { desc := some { tileMask := 1, rowMask := [1] } }, btu := { row := 4, doms := [(0, { live := some (1, []) })] } } : State)

theorem wit_StartUpStates :
    (let s := fixUp 0 0; s.pins.porstN = true ∧ s.pins.resetN = true ∧ s.startup = 0 ∧ s.factory = false) ∧
    (let s := fixUp 1 0; s.pins.porstN = true ∧ s.pins.resetN = true ∧ s.startup = 1) ∧
    (let s : State := { fixUp 3 0 with btu := { row := 1 } }
     s.pins.porstN = true ∧ s.pins.resetN = true ∧ s.startup = 3 ∧ s.btu.row = 1 ∧ s.newestCask = none) ∧
    (fixReady.pins.porstN = true ∧ fixReady.pins.resetN = true ∧ fixReady.btu.row = 4 ∧ fixReady.runReady = true ∧
      fixReady.role = roleSolo ∧ fixReady.fab.inhibit = false ∧ fixReady.canOwn 0 = true ∧ fixReady.canOwn 1 = false) ∧
    (∀ r ∈ [3, 4], let s : State := { fixUp 3 0 with btu := { row := r } }; s.startup = 3 ∧ s.btu.row = r ∧ s.runReady = false) := by decide +kernel

theorem wit_ConfigRowOneTakesTheCask : let s : State := { fixUp 3 0 with btu := { row := 1, cask1 := some (fixCask 5) } }
    s.startup = 3 ∧ s.btu.row = 1 ∧ s.newestCask = some (1, fixCask 5) ∧ (fixCask 5).base.length = 16 := by
  refine ⟨by decide +kernel, rfl, ?_, rfl⟩
  have h : (fixCask 5).dieId = Config.dieId.toNat := rfl
  simp [State.newestCask, State.caskCopies, fixCask_valid, h]

theorem wit_ConfigRowTwoEnds : ∀ p ∈ [false, true], ∀ x ∈ [0, 1],
    let s : State := (allTiles.foldl (fun s t => s.setFlag SNS_STATUS_CAL_DONE t true)
      ((((fixUp 3 0).setFlag TMU_TREE_DONE 0 true).setFlag TWN_CTRL_PAIRED 0 p).setReg KFI_STATUS_OWNX 0 x))
    let s : State := { s with btu := { row := 2 } }
    s.startup = 3 ∧ s.btu.row = 2 ∧ s.rowTwoOver = true ∧ s.flag TWN_CTRL_PAIRED = p ∧ s.reg KFI_STATUS_OWNX = x ∧
      ({ fixUp 3 0 with btu := { row := 2 } } : State).rowTwoOver = false := by decide +kernel

theorem wit_JoinWaitDecidesTheRole : (let s : State := { fixUp 3 0 with twn := { deciding := some 0 } }
    s.twn.deciding = some 0 ∧ s.startup = 3 ∧ ({ s with btu := { s.btu with row := 4 } } : State).runReady = false) ∧ fixRun.twn.deciding = none ∧
    (let s : State := { fixReady with twn := { deciding := some 0 } }
     s.twn.deciding = some 0 ∧ s.startup = 3 ∧ s.flag KFI_STATUS_DESC_VALID = true ∧ s.flag KLN_STATUS_SHUTDOWN = false ∧
     s.canOwn 0 = true ∧ allTiles.all (fun k => !s.populated k || (s.domSt (domOf k)).live.isSome) = true ∧ s.fab.inhibit = false) := by decide +kernel

theorem wit_TreeClockLossHoldsTheFabric : ({ fixRun with fab := { treeLost := true } } : State).fab.treeLost = true := rfl

theorem wit_RowSlotWritesEveryTile :
    (fixRun.pins.porstN = true ∧ fixRun.pins.resetN = true ∧ fixRun.fab.treeLost = false ∧ (31 : Nat) < 32) ∧
    (fixRun.tile 5).seq = .normal ∧ (fixRun.tile 5).begun ≤ 31 ∧ 30 < ({ ({} : Tile) with begun := 32 } : Tile).begun ∧
    ({ ({} : Tile) with seq := .idle } : Tile).seq ≠ .normal ∧
    ({ ({} : Tile) with placedCur := [3] } : Tile).placedCur.contains (7 / 2) = true ∧
    ((6 : Nat) % 2 = 0 ∧ (fixRun.tile 5).placedCur.contains (6 / 2) = false ∧
      (List.range 8).any (fun c => engineMode ((fixRun.tile 5).lane (8 * (6 / 2) + c)).mode) = true ∧ fixRun.parkHold 5 = false) ∧
    (fixDrives.parkRuns 0 = false ∧ ({ fixDrives with fab := { fixDrives.fab with parkPh := List.replicate 8 .burst } } : State).parkRuns 0 = true ∧
      fixDrives.ownsTile 0 = true) := by decide +kernel

def fixSpan : State :=
  ({ fixRun with fab := { desc := some { tileMask := 1, rowMask := [1], maxSpanPri := 2, maxSpanTrim := 2 } } } : State)

theorem wit_DriveFaultsAndSpans :
    ([DRV_ILIM0_C0, DRV_ILIM0_C1, DRV_ILIM0_C2, DRV_ILIM0_C3, DRV_ILIM1_C4, DRV_ILIM1_C5, DRV_ILIM1_C6, DRV_ILIM1_C7][7]? = some DRV_ILIM1_C7 ∧
      fixRun.pins.porstN = true ∧ fixRun.pins.resetN = true ∧ (95 : Nat) < 96) ∧
    (fixSpan.windowOpen = true ∧ fixSpan.fab.desc = some { tileMask := 1, rowMask := [1], maxSpanPri := 2, maxSpanTrim := 2 } ∧
      fixSpan.flag DRV_SPAN_SPAN_BUSY 0 = false ∧ 2 ≠ fixSpan.reg DRV_SPAN_LIVE_PRI 0) ∧
    (let s := fixSpan.setFlag DRV_SPAN_SPAN_BUSY 0 true; s.windowOpen = true ∧ s.flag DRV_SPAN_SPAN_BUSY 0 = true) ∧
    ((fixRun.setTile 0 { ({} : Tile) with span := .dwell 0 }).tile 0).span = .dwell 0 := by decide +kernel

theorem wit_BurstsOfACommitEnd :
    (let s := fixDrives.setTile 0 { ({} : Tile) with seq := .dwell 1, pend1 := { addrs := [0, 1], endAt := 64 } }
     (s.tile 0).seq = .dwell 1 ∧ ((s.tile 0).pend 1).addrs ≠ [] ∧ s.ownsTile 0 = true ∧ s.fab.treeLost = false ∧ s.parkRuns 0 = false) ∧
    (let s := fixDrives.setTile 0 { ({} : Tile) with seq := .quench, burstEnd := 2048, run := some { burst := true, addrs := List.range 32 } }
     (s.tile 0).seq = .quench ∧ (s.tile 0).run = some { burst := true, addrs := List.range 32 } ∧ s.ownsTile 0 = true) ∧
    (let s := fixRun.setTile 95 { ({} : Tile) with seq := .steep 0 }; (s.tile 95).seq = .steep 0 ∧ s.ownsTile 95 = false) ∧
    (let s := fixDrives.setTile 95 { ({} : Tile) with seq := .clear }; (s.tile 95).seq = .clear ∧ s.fab.releasing = 0) := by decide +kernel

theorem wit_FabricClearParksOwnedTiles :
    (fixDrives.pins.porstN = true ∧ fixDrives.pins.resetN = true ∧ fixDrives.fab.clrN = true ∧ fixDrives.ownsTile 0 = true ∧
      fixDrives.fab.treeLost = false ∧ fixDrives.ownsTile 95 = false ∧ fixDrives.parkRuns 0 = false) ∧ (State.reset.pins.porstN = false ∧ State.reset.fab.clrN = true) ∧
    ({ fixRun with fab := { clrN := false } } : State).fab.clrN = false := by decide +kernel

/-- A descriptor of one tile with one populated row, without its CRC. -/
def fixHeader : List Byte :=
  leBytes 4 0x4449464B ++ leBytes 2 1 ++ leBytes 2 0x200 ++ List.replicate 48 0 ++ leBytes 8 1 ++ leBytes 4 0 ++ leBytes 2 8 ++ leBytes 2 0 ++
  leBytes 2 1 ++ List.replicate 190 0 ++ leBytes 1 2 ++ leBytes 1 2 ++ leBytes 2 10000 ++ leBytes 2 5000 ++ leBytes 2 1000 ++ leBytes 2 100 ++
  List.replicate 12 0 ++ leBytes 2 1 ++ leBytes 4 0 ++ List.replicate 1 0 ++ leBytes 1 50 ++ List.replicate 214 0

theorem crc_chunk (l m : List Byte) (n c c' v : Nat) (h : (l.take n).foldl crcByte c = c') (hm : l.drop n = m) (r : m.foldl crcByte c' = v) :
    l.foldl crcByte c = v := by
  rw [← List.take_append_drop n l, List.foldl_append, h, hm, r]

theorem fixHeader_crc7 : (fixHeader.drop 448).foldl crcByte 2837792285 = 1078525307 := by decide +kernel

theorem fixHeader_crc6 : (fixHeader.drop 384).foldl crcByte 2568370602 = 1078525307 :=
  crc_chunk _ _ 64 _ _ _ (by decide +kernel : _ = 2837792285) (List.drop_drop ..) fixHeader_crc7

theorem fixHeader_crc5 : (fixHeader.drop 320).foldl crcByte 2384623663 = 1078525307 :=
  crc_chunk _ _ 64 _ _ _ (by decide +kernel : _ = 2568370602) (List.drop_drop ..) fixHeader_crc6

theorem fixHeader_crc4 : (fixHeader.drop 256).foldl crcByte 1629465889 = 1078525307 :=
  crc_chunk _ _ 64 _ _ _ (by decide +kernel : _ = 2384623663) (List.drop_drop ..) fixHeader_crc5

theorem fixHeader_crc3 : (fixHeader.drop 192).foldl crcByte 632839051 = 1078525307 :=
  crc_chunk _ _ 64 _ _ _ (by decide +kernel : _ = 1629465889) (List.drop_drop ..) fixHeader_crc4

theorem fixHeader_crc2 : (fixHeader.drop 128).foldl crcByte 1327935290 = 1078525307 :=
  crc_chunk _ _ 64 _ _ _ (by decide +kernel : _ = 632839051) (List.drop_drop ..) fixHeader_crc3

theorem fixHeader_crc1 : (fixHeader.drop 64).foldl crcByte 1402967940 = 1078525307 :=
  crc_chunk _ _ 64 _ _ _ (by decide +kernel : _ = 1327935290) (List.drop_drop ..) fixHeader_crc2

theorem fixHeader_crc0 : (fixHeader.drop 0).foldl crcByte 4294967295 = 1078525307 :=
  crc_chunk _ _ 64 _ _ _ (by decide +kernel : _ = 1402967940) (List.drop_drop ..) fixHeader_crc1

theorem fixHeader_crc : crc32 fixHeader = 3216441988 := crc32_of_fold _ _ fixHeader_crc0

/-- The descriptor with its CRC. -/
def fixDesc : List Byte := fixHeader ++ leBytes 4 3216441988

theorem fixDesc_ok : headerErr fixDesc = 0 ∧ le32 fixDesc 0x148 = 0 ∧ descErr (fixDesc.take 512) = 0 := by
  have h1 : fixDesc.take 0x1FC = fixHeader := by decide +kernel
  have h2 : le32 fixDesc 0x1FC = 3216441988 := by decide +kernel
  have h3 : le32 fixDesc 0 = 0x4449464B ∧ le16 fixDesc 4 = 1 ∧ le16 fixDesc 6 = 0x200 := by decide +kernel
  have h4 : (!zeros fixDesc 0x127 1 || !zeros fixDesc 0x14C 176 || decide (3 < le16 fixDesc 0x46) || decide (2 < u8 fixDesc 0x108) ||
    decide (2 < u8 fixDesc 0x109) || decide (le32 fixDesc 0x148 ≠ 0 ∧ le32 fixDesc 0x148 ≠ parkTableLen)) = false := by decide +kernel
  refine ⟨?_, by decide +kernel, by decide +kernel⟩
  unfold headerErr
  rw [h1, h2, fixHeader_crc, h3.1, h3.2.1, h3.2.2, h4]
  rfl

theorem wit_DescriptorReadChecksAndAccepts_reread : (fixDrives.windowOpen = true ∧ fixDrives.reg KFI_STATUS_OWN ≠ 0) ∧
    (fixRun.windowOpen = true ∧ fixRun.reg KFI_STATUS_OWN = 0 ∧ fixRun.fab.rd = none ∧ 3 ≤ fixRun.startup) := by decide +kernel

theorem wit_DescriptorReadChecksAndAccepts :
    (let s : State := { fixUp 3 0 with fab := { rd := some { bytes := fixDesc.take 256, retries := 1 } } }
     s.pins.porstN = true ∧ s.pins.resetN = true ∧ (fixDesc.take 256 ++ (fixDesc.take 100).take 256).length < 512 ∧ (1 : Nat) < 3) ∧
    ((3 : Nat) ≤ 3) ∧
    (let b := List.replicate 512 (0 : Byte); 512 ≤ b.length ∧ headerErr b ≠ 0) ∧
    (fixDesc.take 256 ++ (fixDesc.drop 256).take 256 = fixDesc ∧ 512 ≤ fixDesc.length) ∧
    (let s : State := { fixUp 3 0 with btu := { row := 2 } }; s.startup = 3 ∧ s.btu.row = 2 ∧ s.domPop 0 = false) := by decide +kernel

theorem wit_FabricBusAndOwnershipLines :
    (let s : State := { fixRun with fab := { rd := some {} } }; s.fab.rd = some {} ∧ (({} : DescRead).retries < 3)) ∧
    (fixRun.windowOpen = true ∧ fixRun.reg KFI_STATUS_OWN = 0 ∧ fixRun.fab.rd = none ∧ 3 ≤ fixRun.startup) ∧
    (fixDrives.windowOpen = true ∧ fixDrives.reg KFI_STATUS_OWN ≠ 0) ∧
    (State.reset.pins.porstN = false) ∧
    (let s := (fixUp 3 0).setReg KFI_STATUS_OWNX 0 0x80; s.ownx 7 = true ∧ s.pins.porstN = true ∧ s.pins.resetN = true ∧ s.startup = 3) ∧
    (fixRun.ownx 0 = false ∧ fixRun.pins.porstN = true ∧ fixRun.pins.resetN = true ∧ fixRun.twn.deciding = none ∧ fixRun.twn.switch = none ∧
      fixRun.twn.lost = false) ∧
    (let s : State := { fixUp 4 1 with twn := { lost := true } }; s.running = true ∧ s.role = roleStandby ∧ s.ownx 0 = false ∧ s.twn.guarded = false) ∧
    (let s := fixUp 2 0; s.windowOpen = true ∧ s.reg KFI_STATUS_OWN = 0 ∧ s.fab.rd = none ∧ s.startup = 2) ∧
    (let s := fixDrives.setReg KFI_STATUS_OWNX 0 1; s.pins.porstN = true ∧ s.pins.resetN = true ∧ s.owns 0 = true ∧ s.ownx 0 = true) := by decide +kernel

theorem wit_SampleRecordIsFormedAndAccumulated :
    (fixRun.pins.porstN = true ∧ fixRun.pins.resetN = true ∧ (95 : Nat) < 96 ∧ (31 : Nat) < 32 ∧ (7 : Nat) < 8 ∧ (16383 : Nat) < 16384) ∧
    (fixRun.tile 95).slotSt.read 2 31 ≠ 0 ∧ ((fixRun.setTile 0 { ({} : Tile) with frame := 9, begun := 32 }).tile 0).frame ≠ (fixRun.tile 0).frame ∧
    (let s := fixRun.setTile 95 { ({} : Tile) with slotSt := [(31, 0)] }
     bit (s.reg SNS_STATUS_LINE_OPEN 95) 7 = false ∧ bit (s.reg SNS_STATUS_UNSERVED 95) 7 = false ∧ (s.tile 95).slotSt.read 2 31 = 0) := by decide +kernel

theorem wit_TapConditionsRaiseOnce :
    let s := fixRun.setTile 3 { ({} : Tile) with taps := [(10, { fine := 65535, run := 65535, driftRun := 65535 })], lanes := [(5, { mode := .hold })] }
    s.pins.porstN = true ∧ s.pins.resetN = true ∧ s.effReg SNS_CTRL_RANGE_MODE 3 ≠ 1 ∧ ((s.tile 3).tap 5 0).range < 3 ∧
    s.effReg SNS_CTRL_FINE_FRAMES 3 ≤ ((s.tile 3).tap 5 0).fine ∧ ((s.tile 3).tap 5 0).episode = false ∧
    s.effReg SNS_CTRL_FAULT_FRAMES 3 ≤ ((s.tile 3).tap 5 0).run ∧ ((s.tile 3).lane 5).mode = .hold ∧ ((s.tile 3).lane 5).drift = false ∧
    s.effReg SNS_DRIFT_DRIFT_CNT 3 ≤ ((s.tile 3).tap 5 0).driftRun := by decide +kernel

theorem wit_EpochEndFreezesTheTelemetry : fixRun.pins.porstN = true ∧ fixRun.pins.resetN = true ∧ (fixRun.tile 0).epoch < 256 ∧
    256 ≤ ((fixRun.setTile 95 { ({} : Tile) with epoch := 256 }).tile 95).epoch := by decide

theorem wit_ScarabRotationSteps :
    (let s := fixRun.setTile 0 { ({} : Tile) with scarab := .overlap, period := 100000 }
     s.pins.porstN = true ∧ s.pins.resetN = true ∧ s.effReg SNS_CTRL_SCARAB_EN 0 = 1 ∧ (s.tile 0).scarab = .overlap ∧ 100000 ≤ (s.tile 0).period ∧
       s.reg SNS_SCARAB_SPARE 0 = 8 ∧ (s.setReg SNS_SCARAB_SPARE 0 0).reg SNS_SCARAB_SPARE 0 = 0 ∧ (s.tile 0).refusals = 0 ∧
       16 * (0 : Int).natAbs ≤ ((s.setFlag SNS_SCARAB_OVERLAP 0 false).setTile 0 { s.tile 0 with scarab := .calibrating, period := 0 }).reg SNS_SCARAB_SCARAB_TOL 0 * 2048 ∧
       ((s.setFlag SNS_SCARAB_OVERLAP 0 false).setTile 0 { s.tile 0 with scarab := .calibrating, period := 0 }).reg SNS_SCARAB_SCARAB_TOL 0 * 2048 < 16 * (-10000000 : Int).natAbs) ∧
    ((fixRun.tile 0).scarab = .calibrating) ∧ ((fixRun.setTile 0 { ({} : Tile) with refusals := 1 }).tile 0).refusals ≠ 0 ∧
    (let s := fixRun.setTile 0 { ({} : Tile) with scarab := .ready, period := 99935 }; (s.tile 0).scarab = .ready ∧ 99935 ≤ (s.tile 0).period) := by decide +kernel

theorem wit_StartUpCalibrationAndLineChecks :
    (let s := fixUp 3 0; s.pins.porstN = true ∧ s.pins.resetN = true ∧ s.startup = 3 ∧ (511 : Nat) < 512 ∧ (255 : Nat) < 256) ∧
    (fixRun.windowOpen = true ∧ fixRun.ownsTile 0 = false) ∧ (fixDrives.windowOpen = true ∧ fixDrives.ownsTile 0 = true) ∧
    (let s := fixRun.setFlag SNS_STATUS_CHECK_BUSY 7 true; s.pins.porstN = true ∧ s.pins.resetN = true ∧ s.flag SNS_STATUS_CHECK_BUSY 7 = true) := by
  decide +kernel

theorem wit_RowUpdatePlacesTheNextCodes :
    (fixRun.pins.porstN = true ∧ fixRun.pins.resetN = true ∧ (95 : Nat) < 96 ∧ (15 : Nat) < 16 ∧ fixRun.engineRuns 95 = true ∧
      (let tl : Tile := { frame := 1, recs := (List.range 256).map (fun n => (n, { frame := 1 })) }
       ((fixRun.setTile 95 tl).tile 95).rowFrame 15 = ((fixRun.setTile 95 tl).tile 95).frame ∧ ((fixRun.setTile 95 tl).tile 95).rowNext 15 = true) ∧
      (let tl : Tile := { frame := 2, begun := 30, recs := (List.range 256).map (fun n => (n, { frame := 1 })) }
       ((fixRun.setTile 95 tl).tile 95).rowFrame 15 + 1 = ((fixRun.setTile 95 tl).tile 95).frame ∧ ((fixRun.setTile 95 tl).tile 95).rowNext 15 = true ∧
       ((fixRun.setTile 95 tl).tile 95).begun ≤ 2 * 15) ∧ (fixRun.tile 95).rowNext 15 = false ∧ 2 * 15 < ({ begun := 31 } : Tile).begun) ∧ rowOf 127 = 15 ∧ rowOf 0 ≠ 15 ∧
    ((fixRun.tile 95).cfg 127).loopEn = false ∧
    (let tl : Tile := { lcfg := { live := [(127, { loopEn := true })] }, lanes := [(127, { mode := .park })] }
     (tl.cfg 127).loopEn = true ∧ (tl.lane 127).mode = .park) ∧
    (({ lanes := [(127, { mode := .hold })] } : Tile).lane 127).mode = .hold := by decide +kernel

theorem wit_ControlLawKeepsItsRanges : let l : Lane := { r := 65535, rT := 0, handover := true }
    l.r ≤ 65535 ∧ l.rT ≤ 65535 ∧ (l.handover = true) ∧ ((-5 : Int) ≤ ({} : Lane).z0 ∧ ({} : Lane).z0 ≤ 5) ∧ ({} : Lane).rT ≤ ({} : Lane).r + 0 := by decide

theorem wit_LoopConditionsReachTheirLimits :
    (fixRun.pins.porstN = true ∧ fixRun.pins.resetN = true) ∧
    (let s := fixRun.setTile 3 { ({} : Tile) with lanes := [(5, { mode := .feedback, fbMiss := 255, divRun := 65535, reacqLeft := 1 })] }
     ((s.tile 3).lane 5).mode = .feedback ∧ ((s.tile 3).lane 5).freeze = false ∧ s.effReg LOOP_MEAS_MISS_MAX 3 ≤ ((s.tile 3).lane 5).fbMiss ∧
     ((s.tile 3).lane 5).reacq = false ∧ s.effReg LOOP_CTRL_DIV_FRAMES 3 ≤ ((s.tile 3).lane 5).divRun ∧
     (s.tile 3).divWin + 1 < s.effReg LOOP_MEAS_DIV_LIMIT 3) ∧
    (let s := fixRun.setTile 3 { ({} : Tile) with lanes := [(5, { mode := .feedback, reacq := true })] }
     ((s.tile 3).lane 5).reacq = true ∧ ((s.tile 3).lane 5).reacqLeft = 0 ∧ s.measLane 3 5 = none ∧
       ((s.tile 3).lane 5).fbFrom ≤ (s.tile 3).rowFrame (rowOf 5)) ∧ ({} : Tile).rowFrame (rowOf 5) < ({ fbFrom := 1 } : Lane).fbFrom ∧
    (let s := fixRun.setTile 3 { ({} : Tile) with lanes := [(5, { mode := .feedback, reacq := true, reacqLeft := 1 })],
                                                  recs := [(5, { n1 := 1000, n2 := 1000, reason := 0 }), (13, { n1 := 1000, n2 := 1000, reason := 0 })] }
     ((s.tile 3).lane 5).reacqLeft = 1 ∧ (s.measLane 3 5).isSome = true ∧ ((s.tile 3).lane 5).upd ≤ (s.tile 3).rowFrame (rowOf 5) ∧
     ((s.tile 3).lane 5).fbFrom ≤ (s.tile 3).rowFrame (rowOf 5)) ∧
    (let s := fixRun.setTile 3 { ({} : Tile) with lanes := [(5, { mode := .hold, holdMax := 4, holdCnt := 4 })], window := 100000 }
     ((s.tile 3).lane 5).mode = .hold ∧ ((s.tile 3).lane 5).holdMax ≤ ((s.tile 3).lane 5).holdCnt ∧ 100000 ≤ (s.tile 3).window) := by decide +kernel

theorem wit_SweepPointsAndTheEndOfASweep :
    let w (p : Nat) : Sweep := { elems := [5], node := 0, start := 100, step := 1, dwell := 4, point := p, armed := false, frames := 4 }
    let s (p : Nat) := fixRun.setTile 95 { ({} : Tile) with sweep := some (w p), lanes := [(5, { mode := .cal, cap := [(7, 9)] })] }
    ((s 31).pins.porstN = true ∧ (s 31).pins.resetN = true ∧ ((s 31).tile 95).sweep = some (w 31) ∧ (w 31).armed = false ∧ (w 31).dwell ≤ (w 31).frames ∧
      (w 31).point < 32 ∧ (∀ e ∈ (w 31).elems, e < 128 ∧ (((s 31).tile 95).lane e).cap ≠ []) ∧ (w 31).elems.Nodup) ∧
    ((s 32).tile 95).sweep = some (w 32) ∧ (w 32).point = 32 ∧ (w 32).src = .nobody ∧ (((s 32).tile 95).lane 5).mode = .cal := by decide +kernel

theorem wit_OutputsBecomeCodesRoundedHalfUpAndClamped : (codeOfU 63).2 = false ∧ (codeOfU 63).1 = 0 ∧ (codeOfU 64).1 = 1 ∧ (codeOfU 8388544).2 = true ∧
    (codeOfU (-65)).2 = true ∧ (codeOfU (-64)).2 = false ∧ (65535 : Nat) ≤ 65535 := by decide

def fixPtp : State := fixRun.setReg TMU_CTRL_PTP_EN 0 1

theorem wit_PtpMessagesOfTheSelectedSource :
    let m : PtpMsg := { port := 0, id := 7, idPort := 1 }
    let x : PtpSrc := { id := 7, port := 1, data := [128], steps := 1, ptpTimescale := true, logInt := 0, last := 0 }
    (fixPtp.ptpHere m = true ∧ fixPtp.ptpOurs m = true ∧ -3 ≤ m.logInt ∧ m.logInt ≤ 4 ∧ -7 ≤ m.logInt ∧ m.logInt ≤ 1 ∧
      fixPtp.tmu.sources = [] ∧ fixPtp.tmu.sel = none) ∧
    (let s : State := { fixPtp with tick := 1280000000, tmu := { sources := [x] } }
     s.ptpHere m = true ∧ s.tmu.sources = [x] ∧ 0 ≤ s.tick ∧ s.tick ≤ 0 + 4 * logTicks m.logInt ∧ s.tmu.sel = none ∧ s.tmu.lost = false) ∧
    fixPtp.ptpOurs { m with domain := 5 } = false ∧ fixPtp.ptpHere { m with domain := 5 } = true ∧
    (let s : State := { fixPtp with tmu := { sel := some (7, 1), waitFup := some (0, 10, 3) } }
     s.ptpHere m = true ∧ s.tmu.sel = some (m.id, m.idPort) ∧ s.tmu.waitFup = some (m.seq, 10, 3) ∧ s.tmu.sel.isSome = true) := by decide +kernel

def fixUpPtp : State := (fixPtp.setFlag CP_STATUS_UP 0 true)

theorem wit_PathDelayMessages :
    let m : PtpMsg := { port := 0, id := 7, idPort := 1 }
    let s : State := { fixUpPtp with tmu := { sel := some (7, 1), delayReq := some (0, 5), lastSync := some 100 } }
    (s.running = true ∧ s.flag TMU_CTRL_PTP_EN = true ∧ s.reg TMU_CTRL_DELAY_MECH = 0 ∧ s.tmu.sel.isSome = true ∧ s.portUp (s.reg TMU_CTRL_PORT) = true) ∧
    (s.ptpHere m = true ∧ s.ptpOurs m = true ∧ -7 ≤ m.logInt ∧ m.logInt ≤ 5 ∧ s.tmu.sel = some (m.id, m.idPort) ∧
      s.tmu.delayReq = some (m.seq, 5) ∧ s.tmu.lastSync = some 100 ∧ s.tmu.mpdFirst = true ∧
      ({ s with tmu := { s.tmu with mpdFirst := false } } : State).tmu.mpdFirst = false ∧ s.peerPort m.port = false) ∧
    (let p := fixUpPtp.setReg TMU_CTRL_DELAY_MECH 0 1; p.peerPort 0 = true ∧ p.portUp 0 = true ∧ p.peerPort m.port = true ∧ p.ptpOurs m = true ∧
      p.flag TMU_CTRL_PTP_EN = true ∧ p.reg TMU_CTRL_DELAY_MECH = 1 ∧ m.port = p.reg TMU_CTRL_PORT ∧
      ({ p with tmu := { peerReq := [(0, some (0, 5))] } } : State).tmu.peerReq.read none m.port = some (m.seq, 5)) ∧
    (let p := (fixRun.setReg TMU_CTRL_TC_MODE 0 2).setFlag CPX_CTRL_CHAIN_LIVE 0 true
     let q : State := { p with tmu := { peerReq := [(0, some (0, 5))] } }
     q.peerPort m.port = true ∧ q.ptpOurs m = true ∧ q.tmu.peerReq.read none m.port = some (m.seq, 5) ∧ p.flag TMU_CTRL_PTP_EN = false) ∧
    (let o : OutFrame := { port := 1, cls := 1, len := 64, since := 0, event := true, what := .value 0 0 }
     ({ fixRun with cpx := { egress := [o] } } : State).cpx.egress.find? (fun o => decide (o.port = 1) && o.event) = some o) ∧
    (fixPtp.windowOpen = true ∧ fixPtp.reg TMU_CTRL_PTP_EN = 1 ∧ 0 % 2 = 0 ∧ fixPtp.tmu.sel = none ∧ fixPtp.pins.porstN = true ∧ fixPtp.pins.resetN = true) := by
  decide +kernel

theorem wit_ServoKeepsItsFrequencyLimit :
    (let s := fixPtp.setReg TMU_STATUS_SERVO_STATE 0 3
     s.servo = 3 ∧ s.pins.porstN = true ∧ s.pins.resetN = true ∧ (s.effReg TMU_JUMP_THR_JUMP_THR : Int) * 65536 < ((10 ^ 15 : Int) + s.slewLeft).natAbs) ∧
    fixPtp.tmu.adjs.length ≤ 255 := by decide +kernel

theorem wit_TimeStepsArePlacedFixedAndAborted :
    (let c0 := fixCmd 0x0C [(8, 2), (16, 1)]
     let fixRun := fixHas fixRun c0
     let c := fixRun.asFetched c0
     fixRun.hostReady c0 0x0C = true ∧ fixRun.leads = true ∧ u8 c.desc 8 = 2 ∧ zeros c.desc 9 1 = true ∧ zeros c.desc 24 40 = true ∧ le16 c.desc 10 = 0 ∧
       (les32 c.desc 12).natAbs ≤ 999999999 ∧ ¬ (0 < les32 c.desc 12 ∧ signed 64 (le64 c.desc 16) < 0) ∧
       ¬ (les32 c.desc 12 < 0 ∧ 0 < signed 64 (le64 c.desc 16)) ∧ fixRun.tmu.step = none ∧
       fixRun.stepNegative ((signed 64 (le64 c.desc 16) * 1000000000 + les32 c.desc 12) * 65536) = false) ∧
    (let c0 := fixCmd 0x0C [(8, 1)]
     let s := fixHas (fixRun.setReg TMU_STATUS_SERVO_STATE 0 4) c0
     let c := s.asFetched c0
     s.hostReady c0 0x0C = true ∧ s.leads = true ∧ u8 c.desc 8 = 1 ∧ zeros c.desc 9 1 = true ∧ zeros c.desc 12 12 = true ∧ zeros c.desc 24 40 = true ∧
       s.servo = 4 ∧ le16 c.desc 10 = s.reg TMU_STATUS_STEP_ID ∧ s.tmu.step = none ∧
       s.stepNegative (s.pair TMU_PEND_STEP_LO_PEND_STEP TMU_PEND_STEP_HI_PEND_STEP) = false) ∧
    (let st : Step := { delta := 0, frames := 0, src := .nobody, accepted := 0 }
     let s : State := { fixRun with tmu := { step := some st, slew := -5 } }
     s.tmu.step = some st ∧ st.fixed = false ∧ (s.stepMarker st).isSome = true ∧ s.tmu.slew ≠ 0 ∧ s.servo ≠ 4 ∧
     ({ s with dt := 10 ^ 15 } : State).stepMarker st = none) := by decide +kernel

theorem wit_TreeCalibrationSetsEveryLeaf :
    (let s := (fixUp 3 0).setFlag TMU_TREE_CAL_BUSY 0 true
     s.pins.porstN = true ∧ s.pins.resetN = true ∧ s.startup = 3 ∧ s.flag TMU_TREE_CAL_BUSY = true ∧ s.tmu.bad = 0 ∧ ¬ (s.started = true ∧ s.dt = s.marker) ∧
     (List.replicate 96 7).length = 96 ∧ ∀ d ∈ List.replicate 96 7, ((List.replicate 96 7).foldl max 0 - d + 2048) / 4096 ≤ 255) ∧
    (let s := fixRun.setTile 95 { ({} : Tile) with leafOk := true, leafTrim := 255 }
     s.running = true ∧ (s.tile 95).leafOk = true ∧ 1 ≤ (s.tile 95).leafTrim ∧ (s.tile 95).leafTrim ≤ 255) ∧
    (let s := fixRun.setReg DOM_STATUS_STATE 7 3
     s.pins.porstN = true ∧ s.pins.resetN = true ∧ s.domState 7 = 3 ∧ (s.domSt 7).recal = none ∧ (List.replicate 12 0).length = 12 ∧
     ∀ x ∈ List.replicate 12 0, (s.tmu.dMax - x + 2048) / 4096 ≤ 255) := by decide +kernel

theorem wit_PulseOutputsArmStopAndToggle :
    (let s := ((fixRun.setReg TOUT_START_SEC_LO_SEC 3 1).setReg TOUT_WIDTH_WIDTH 3 4).setReg TOUT_PERIOD_PERIOD 3 0
     s.windowOpen = true ∧ s.toutOk 3 = true ∧
     s.dt * 51200 + 65536000 ≤ ((s.reg TOUT_START_SEC_LO_SEC 3 + 2 ^ 32 * s.reg TOUT_START_SEC_HI_SEC 3) * 1000000000 + s.reg TOUT_START_NS_NS 3) * 65536) ∧
    (let s := ((fixRun.setReg TOUT_START_SEC_LO_SEC 0 0).setReg TOUT_WIDTH_WIDTH 0 4).setReg TOUT_PERIOD_PERIOD 0 0
     s.windowOpen = true ∧ s.toutOk 0 = true ∧ (s.setReg TOUT_WIDTH_WIDTH 1 0).toutOk 1 = false ∧ s.reg TOUT_PERIOD_PERIOD 0 = 0 ∧
     ((s.reg TOUT_START_SEC_LO_SEC 0 + 2 ^ 32 * s.reg TOUT_START_SEC_HI_SEC 0) * 1000000000 + s.reg TOUT_START_NS_NS 0) * 65536 < s.dt * 51200 + 65536000) ∧
    (let s := (fixRun.setReg TOUT_WIDTH_WIDTH 2 4).setReg TOUT_PERIOD_PERIOD 2 1000
     s.toutOk 2 = true ∧ s.reg TOUT_START_NS_NS 2 = 0 ∧ 0 * 65536 < s.dt * 51200 + 65536000 ∧ s.reg TOUT_PERIOD_PERIOD 2 ≠ 0 ∧
     s.dt * 51200 + 65536000 ≤ (0 + 1 * 1000) * 65536 ∧ (0 + (1 - 1) * 1000) * 65536 < s.dt * 51200 + 65536000) ∧
    (let p : Pulse := { start := 1, period := 0, width := 4, next := 0 }
     let s : State := { fixRun with tmu := { pulses := [(2, some p), (3, some { p with fallAt := some 7 })] } }
     s.windowOpen = true ∧ s.tmu.pulses.read none 2 = some p ∧ p.fallAt = none ∧ s.dt ≤ nsUp (p.start + p.next * p.period) ∧
     s.tmu.pulses.read none 3 = some { p with fallAt := some 7 } ∧ s.tick ≤ 7) := by decide +kernel

theorem wit_CapturesFillAndEmptyTheirFifo :
    (let s := (fixRun.setFlag TCAP_CTRL_EN 3 true).setReg TCAP_CTRL_EDGE 3 3
     s.pins.porstN = true ∧ s.pins.resetN = true ∧ s.flag TCAP_CTRL_EN 3 = true ∧ bit (s.reg TCAP_CTRL_EDGE 3) (b2n true) = true ∧
     s.tmu.lastCap.read 0 3 = 0 ∧ (s.tmu.caps.read [] 3).length < 16 ∧ s.flag TCAP_CTRL_EN 2 = false ∧ fixRun.onPath .supervisor = true ∧
     State.reset.onPath .host = false) ∧
    (let s : State := { fixRun with tmu := { caps := [(3, List.replicate 16 ⟨0, false⟩)], lastCap := [(3, 1)] } }
     16 ≤ (s.tmu.caps.read [] 3).length ∧ s.onPath .host = true ∧ s.tmu.caps.read [] 3 = ⟨0, false⟩ :: List.replicate 15 ⟨0, false⟩ ∧
     s.tmu.caps.read [] 0 = [] ∧ s.tmu.lastCap.read 0 3 + 819200 ≤ 819200 / 6400 * 6400 + 1 ∧ 12800 / 6400 * 6400 + 1 < s.tmu.lastCap.read 0 3 + 819200 ∧
     s.tmu.lastCap.read 0 3 ≠ 0) := by decide +kernel

theorem wit_AccessCodesOfTheRegisterTables :
    (KFI_STATUS_OWN ∈ fieldsAt KFI_STATUS_OWN.off ∧ fixRun.regLocked KFI_STATUS_OWN.off = false ∧ crossOk KFI_STATUS_OWN.off 0 = true ∧ KFI_STATUS_OWN.acc = .ro) ∧
    ((fixRun.setFlag HIF_ADM_CFG_EN 0 true).fieldLocked HIF_ADM_CFG_VECTOR = true ∧ HIF_ADM_CFG_VECTOR ∈ fieldsAt HIF_ADM_CFG_VECTOR.off ∧
      HIF_ADM_CFG_VECTOR.acc = .rw ∧ (fixRun.setFlag HIF_EVT_CFG_EN 0 true).regLocked HIF_EVT_COAL_COAL_CNT.off = true) ∧
    (KLN_THR_WARN ∈ fieldsAt KLN_THR_WARN.off ∧ KLN_THR_WARN.acc = .rwp ∧ fixRun.rwpRefused KLN_THR_WARN.off 0x5A5046 = true ∧
      (fixRun.setFlag SIU_STATUS_PRES_OPEN 0 true).presence = true ∧ fixRun.fieldLocked KLN_THR_WARN = false ∧ actionBits.contains KLN_THR_WARN = false) ∧
    (TMU_CTRL_TRANSPORT ∈ fieldsAt TMU_CTRL_TRANSPORT.off ∧ TMU_CTRL_TRANSPORT.acc = .rw ∧ fixRun.fieldLocked TMU_CTRL_TRANSPORT = false ∧
      actionBits.contains TMU_CTRL_TRANSPORT = false ∧ fixRun.regLocked TMU_CTRL_TRANSPORT.off = false) ∧
    (DRV_STATUS_DRV_FAULT ∈ fieldsAt DRV_STATUS_DRV_FAULT.off ∧ DRV_STATUS_DRV_FAULT.acc = .w1c) ∧
    (KFI_CTRL_DESC_REREAD ∈ fieldsAt KFI_CTRL_DESC_REREAD.off ∧ KFI_CTRL_DESC_REREAD.acc = .w1s) := by decide +kernel

theorem wit_RegisterReadsAndWrites :
    fixRun.windowOpen = true ∧ fixRun.onPath .host = true ∧ fixRun.onPath .supervisor = true ∧ isHole DRV_CTRL_STEEP_EN.off = false ∧ DRV_CTRL_STEEP_EN.off % 4 = 0 ∧ fieldsAt DRV_CTRL_STEEP_EN.off ≠ [] ∧
    isReg DRV_SPAN_SPAN_PRI DRV_CTRL_STEEP_EN.off = false ∧ isReg SNS_CTRL_LINE_CHECK DRV_CTRL_STEEP_EN.off = false ∧ DRV_CTRL_STEEP_EN.off ≠ MTX_CTRL_REMAP.off ∧
    isReg TCAP_NS_NS DRV_CTRL_STEEP_EN.off = false ∧ isShadow DRV_CTRL_STEEP_EN.off = false ∧ isHole 0x20000 = true ∧ isHole 0xFFFFFF = true ∧
    (0xFFFFFF : Nat) % 4 ≠ 0 ∧ (0xFFFFFF : Nat) % 2 ≠ 0 ∧ (0xFFFFF8 : Nat) % 8 = 0 ∧ State.reset.windowOpen = false ∧ State.reset.onPath .kick = false := by decide +kernel

theorem wit_FrameMarkerRules :
    let v : LaneEnv := { frame := 1, marker := 3200, standby := false, takes := false, park := false, resigned := false, cleared := false, held := false, driftAct := false, bankChanged := false, commits := false, holdMax := 40, reacq := 4 }
    let x : LaneIn := { parked := false, parkP := 5, parkT := 6, gainOk := true, wasCal := false, enterCal := false, prevP := 1, prevT := 2, bankP := 3, bankT := 4 }
    let b : Lane := { mode := .burst, burstTo := 3200 }
    let h : Lane := { mode := .hold, holdMax := 4 }
    fixRun.inReset = false ∧ fixRun.started = false ∧ ({ fixRun with started := true } : State).started = true ∧
    ({ fixRun with fab := { fixRun.fab with treeLost := true } } : State).fab.treeLost = true ∧
    (v.standby = false ∧ b.mode = .burst ∧ b.burstTo ≤ v.marker ∧ v.marker < ({ b with burstTo := 3201 } : Lane).burstTo ∧
      ({ b with dark := true } : Lane).dark = true ∧ b.dark = false ∧ b.cleared = false ∧ ({ v with commits := true } : LaneEnv).commits = true ∧ v.park = false ∧ x.parked = false ∧ v.held = false ∧
      ({ v with held := true } : LaneEnv).held = true ∧ ({ v with park := true } : LaneEnv).park = true ∧ x.wasCal = false ∧ x.enterCal = false ∧
      ({} : Lane).mode = .feedback ∧ ({} : Lane).divHold = false) ∧
    (v.resigned = false ∧ ({ v with resigned := true } : LaneEnv).resigned = true ∧ ({ x with parked := true } : LaneIn).parked = true ∧
      ¬ (b.dark = true ∧ (b.burstTo ≤ v.marker ∨ v.commits = true)) ∧ v.cleared = false ∧ ({ v with cleared := true } : LaneEnv).cleared = true ∧
      h.mode ≠ .burst ∧ h.mode ≠ .shadow ∧ (h.tgtValid && x.gainOk && !v.held) = false ∧ ({ h with tgtValid := true } : Lane).tgtValid = true) ∧
    (h.mode = .hold ∧ h.drift = false ∧ h.divHold = false ∧ h.holdCnt + 1 < h.holdMax) ∧
    (({ mode := .park, tgtValid := true } : Lane).mode = .park ∧ ({ mode := .park, tgtValid := true } : Lane).tgtValid = true ∧ x.gainOk = true) ∧
    (({ mode := .shadow } : Lane).mode = .shadow ∧ v.takes = false ∧ ({ v with standby := true } : LaneEnv).standby = true ∧ b.mode ≠ .shadow) ∧
    (let s := fixRun.setSess 3 { quar := true }; s.inReset = false ∧ (3 : Nat) < 16384 ∧ (s.sess 3).quar = true ∧ (s.sess 2).quar = false) := by decide +kernel

theorem wit_TransactionsAreStagedArmedAndAborted :
    (let c := fixCmd 2 [(22, 1), (32, 7)]; let s := fixHas fixDrives c; s.hostReady c 2 = true ∧
      (s.startCmd (s.asFetched c)).stageFieldBad (s.asFetched c) = false) ∧
    (let c0 := fixCmd 2 [(23, 1), (29, 1)]
     let s : State := { fixHas fixDrives c0 with adm := { tenants := { live := [(0, { en := true })] }, profiles := { live := [(0, { qmax := 2 })] } } }
     let c := s.asFetched c0
     let u := s.startCmd c
     let r : Req := { src := c.src, tenant := (u.ringTenant c.ring).1, cls := (u.ringTenant c.ring).2, order := 16384 + c.ring, plan := c.stagePlan, edits := c.stageEdits }
     s.hostReady c0 2 = true ∧ u.stageFieldBad c = false ∧ (u.tenant r.tenant).en = true ∧ (u.tenant r.tenant).police = false ∧
       u.objectsValid r.plan r.edits = true ∧ u.leads = true ∧ (u.adm.reqs.filter (inQueue r)).length < (u.classOf r.tenant r.cls).qmax ∧
       u.adm.reqs.length < 8192) ∧
    (let s := fixSlot { st := .staging }; (0 : Nat) < 63 ∧ (s.slot 0).st = .staging ∧ (s.slot 0).commit = none) ∧
    (let s := fixSlot { st := .staging, commit := some 64000 }
     (s.slot 0).st = .staging ∧ (s.slot 0).commit = some 64000) ∧
    (let c0 := fixCmd 3 [(10, 1)]
     let s := fixHas (fixSlot { st := .staged, tiles := [0], reportSrc := .host 0 0 2 }) c0
     let c := s.asFetched c0
     let v := s.startCmd c
     let d := v.dtArg c.desc 10
     let s4 := fixHas s (fixCmd 4 [])
     let c4 := s4.asFetched (fixCmd 4 [])
     let v4 := s4.startCmd c4
     let f4 := v4.setDomSt 0 { v4.domSt 0 with fence := some 1 }
     s.hostReady c0 3 = true ∧ zeros c.desc 22 42 = true ∧ d.ok = true ∧ v.armChecks c.src 0 d = none ∧ v.findHandle (le16 c.desc 8) = some 0 ∧
      s4.hostReady (fixCmd 4 []) 4 = true ∧ zeros c4.desc 10 54 = true ∧ v4.findHandle (le16 c4.desc 8) = some 0 ∧ v4.mayAct c4.src = true ∧
      (v4.slot 0).st = .staged ∧ (v4.slot 0).reportSrc ≠ .nobody ∧ v4.txn.quenchAt = none ∧ v4.fenceBefore 0 v4.dt = false ∧ f4.fenceBefore 0 f4.dt = true ∧ (f4.slot 0).st = .staged ∧ ((fixSlot { st := .staged }).slot 0).reportSrc = .nobody) ∧
    (let s := fixDrives.modTile 0 (fun tl => { tl with leafOk := true, pend0 := { st := .frozen, frozenAt := some 0, commit := some 10 } })
     (0 : Nat) < 96 ∧ (0 : Nat) < 2 ∧ ((s.tile 0).pend 0).st = .frozen ∧ s.condFail 0 0 = none ∧ ((s.tile 0).pend 1).st ≠ .frozen) ∧
    (let s := fixSlot { st := .arming, tiles := [0], deadline := 5 }
     let u := s.advanceTo 5
     (0 : Nat) < 63 ∧ s.role ≠ roleStandby ∧ (s.slot 0).st = .arming ∧ s.txn.quenchAt = none ∧ s.fenceBefore 0 5 = false ∧
       u.notArmed 0 = some (0, 9) ∧ (fixSlot { st := .arming }).notArmed 0 = none ∧
       (let f := s.setDomSt 0 { s.domSt 0 with fence := some 1 }
        f.fenceBefore 0 5 = true ∧ (f.slot 0).st = .arming)) := by decide +kernel

theorem wit_TransactionsAreStagedArmedAndAborted_quench :
    let s := fixFar 3 { st := .arming, tiles := [0], deadline := 5 }
    (0 : Nat) < 63 ∧ s.role ≠ roleStandby ∧ (s.slot 0).st = .arming ∧ s.txn.quenchAt = some 3 ∧ 3 ≤ (s.slot 0).deadline ∧
      (s.quenchTick.slot 0).st = .free :=
  ⟨by decide, by decide +kernel, by decide +kernel, by decide +kernel, by decide +kernel, far_arming⟩

theorem wit_TransactionsAreStagedArmedAndAborted_abort_quench :
    let s := farAbort
    let c := s.asFetched (fixCmd 4 [])
    let u := s.startCmd c
    s.hostReady (fixCmd 4 []) 4 = true ∧ zeros c.desc 10 54 = true ∧ u.findHandle (le16 c.desc 8) = some 0 ∧ u.mayAct c.src = true ∧
      (u.slot 0).st = .staged ∧ u.txn.quenchAt = some 0 ∧ 0 ≤ u.dt ∧ u.quenchTick.findHandle (le16 c.desc 8) = none :=
  ⟨by decide +kernel, by decide, by decide +kernel, by decide +kernel, by decide +kernel, by decide +kernel, by decide, farAbort_quenched⟩

theorem wit_CommitsAndQuenchesInEveryTile :
    (let s := fixSlot { st := .armed, commit := some 5, tiles := [0] }
     s.findHandle 0 = some 0 ∧ (s.slot 0).st = .armed ∧ (s.slot 0).commit = some 5 ∧ (s.slot 0).tiles ≠ [] ∧ s.handle 0 = 0 ∧ s.txn.quenchAt = none ∧
      s.fenceBefore 0 5 = false ∧ (s.setDomSt 0 { s.domSt 0 with fence := some 1 }).fenceBefore 0 5 = true) ∧
    (let s := (fixSlot { st := .staged, note2 := some 5 }).setReg TWN_STATUS_ROLE 0 roleStandby
     s.findHandle 0 = some 0 ∧ (s.slot 0).st ≠ .armed ∧ (s.slot 0).note2 = some 5 ∧ s.role = roleStandby ∧ (s.slot 0).applied = false ∧ s.findHandle 1 = none) ∧
    (1 : Nat) < 2 ∧ ({ fixRun with txn := { quenchAt := some 9 } } : State).txn.quenchAt = some 9 ∧ fixRun.txn.quenchAt = none ∧
    (let p : Pend := { named := [(5, 7)] }
     p.dark = false ∧ p.named.filter (fun q => decide (q.1 = 5)) = [(5, 7)] ∧ ({ p with dark := true } : Pend).dark = true ∧
      fixDrives.laneChanged 0 5 = true ∧ (fixDrives.modTile 0 (fun tl => tl.setLane 5 { mode := .hold })).laneChanged 0 5 = false) ∧
    (5 ∈ fixDrives.popElems 0 ∧ (3 : Nat) < 128 ∧ ((fixDrives.tile 0).lane 5).mode ≠ .shadow ∧
      (({ lanes := [(3, { mode := .shadow })] } : Tile).lane 3).mode = .shadow) ∧
    (let s := fixDrives.modTile 0 (fun tl => { tl with seq := .quench })
     (0 : Nat) < 96 ∧ (s.tile 0).ending = none ∧ (s.tile 0).seq = .quench ∧ (fixDrives.tile 0).seq ≠ .quench) ∧
    (let s := (fixSlot { st := .bursting, tiles := [0] }).modTile 0 (fun tl => { tl with pend0 := { st := .bursting, endAt := 9 } })
     (s.tile 0).ending = some 0 ∧ s.findHandle 0 = some 0 ∧ s.findHandle 1 = none ∧ (s.tile 0).stillBursts (s.handle 0) = true) ∧
    (let s := fixSlot { st := .bursting, tiles := [0] }
     (s.slot 0).st = .bursting ∧ (s.slot 0).tiles = [0] ∧ (s.tile 0).stillBursts (s.handle 0) = false ∧ (s.slot 0).dark = false ∧
     ((fixSlot { st := .bursting, tiles := [0], dark := true }).slot 0).dark = true) ∧
    (let v : Verify := { opened := true, todo := [4] }
     let s := (fixSlot { st := .verifying, tiles := [0] }).modTile 0 (fun tl => { tl with vers := [v] })
     (s.tile 0).vers.find? (fun v => decide (v.handle = 0) && v.opened) = some v ∧ (s.tile 0).vers.find? (fun v => decide (v.handle = 0)) = some v ∧
      (s.tile 0).vers.find? (fun v => decide (v.handle = 1) && v.opened) = none ∧
      v.opened = true ∧ v.closeAt ≤ s.dt ∧ (s.decideWindow 0 0 false).findHandle 0 = some 0 ∧ (s.decideWindow 0 1 false).findHandle 1 = none ∧
      v.decided = false ∧ (s.slot 0).st = .verifying ∧ ¬ (({ v with closeAt := 10 ^ 9 } : Verify).closeAt ≤ s.dt)) := by decide +kernel

theorem wit_CommitsAndQuenchesInEveryTile_quench :
    let s := fixFar 3 { st := .armed, commit := some 5, tiles := [0] }
    s.findHandle 0 = some 0 ∧ (s.slot 0).st = .armed ∧ (s.slot 0).commit = some 5 ∧ s.txn.quenchAt = some 3 ∧ (s.quenchTick.slot 0).st ≠ .armed :=
  ⟨by decide +kernel, by decide +kernel, by decide +kernel, by decide +kernel, far_armed⟩

theorem wit_CommitsAndQuenchesInEveryTile_ends :
    let s := (fixSlot { st := .bursting, tiles := [0] }).modTile 0 (fun tl => { tl with pend0 := { st := .bursting, endAt := 9 } })
    let q := s.modTile 0 (fun tl => { tl with seq := .quench, burstEnd := 9 })
    (q.tile 0).seq = .quench ∧ (∀ k, (q.tile 0).ending = some k → (q.tile 0).burstEnd ≤ ((q.tile 0).pend k).endAt) ∧
      (s.tile 0).ending = some 0 ∧ ((s.tile 0).seq = .quench → ((s.tile 0).pend 0).endAt < (s.tile 0).burstEnd) := by
  refine ⟨by decide +kernel, ?_, by decide +kernel, by decide +kernel⟩
  intro k h
  have e : k = 0 := by
    have g : Tile.ending ((((fixSlot { st := .bursting, tiles := [0] }).modTile 0 (fun tl => { tl with pend0 := { st := .bursting, endAt := 9 } })).modTile 0
      (fun tl => { tl with seq := .quench, burstEnd := 9 })).tile 0) = some 0 := by decide +kernel
    rw [g] at h; exact (Option.some.inj h).symm
  subst e; decide +kernel

def fixEdit : List Byte := [75, 69, 68, 84, 1, 0, 9, 0, 0, 0, 0, 0, 1, 0, 1, 0, 0, 0, 0, 0, 0, 0, 0, 0, 0, 0, 0, 0, 0, 0, 0, 0, 0, 0, 5, 0, 145, 195, 37, 39]

def fixCurve : List Byte := List.replicate 124 0 ++ [12, 14, 215, 21]

theorem wit_ObjectsAndTablesAreLoadedAndCommitted :
    (let c := fixCmd 1 [(20, 2), (22, 9)]
     let s := fixHas fixDrives c
     s.hostReady c 1 = true ∧ s.asFetched c = c ∧ c.otype = 2 ∧ c.len = 0 ∧ zeros c.desc 24 40 = true ∧ u8 c.desc 21 = 0 ∧ c.number ≤ 4095 ∧
      c.addr % 4 = 0 ∧ (s.startCmd c).mayAct c.src = true) ∧
    (let c := fixCmd 1 [(20, 2), (22, 9), (16, 40)]
     let s := (fixHas fixDrives c).setSlot 0 { st := .staging, edits := [9] }
     s.hostReady c 1 = true ∧ s.asFetched c = c ∧ c.otype = 2 ∧ c.len = 40 ∧ zeros c.desc 24 40 = true ∧ u8 c.desc 21 = 0 ∧ c.number ≤ 4095 ∧
      c.addr % 4 = 0 ∧ (s.startCmd c).stagingFrom (.edit c.number) = true) ∧
    (let c := fixCmd 1 [(20, 1), (22, 9)]
     let s : State := { fixDrives with txn := { fixDrives.txn with loads := [{ kind := .plan 9, src := c.src, cmd := c }, { kind := .edit 9, src := c.src, cmd := c },
       { kind := .edit 9, src := c.src, cmd := c, waiting := true }] } }
     s.mayAct c.src = true ∧ s.txn.loads[0]? = some { kind := .plan 9, src := c.src, cmd := c } ∧
      s.txn.loads[1]? = some { kind := .edit 9, src := c.src, cmd := c } ∧
      s.txn.loads[2]? = some { kind := .edit 9, src := c.src, cmd := c, waiting := true } ∧ s.stagingFrom (.edit 9) = false ∧ s.txn.loads[3]? = none) ∧
    (let c := fixCmd 8 [(20, 0x40), (16, 64), (24, 3), (28, 1)] (([16, 0x44, 0] : List Nat).map (BitVec.ofNat 8) ++ List.replicate 61 0)
     let s := fixHas fixDrives c
     s.hostReady c 8 = true ∧ s.asFetched c = c ∧ tableShape c.table = some (64, 65536) ∧ c.first = 3 ∧ c.count = 1 ∧
      (s.startCmd c).mayServe = true) ∧
    (let c := fixCmd 8 [(20, 0x10), (16, 16), (28, 1)] (List.replicate 16 0)
     let s := fixHas fixDrives c
     s.hostReady c 8 = true ∧ s.asFetched c = c ∧ tableShape c.table = some (16, 262144) ∧ c.table = 0x10 ∧ (s.startCmd c).mayAct c.src = true ∧ u8 c.desc 21 = 0 ∧ c.first + c.count ≤ 262144 ∧ zeros c.desc 22 2 = true ∧
      zeros c.desc 32 32 = true ∧ c.len = c.count * 16 ∧ c.addr % 4 = 0 ∧
      (∀ k ∈ allLists, ((s.startCmd c).listLive k && (s.startCmd c).listHits k c.first c.count) = false)) := by decide +kernel

theorem wit_ObjectsAndTablesAreLoadedAndCommitted_commits :
    (let c := fixCmd 9 [(8, 0x30)]
     let s := fixHas fixDrives c
     s.hostReady c 9 = true ∧ u8 c.desc 8 = 0x30 ∧ zeros c.desc 9 3 = true ∧ le64 c.desc 12 = 0 ∧ le32 c.desc 20 = 0 ∧
      zeros c.desc 24 40 = true ∧ (s.startCmd c).mayAct c.src = true ∧ s.asFetched c = c) ∧
    (let c := fixCmd 9 [(8, 2), (12, 1)]
     let s := fixHas fixDrives c
     s.hostReady c 9 = true ∧ u8 c.desc 8 = 2 ∧ zeros c.desc 9 3 = true ∧ le64 c.desc 12 + 2 ^ 64 * le32 c.desc 20 ≠ 0 ∧
      zeros c.desc 24 40 = true ∧ (s.startCmd c).mayAct c.src = true ∧ s.asFetched c = c) ∧
    (let c := fixCmd 7 [(8, 1)]
     let s := fixHas fixDrives c
     s.hostReady c 7 = true ∧ le64 c.desc 8 + 2 ^ 64 * le32 c.desc 16 ≠ 0 ∧ zeros c.desc 20 44 = true ∧ (s.startCmd c).mayAct c.src = true ∧ s.asFetched c = c) ∧
    (let c := fixCmd 6 [(14, 1), (16, 1)]
     let s := (fixHas fixDrives c).modTile 0 (fun tl => tl.modLane 0 (fun l => l))
     s.hostReady c 6 = true ∧ u8 c.desc 8 ≤ 95 ∧ u8 c.desc 9 ≤ 1 ∧ u8 c.desc 14 ≠ 0 ∧ le128 c.desc 16 ≠ 0 ∧ zeros c.desc 15 1 = true ∧
      zeros c.desc 32 32 = true ∧ s.asFetched c = c ∧ (s.startCmd c).mayServe = true ∧ (s.startCmd c).sweepOk 0 {
        src := c.src
        elems := bitsOf 128 (le128 c.desc 16)
        node := u8 c.desc 9
        start := le16 c.desc 10
        step := les16 c.desc 12
        dwell := u8 c.desc 14 } = true) := by decide +kernel

theorem wit_ObjectsAndTablesAreLoadedAndCommitted_crc :
    (let c := fixCmd 1 [(20, 2), (22, 9), (16, 40)] fixEdit
     let s := fixHas fixDrives c
     s.hostReady c 1 = true ∧ c.otype = 2 ∧ c.len ≠ 0 ∧ 40 ≤ c.len ∧ c.len ≤ 49188 ∧ c.len % 4 = 0 ∧ zeros c.desc 24 40 = true ∧
      u8 c.desc 21 = 0 ∧ c.number ≤ 4095 ∧ c.addr % 4 = 0 ∧ (s.startCmd c).mayAct c.src = true ∧ s.asFetched c = c ∧ (s.startCmd c).stagingFrom (.edit c.number) = false ∧
      le16 c.data 4 = 1 ∧ (s.startCmd c).editReason c.number c.data = 0) ∧
    (let c := fixCmd 5 [(16, 128), (22, 1)] fixCurve
     let s := fixHas fixDrives c
     s.hostReady c 5 = true ∧ u8 c.desc 20 ≤ 95 ∧ 1 ≤ le16 c.desc 22 ∧ u8 c.desc 21 + le16 c.desc 22 ≤ 128 ∧ zeros c.desc 24 40 = true ∧
      c.len = 128 * le16 c.desc 22 ∧ c.addr % 4 = 0 ∧ (allSome ((chunks 128 (le16 c.desc 22) c.data).map Curve.parse)).isSome = true) := by decide +kernel

/-- List 0 in state `st`: one entry in domain 0 of a plan, essential or not, at offset 0 of a cycle of 8,000 ticks on base `b`. -/
def fixList (st b : Nat) (ess : Bool) : State :=
  let s := (fixDrives.setReg CAL_L_STATE_STATE 0 st).setReg CAL_L_STATE_STATE 1 calIdle
  let d : ListDesc := { base := dtOf 12800000, first := 0, count := 1, cycle := 8000, tag := 0 }
  let s := { s with cal := { s.cal with pool := [(0, some (2 ^ 32 + 2 ^ 48 + (if ess then 2 ^ 50 else 0) + 2 ^ 56)), (1, some (2 ^ 32 + 2 ^ 48 + 2 ^ 57))] } }
  (s.setCalList 0 { desc := some d, base := b }).setCalList 1 { desc := some { d with first := 1 } }

theorem wit_CalendarListsStartStopSwapAndIssue :
    (let c := fixCmd 9 [(8, 0x11), (9, 1)]
     let s := fixHas (fixList calIdle 0 false) c
     s.hostReady c 9 = true ∧ s.asFetched c = c ∧ u8 c.desc 8 = 0x11 ∧ u8 c.desc 9 = 1 ∧ u8 c.desc 10 ≤ 15 ∧ zeros c.desc 12 52 = true ∧ (s.startCmd c).mayAct c.src = true ∧
      u8 c.desc 11 = 0 ∧ s.listSt 0 = calIdle ∧ s.leadShort = false ∧ s.domsMeet 0 0 = false ∧ (s.startCmd c).startFor c.src 0 = some (12800000, .done)) ∧
    (let s := fixList calRunning 0 false
     let c2 := fixCmd 9 [(8, 0x11), (9, 2)]
     let c4 := fixCmd 9 [(8, 0x11), (9, 4), (11, 1)]
     (fixHas s c2).hostReady c2 9 = true ∧ (fixHas s c2).asFetched c2 = c2 ∧ (fixHas s c4).asFetched c4 = c4 ∧ ((fixHas s c4).startCmd c4).mayAct c4.src = true ∧ u8 c2.desc 9 = 2 ∧ (fixHas s c4).hostReady c4 9 = true ∧ u8 c4.desc 9 = 4 ∧ u8 c4.desc 11 = 1 ∧ s.listLive 0 = true ∧
      s.flag CAL_L_STATE_SWAP_PEND 0 = false ∧ s.flag CAL_L_STATE_STOP_PEND 0 = false ∧ s.isReplacement 0 = false ∧ s.listCycle 0 ≠ 0 ∧
      s.listSt 1 = calIdle ∧ s.leadShort = false ∧ s.domsMeet 1 0 = false ∧
      6400 ≤ s.listCycle 0 - (s.listEnt 0 (s.listCount 0 - 1)).rel + (s.listEnt 1 0).rel) ∧
    (let s := fixList calRunning 8000000 true
     let u := s.advanceTo (s.nextCommit 0 - s.leadTicks)
     s.retiring mtxCalendar = false ∧ (s.setReg MTX_STATUS_RETIRING 0 255).retiring mtxCalendar = true ∧ s.leads = true ∧ s.listLive 0 = true ∧ (s.calList 0).spent = false ∧ (s.calList 0).stopAt = none ∧ (s.listEnt 0 0).ess = true ∧ u.badEntry 0 0 = none ∧ u.badObject (s.listEnt 0 0) = none ∧
      (u.tilesOf (s.listEnt 0 0).plan (s.listEnt 0 0).edits).all (fun t => (u.freeBank t).isSome) = true ∧ u.collides (s.nextCommit 0) 1 = false ∧
      u.ahead (s.nextCommit 0) = true) ∧
    (let s := fixList calRunning 8000000 false; (s.listEnt 0 0).ess = false) ∧
    (let s : State := { fixList calRunning 8000 false with dt := 8000 }
     let u := s.advanceTo (s.nextCommit 0 - s.leadTicks)
     u.collides (s.nextCommit 0) 1 = false ∧ u.ahead (s.nextCommit 0) = false) ∧
    (let s := (fixList calRunning 8000000 true).setSlot 3 { st := .staged, tiles := [0], commit := some 8000001 }
     (s.advanceTo (s.nextCommit 0 - s.leadTicks)).collides (s.nextCommit 0) 1 = true) ∧
    (let s := (fixList calRunning 0 false).modCalList 0 (fun l => { l with stopAt := some 8000 })
     (s.calList 0).stopAt = some ((s.calList 0).base + ((s.calList 0).passed + 1) * s.listCycle 0)) := by decide +kernel

theorem wit_AdmissionTicksChargeAndResolve :
    (let s : State := { fixDrives with tmu := { calMarker := some 0 }, adm := { ticks := 249 } }
     s.tmu.calMarker = some 0 ∧ s.adm.sampleDue = false ∧ s.refillDue = true) ∧
    (let s : State := { fixDrives with adm := { sampleDue := true } }
     s.adm.sampleDue = true ∧ s.flag ADM_HIST_CTRL_SWAP = false ∧ (s.setFlag ADM_HIST_CTRL_SWAP 0 true).flag ADM_HIST_CTRL_SWAP = true ∧
      (s.setFlag ADM_HIST_CTRL_SWAP 0 true).adm.sampleDue = true) ∧
    fixDrives.tmu.calMarker = none ∧ fixDrives.adm.sampleDue = false ∧ (0 : Int) ≤ 3 ∧ (-1 : Int) < 0 ∧ (2 : Int) ≤ 2 := by decide +kernel

/-- `RUN` and `SOLO` with port 0 enabled and up, or down. -/
def fixPort (up : Bool) : State := (((fixDrives.setFlag CP_CTRL_EN 0 true).setFlag CP_STATUS_UP 0 up).setFlag CPX_CTRL_ND_EN 0 true).setReg CP_IPV4_IPV4 0 0x0A000001

def fixFrame : List Byte := [0, 0, 0, 0, 0, 0, 0, 0, 0, 0, 0, 0, 0, 0, 199, 121, 187, 209]

def fixArp : List Byte := [0, 0, 0, 0, 0, 0, 0, 0, 0, 0, 0, 0, 8, 6, 0, 1, 8, 0, 6, 4, 0, 1, 0, 0, 0, 0, 0, 0, 0, 0, 0, 0, 0, 0, 0, 0, 0, 0, 10, 0, 0, 1, 49, 112, 220, 65]

def fixNs : List Byte := [0, 0, 0, 0, 0, 0, 0, 0, 0, 0, 0, 0, 134, 221, 96, 0, 0, 0, 0, 24, 58, 255, 254, 128, 0, 0, 0, 0, 0, 0, 0, 0, 0, 0, 0, 0, 0, 2, 254, 128, 0, 0, 0, 0, 0, 0, 0, 0, 0, 0, 0, 0, 0, 1, 135, 0, 0, 0, 0, 0, 0, 0, 254, 128, 0, 0, 0, 0, 0, 0, 0, 0, 0, 0, 0, 0, 0, 1, 32, 137, 87, 46]

theorem wit_ControlPortsTakeFramesAndRules :
    ((fixPort false).inReset = false ∧ (fixPort false).flag CP_CTRL_EN 0 = true ∧ (fixPort false).portUp 0 = false ∧ (fixPort true).portUp 0 = true ∧
      fixDrives.flag CP_CTRL_EN 0 = false ∧ fixDrives.portUp 0 = false ∧ (fixPort true).flag CP_CTRL_FEC_EN 0 = false) ∧
    (18 ≤ fixFrame.length ∧ fixFrame.length ≤ 2048 ∧ le32 fixFrame (fixFrame.length - 4) = crc32 (noFcs fixFrame) ∧
      ¬ (18 ≤ ([] : List Byte).length ∧ le32 [] (([] : List Byte).length - 4) = crc32 (noFcs []))) ∧
    (let f : RxFrame := { port := 0, bytes := fixFrame, stage := .held }
     f.port = 0 ∧ f.stage = .held ∧ ({ f with stage := .lost } : RxFrame).stage = .lost ∧
      (({ fixPort true with cpx := { stamp := [(0, 1)] } } : State).setReg CPX_STATUS_ENG_OK 0 15).nextEngine = some 0) ∧
    (let w : Waiting := { frame := { port := 0, stamp := 2, ver := 0, frame := [], rx := 0, tx := 0 }, what := .supervisor, since := 0 }
     ({ fixPort true with cpx := { reorder := [w] } } : State).waitingOn 0 = [w] ∧ (fixPort true).waitingOn 0 = []) ∧ fixDrives.flag CPX_STATUS_DRAINING = false ∧ ({ port := 0, bytes := [], stage := .left 3 } : RxFrame).stage = .left 3 ∧
    (fixDrives.setFlag CPX_STATUS_DRAINING 0 true).flag CPX_STATUS_DRAINING = true ∧ (fixPort true).flag CPX_CTRL_ND_EN = true := by decide +kernel

theorem wit_ControlPortsTakeFramesAndRules_stage (k : Nat) : ({ port := 0, bytes := fixFrame, stage := .held } : RxFrame).stage ≠ .left k := by simp

theorem wit_ControlPortsTakeFramesAndRules_answers :
    (18 ≤ fixArp.length ∧ le32 fixArp (fixArp.length - 4) = crc32 (noFcs fixArp) ∧ fixArp.length ≤ 2048 ∧
      18 ≤ fixNs.length ∧ le32 fixNs (fixNs.length - 4) = crc32 (noFcs fixNs) ∧ fixNs.length ≤ 2048) ∧
    (let s := fixPort true
     let f := noFcs fixArp
     let p := parseFrame f 0
     p.deep = false ∧ p.etype = 0x0806 ∧ be32 f p.l3off = 0x00010800 ∧ be32 f (p.l3off + 4) = 0x06040001 ∧ (s.portId 0).v4 ≠ 0 ∧
      be32 f (p.l3off + 24) = (s.portId 0).v4) ∧
    (let s := (fixPort true).setReg CP_IPV6_0_IPV6 0 0xFE800000
     let s := s.setReg CP_IPV6_3_IPV6 0 1
     let f := noFcs fixNs
     let p := parseFrame f 0
     p.deep = false ∧ p.l3 = 2 ∧ p.nxt = 58 ∧ u8 f (p.l3off + 7) = 255 ∧ be16 f p.l3end = 0x8700 ∧ (s.portId 0).v6 ≠ 0 ∧ p.src ≠ 0 ∧
      be64 f (p.l3end + 8) * 2 ^ 64 + be64 f (p.l3end + 16) = (s.portId 0).v6) := by decide +kernel

/-- A frame body whose first four bytes take the CRC register to 0, where zeros keep it. -/
def fixLongBody : List Byte := List.replicate 4 255 ++ List.replicate 2044 0

theorem fold_zeros (n : Nat) : (List.replicate n (0 : Byte)).foldl crcByte 0 = 0 := by
  induction n with
  | zero => rfl
  | succ n ih => rw [List.replicate_succ, List.foldl_cons, show crcByte 0 0 = 0 by decide, ih]

theorem fixLongBody_crc : crc32 fixLongBody = 0xFFFFFFFF := by
  have h : fixLongBody.foldl crcByte 0xFFFFFFFF = 0 := by
    rw [fixLongBody, List.foldl_append, show (List.replicate 4 (255 : Byte)).foldl crcByte 0xFFFFFFFF = 0 by decide +kernel, fold_zeros]
  exact crc32_of_fold _ _ h

def fixLong : List Byte := fixLongBody ++ [255, 255, 255, 255]

theorem fixLong_body : noFcs fixLong = fixLongBody := by
  have h : fixLongBody.length = 2048 := by rw [fixLongBody, List.length_append, List.length_replicate, List.length_replicate]
  simp [noFcs, fixLong, h]

theorem wit_ControlPortsTakeFramesAndRules_long : 18 ≤ fixLong.length ∧ 2048 < fixLong.length ∧
    le32 fixLong (fixLong.length - 4) = crc32 (noFcs fixLong) := by
  have h : fixLong.length = 2052 := by
    rw [fixLong, fixLongBody, List.length_append, List.length_append, List.length_replicate, List.length_replicate]; rfl
  rw [fixLong_body, fixLongBody_crc, h]
  refine ⟨by decide, by decide, by decide +kernel⟩

/-- Tenant 0 enabled, session 0 open, service mode in force. -/
def fixGcrp : State :=
  let s := fixDrives.setFlag CPX_CTRL_MODE_LIVE 0 true
  { (s.setSess 0 { valid := true, rxLast := 4, idle := 2 }) with adm := { tenants := { live := [(0, { en := true })] } } }

/-- A request of a type on session 0 with sequence 5. -/
def fixMsg (type : Nat) (body : List Byte) (sres : Nat) : GcrpReq :=
  { port := 0, srcAddr := 1, srcPort := 2, sres := sres
    msg := leBytes 1 1 ++ leBytes 1 type ++ leBytes 6 0 ++ beBytes 4 5 ++ beBytes 2 (24 + body.length) ++ leBytes 10 0 ++ body }

theorem wit_PartnerRequestsAndSessions :
    (let s := fixGcrp
     let q (r : GcrpReq) (k : Nat) : Bool := decide (r.type = k) && decide (r.sres = 1) && decide (r.session = 0) &&
       decide ((s.sess r.session).decideSeq r.seq = .accepted { (s.sess 0) with rxLast := 5, rxWin := 1 }) && decide ((s.setSess 0 (({ (s.sess 0) with rxLast := 5, rxWin := 1 } : Sess).refresh r s.tick)).gcrpCheck r = none)
     let h := ({ s with twn := { s.twn with sending := true } } : State).setReg TWN_SYNC_STORE 0 7
     s.running = true ∧ s.flag CPX_CTRL_MODE_LIVE = true ∧ s.role ≠ roleStandby ∧ (s.sess 0).isOpen = true ∧ s.holdsSessions = false ∧ h.holdsSessions = true ∧ h.role ≠ roleStandby ∧ (h.advance 7).holdsSessions = true ∧
      q (fixMsg 1 [0, 1, 1, 0, 0, 0, 0, 0] 1) 1 = true ∧ q (fixMsg 2 [0, 1, 0, 0, 0, 0, 0, 0] 1) 2 = true ∧
      q (fixMsg 3 [0, 1, 0, 0, 0, 0, 0, 1] 1) 3 = true ∧ q (fixMsg 4 [0, 0, 0, 0, 0, 0, 0, 0] 1) 4 = true ∧
      q (fixMsg 6 [0, 0, 0, 0] 1) 6 = true ∧ q (fixMsg 7 [0, 0, 0, 0] 1) 7 = true) ∧
    (({ fixGcrp with hif := { rings := [(3, { st := 1, recv := true, bufs := [{ id := 0, addr := 0, len := 2048 }] })] } } : State).recvRoom 3 = true) ∧
    ((4 : Nat) < 2 ^ 32 ∧ 5 = (4 + 1) % 2 ^ 32 ∧ 37 = (4 + 33) % 2 ^ 32) ∧
    ((({ rxLast := 5 } : Sess).decideSeq (fixMsg 7 [0, 0, 0, 0] 1).seq = .duplicate) ∧ (({ rxLast := 38 } : Sess).decideSeq (fixMsg 7 [0, 0, 0, 0] 1).seq = .stale)) ∧
    (let r := { fixMsg 5 [0, 0, 0, 0, 0, 0, 0, 0] 3 with srcAddr := 0, srcPort := 0 }
     r.type = 5 ∧ r.sres = 3 ∧ fixGcrp.gcrpCheck r = none ∧ (fixGcrp.endQuarantine.tenant r.tenant).en = true ∧
      fixGcrp.endQuarantine.reuseIndex r = some 0 ∧ (fixGcrp.endQuarantine.sess 0).rxLast ≠ r.seq ∧
      (let r2 := fixMsg 5 [0, 0, 0, 0, 0, 0, 0, 0] 3
       fixGcrp.gcrpCheck r2 = none ∧ fixGcrp.endQuarantine.reuseIndex r2 = none ∧ lowestFree 0 fixGcrp.endQuarantine.cpx.sessions < 16384 ∧
        fixGcrp.gcrpCheck { r2 with msg := [] } = some (.badVersion, 0) ∧ (fixDrives.tenant 0).en = false)) := by decide +kernel

theorem wit_PartnerRequestsAndSessions_host :
    (let c := fixCmd 10 [(8, 1), (10, 1), (14, 1)]
     let s := fixHas fixGcrp c
     let u := (s.startCmd c).endQuarantine
     s.hostReady c 10 = true ∧ s.asFetched c = c ∧ c.sess ≤ 16383 ∧ u.mayAct c.src = true ∧ u8 c.desc 8 = 1 ∧ u8 c.desc 9 ≤ 7 ∧ le16 c.desc 12 ≤ 4095 ∧
      1 ≤ le16 c.desc 14 ∧ le16 c.desc 14 ≤ s.reg CPX_GCRP_SESS_IDLE_MAX ∧ u8 c.desc 34 ≤ 11 ∧ zeros c.desc 35 1 = true ∧
      zeros c.desc 46 18 = true ∧ (u.sess c.sess).valid = false) ∧
    (let c := fixCmd 10 [(8, 2)]
     let s := fixHas fixGcrp c
     let u := (s.startCmd c).endQuarantine
     s.hostReady c 10 = true ∧ s.asFetched c = c ∧ c.sess ≤ 16383 ∧ u.mayAct c.src = true ∧ (u.sess c.sess).isOpen = true ∧ zeros c.desc 12 52 = true ∧
      u8 c.desc 8 = 2 ∧ zeros c.desc 9 1 = true) ∧
    (let c := fixCmd 10 [(8, 3), (9, 2)]
     let s := fixHas fixGcrp c
     s.hostReady c 10 = true ∧ s.asFetched c = c ∧ (s.startCmd c).endQuarantine.mayAct c.src = true ∧ zeros c.desc 12 52 = true ∧ u8 c.desc 8 = 3 ∧ u8 c.desc 9 ≤ 7) ∧
    (let c := fixCmd 10 [(8, 4)]
     let s := fixHas fixGcrp c
     s.hostReady c 10 = true ∧ s.asFetched c = c ∧ (s.startCmd c).endQuarantine.mayAct c.src = true ∧ u8 c.desc 8 = 4 ∧ statusOf (u8 c.desc 52) = some .done ∧ u8 c.desc 53 ≤ 6 ∧ zeros c.desc 9 1 = true ∧
      zeros c.desc 12 36 = true ∧ zeros c.desc 54 10 = true) := by decide +kernel

/-- The host interface on with ring pair 3 enabled, one descriptor waiting. -/
def fixRings : State :=
  let s := (fixDrives.setFlag HIF_CTRL_EN 0 true).setFlag HIF_STATUS_BME 0 true
  let s := { s with hif := { s.hif with link := true } }
  s.setRing 3 { st := 1, cmdPi := 1, fetching := 1, unsig := 1, coalUs := 4, vector := 7 }

theorem wit_HostIslandResetsRingsAndDoorbells :
    (let s := fixRings
     s.inReset = false ∧ s.hif.closing = [] ∧ s.windowOpen = true ∧ s.hif.link = true ∧ fixRun.hif.link = false ∧ bit 0x40000000 2 = false ∧ (bit 0x40000000 31 && !bit 0x40000000 30) = false ∧ s.line 5 = .idle ∧ s.mayRequest = true ∧ s.hif.kicks = [] ∧ (s.setFlag HIF_CTRL_EN 0 false).mayRequest = false ∧ (5 : Nat) < 1024 ∧ 1024 ≤ (1024 : Nat) ∧
      (fixUp 0 2).windowOpen = false ∧ fixDrives.nextRing = none ∧ (s.ring 4).st ≠ 1 ∧ s.reg HIF_POLL_POLL_US = 0 ∧ s.hif.evtUnsig = 0 ∧
      ¬ (40000 + 65536 - (s.ring 3).cmdCi) % 65536 ≤ 2 ^ (s.ring 3).cmdLog2 ∧ ¬ ((s.ring 3).cplPi + 65536 - 9) % 65536 ≤ 2 ^ (s.ring 3).cplLog2 ∧
      (s.setLine 5 .pending).line 5 = .pending ∧ (s.setLine 5 (.issued false)).line 5 = .issued false ∧ s.hif.evtLost = 0 ∧
      s.nextRing = some 3 ∧ (s.ring 3).st = 1 ∧ (1 + 65536 - (s.ring 3).cmdCi) % 65536 ≤ 2 ^ (s.ring 3).cmdLog2 ∧
      ((s.ring 3).cplPi + 65536 - 0) % 65536 ≤ 2 ^ (s.ring 3).cplLog2 ∧ (s.setReg HIF_POLL_POLL_US 0 5).reg HIF_POLL_POLL_US ≠ 0 ∧
      (s.ring 3).stale = 0 ∧ (s.ring 3).fetching ≠ 0 ∧ (s.ring 3).recv = false ∧ (s.ring 3).unsig ≠ 0 ∧ (s.ring 3).coalUs ≠ 0 ∧
      (7 : Nat) < 2048 ∧ 7 ∉ s.hif.unmasked) ∧
    ((fixRings.setRing 3 { st := 1, recv := true, fetching := 1 }).ring 3).recv = true ∧
    ((fixRings.setRing 3 { st := 1, stale := 1 }).ring 3).stale ≠ 0 ∧ ((fixRings.setRing 3 { st := 1 }).ring 3).fetching = 0 ∧
    (let u := fixDrives.plainWrite HIF_ADM_CFG_EN.off (1 + 2 ^ 8 * 0x44)
     fixDrives.flag HIF_ADM_CFG_EN = false ∧ u.flag HIF_ADM_CFG_EN = true ∧ u.flag HIF_ADM_CFG_ERR = false) ∧
    (let u := fixDrives.plainWrite HIF_EVT_CFG_EN.off 0x601
     fixDrives.flag HIF_EVT_CFG_EN = false ∧ u.flag HIF_EVT_CFG_EN = true ∧ u.hif.evtLost = 0 ∧ u.flag HIF_ADM_CFG_EN = fixDrives.flag HIF_ADM_CFG_EN) := by decide +kernel

theorem wit_NoKickIsLost :
    (fixRun.windowOpen = true ∧ (1023 : Nat) < 1024 ∧ fixRun.line 1023 = .idle) ∧
    (let s := fixRun.setLine 3 .pending
     s.windowOpen = true ∧ s.line 3 = .pending ∧ ({ s with hif := { s.hif with link := true } } : State).line 3 = .pending ∧
      ((({ s with hif := { s.hif with link := true } } : State).setFlag HIF_STATUS_BME 0 true).setFlag HIF_CTRL_EN 0 true).mayRequest = true ∧
      ({ s with hif := { s.hif with kicks := [3] } } : State).hif.kicks = [3]) ∧
    (let s := fixRun.setLine 3 (.issued false)
     s.windowOpen = true ∧ s.line 3 = .issued false) ∧
    (let s := fixRun.setLine 3 (.issued true)
     s.windowOpen = true ∧ s.line 3 = .issued true) := by decide +kernel

theorem wit_TelemetryHousekeepingAndKiln_hk :
    (let s := fixDrives.setConv 0 { work := .channel 3 }; (s.conv 0).work = .channel 3 ∧ s.inReset = false) ∧
    (let s := fixDrives.setConv 1 { work := .inject .nobody 20 1000 }; (s.conv 1).work = .inject .nobody 20 1000) ∧
    (let s := fixDrives.setConv 3 { work := .cal 1, calPend := true, queue := [.cal 2] }
     (s.conv 3).work = .cal 1 ∧ (s.conv 3).queue = [.cal 2] ∧ (s.conv 3).calPend = true ∧ (s.conv 3).calAfter = 0 ∧ (s.conv 0).work = .idle ∧
      (s.conv 0).queue = []) ∧
    (fixDrives.ntcFitted 0 = false ∧ ({ fixDrives with fab := { fixDrives.fab with desc := some { ntcMask := 1 } } } : State).ntcFitted 0 = true) ∧
    (fixDrives.windowOpen = true ∧ ({} : State).windowOpen = false ∧ (fixDrives.setFlag HK_CTRL_CAL_AUTO 0 true).flag HK_CTRL_CAL_AUTO = true ∧
      (fixDrives.setFlag HK_CTRL_CAL_AUTO 0 false).flag HK_CTRL_CAL_AUTO = false ∧ ({} : State).inReset = true) ∧
    (fixDrives.inReset = false ∧ fixDrives.vhvOutside 1000 = true ∧ fixDrives.flag KLN_STATUS_VHV_OUT = false ∧ fixDrives.vhvOutside 64000 = false ∧
      (fixDrives.setFlag KLN_STATUS_VHV_OUT 0 true).flag KLN_STATUS_VHV_OUT = true) := by decide +kernel
theorem wit_TelemetryHousekeepingAndKiln :
    (let c := fixCmd 0x0B [(20, 4), (16, 32), (28, 1)]; let s := fixHas fixDrives c
     s.hostReady c 0x0B = true ∧ s.asFetched c = c ∧ telShape (u8 c.desc 20) = some (32, 2, true) ∧ u8 c.desc 21 ≤ 95 ∧ c.count ≠ 0 ∧
      c.first + c.count ≤ 2 ∧ u8 c.desc 20 ≠ 0x40 ∧ zeros c.desc 22 2 = true ∧ zeros c.desc 32 32 = true ∧ c.count * 32 ≤ c.len ∧
      c.addr % 4 = 0 ∧ s.mayServe = true) ∧
    (let c := fixCmd 0x0B [(20, 4), (16, 31), (28, 1)]; let s := fixHas fixDrives c
     s.hostReady c 0x0B = true ∧ c.len < c.count * 32 ∧ c.first + c.count ≤ 2) ∧
    (let c := fixCmd 0x0B [(20, 4), (16, 96), (28, 3)]; let s := fixHas fixDrives c; s.hostReady c 0x0B = true ∧ 2 < c.first + c.count) ∧
    (let c := fixCmd 0x0B [(20, 6)]; let s := fixHas fixDrives c; s.hostReady c 0x0B = true ∧ telShape (u8 c.desc 20) = none) ∧
    (let c := fixCmd 0x0B [(20, 4), (16, 32), (28, 1)]; let s := fixHas (fixUp 2 0) c; s.hostReady c 0x0B = true ∧ s.mayServe = false) ∧
    (let c := fixCmd 0x0E [(8, 3), (9, 2)]; let s := fixHas fixDrives c
     s.hostReady c 0x0E = true ∧ s.asFetched c = c ∧ u8 c.desc 8 = 3 ∧ u8 c.desc 9 = 2 ∧ zeros c.desc 10 2 = true ∧ zeros c.desc 16 48 = true ∧
      le32 c.desc 12 = 0 ∧ (s.conv 0).queue.length < 4) := by decide +kernel
theorem wit_TelemetryHousekeepingAndKiln_clear :
    (let c := fixCmd 0x0E [(8, 63), (9, 3), (12, 100)]; (fixHas fixDrives c).hostReady c 0x0E = true ∧ le32 c.desc 12 = 100) ∧
    (let c := fixCmd 0x0E [(8, 3), (9, 3), (12, 100)]; let s := fixHas (fixUp 2 0) c
     (fixHas fixDrives c).hostReady c 0x0E = true ∧ u8 c.desc 8 < 32 ∧ u8 c.desc 9 ≠ 2 ∧ s.hostReady c 0x0E = true ∧ s.mayServe = false) ∧
    (let c := fixCmd 0x0F [(8, 7), (10, 1)]; let s := (fixHas fixDrives c).setHeld 7 true
     s.hostReady c 0x0F = true ∧ s.asFetched c = c ∧ le16 c.desc 8 = 7 ∧ bit (le16 c.desc 8) 15 = false ∧ getBits (le16 c.desc 8) 10 5 = 0 ∧
      u8 c.desc 10 ≤ 1 ∧ zeros c.desc 11 53 = true ∧ s.held 7 = true ∧ s.cause 7 = false ∧ ((s.startCmd c).clearSource 7).clearFirst.held 7 = false ∧
      ((s.startCmd c).clearSource 7).clearFirst.flag FLT_STATUS_FF_VALID = false) ∧
    (let c := fixCmd 0x0F [(8, 7)]; let s := ((fixHas fixDrives c).setHeld 7 true).setCause 7 true
     s.hostReady c 0x0F = true ∧ ((s.startCmd c).clearSource 7).held 7 = true ∧ s.cause 7 = true ∧ 7 ∈ s.heldList) ∧
    (let c := fixCmd 0x0F [(9, 128)]; (fixHas fixDrives c).hostReady c 0x0F = true ∧ bit (le16 c.desc 8) 15 = true) ∧
    (let c := fixCmd 0x0F [(10, 2)]; (fixHas fixDrives c).hostReady c 0x0F = true ∧ ¬ u8 c.desc 10 ≤ 1) ∧
    (let s := fixDrives.setFlag FLT_STATUS_FF_VALID 0 true; s.flag FLT_STATUS_FF_VALID = true ∧ s.held (s.reg FLT_FF_SRC_SOURCE) = false ∧
      (s.setHeld (s.reg FLT_FF_SRC_SOURCE) true).held (s.reg FLT_FF_SRC_SOURCE) = true) ∧
    (fixDrives.inReset = false ∧ fixDrives.roundOver = true ∧ (fixDrives.setConv 0 { work := .channel 3 }).roundOver = false ∧ fixDrives.fMin ≤ 256 ∧ fixDrives.dieFailed = false ∧ fixDrives.flag KLN_STATUS_THROTTLING = false ∧
      (fixDrives.setReg KLN_FAIL_FAILED 0 1).dieFailed = true ∧ (fixDrives.setReg KLN_FAIL_FAILED 0 1).fMin ≤ 256) ∧
    (let s : State := { fixDrives with kln := { shutAt := some 5 } }
     s.kln.released = false ∧ s.kln.shutAt = some 5 ∧ s.inReset = false ∧ fixDrives.kln.shutAt = none ∧
      ({ s with kln := { s.kln with released := true } } : State).kln.released = true) := by decide +kernel

theorem wit_TwinRolesOwnershipAndLink :
    (let c := fixCmd 0x0D [(8, 1)]
     let s := fixHas ((fixTwin roleActive).setReg TWN_STATUS_TWIN_ROLE 0 roleStandby) c
     s.hostReady c 0x0D = true ∧ zeros c.desc 9 55 = true ∧ s.opOk c.op = true ∧ s.presence = true ∧ s.mayServe = true ∧ c.op = 1 ∧
      s.asFetched c = c ∧ s.opOk 2 = true ∧ s.opOk 3 = false ∧ s.twinSeen = true ∧
      (s.setFlag SIU_STATUS_PRES_OPEN 0 false).presence = false ∧ (s.setFlag SIU_STATUS_PRES_OPEN 0 false).opOk 1 = true) ∧
    (let c := fixCmd 0x0D [(8, 2)]; (fixHas (fixTwin roleActive) c).hostReady c 0x0D = true ∧ ((fixHas (fixTwin roleActive) c).asFetched c).op = 2) ∧
    (let c := fixCmd 0x0D [(8, 4)]; (fixHas (fixTwin roleActive) c).hostReady c 0x0D = true ∧ ((fixHas (fixTwin roleActive) c).asFetched c).op = 4) ∧
    (let c := fixCmd 0x0D [(8, 3)]
     let s := fixHas ((fixTwin roleResigned).setReg TWN_STATUS_TWIN_ROLE 0 roleActive) c
     s.hostReady c 0x0D = true ∧ s.asFetched c = c ∧ zeros c.desc 9 55 = true ∧ s.opOk c.op = true ∧ c.op = 3 ∧ s.presence = true ∧ s.mayServe = true) := by
  decide +kernel
theorem wit_TwinRolesOwnershipAndLink_link :
    (let s := fixTwin roleActive
     s.running = true ∧ s.role ≠ roleResigned ∧ s.twn.switch = none ∧ s.twn.sending = false ∧ s.twn.heldCmds = [] ∧ s.twn.heldReqs = [] ∧ s.role = roleActive ∧
      s.twn.lost = false ∧ s.tlOn = true ∧ s.btu.row = 4 ∧ s.flag TWN_STATUS_TL_UP = true ∧ s.pins.txOff = false ∧ s.inReset = false ∧
      s.isStandby = false ∧ s.fab.treeLost = false ∧ s.twn.deciding = none ∧ s.twn.rxSeq = none ∧ s.tile 0 = {} ∧ s.twn.txq = [] ∧ s.twn.txBusy ≤ s.tick ∧
      s.resignWaits = false ∧ s.severity 745 < sevResign ∧ s.owns 0 = true ∧
      (let u := s.modTile 0 (fun tl => { tl with seq := .quench }); (u.tile 0).bursts = true) ∧
      (let u : State := { s with twn := { s.twn with txBusy := 5 } }; u.tick < u.twn.txBusy) ∧
      (let u : State := { s with twn := { s.twn with lost := true } }; u.twn.lost = true ∧ u.role = roleActive) ∧
      (let f := fixTl 1 (leBytes 24 1); let m := tlMsg f
       s.tlGood f = true ∧ be16 m 2 = m.length ∧ u8 m 1 = 1 ∧ u8 m 16 = roleStandby ∧ bit (u8 m 17) 0 = false)) ∧
    (let s : State := { fixTwin roleSolo with twn := { (fixTwin roleSolo).twn with rxSeq := some 6 } }
     s.role = roleSolo ∧ s.running = true ∧ s.twn.rxSeq = some 6 ∧ s.resignWaits = false ∧
      (let f := fixTl 1 (leBytes 24 257); let m := tlMsg f
       s.tlGood f = true ∧ be64 m 4 = 7 ∧ u8 m 16 = roleStandby ∧ bit (u8 m 17) 0 = true ∧ s.tlGood (f.drop 1) = false)) ∧
    (let s : State := { fixTwin roleActive with twn := { switch := some (1, .nobody, 0) } }; s.twn.switch = some (1, .nobody, 0)) := by decide +kernel
theorem wit_TwinRolesOwnershipAndLink_standby :
    let s := fixTwin roleStandby
    let s := { (s.setReg KFI_STATUS_OWN 0 0) with twn := { s.twn with released := 1 } }
    s.mayTake 0 = true ∧ s.mayTake 1 = false ∧ s.twn.heldCmds = [] ∧ s.twn.heldReqs = [] ∧ s.fab.inhibit = false ∧ s.domPop 0 = true ∧
      (let s : State := { s with twn := { s.twn with rxSeq := some 4 } }
       s.isStandby = true ∧ s.twn.rxSeq = some 4 ∧ be64 (tlMsg (fixTl 2 (leBytes 16 0))) 4 ≠ 5) ∧
      s.isStandby = true ∧ s.twn.deciding = none ∧ s.twn.rxSeq = none ∧ s.tlOn = true ∧ s.flag TWN_STATUS_TL_UP = true ∧ s.twn.sending = false ∧
      (let u := s.setReg KFI_STATUS_OWNX 0 1; u.reg KFI_STATUS_OWNX ≠ 0 ∧ u.twn.guarded = false ∧ u.twn.lost = false) ∧
      (let f := fixTl 1 (leBytes 24 0); let m := tlMsg f; s.tlGood f = true ∧ be16 m 2 = m.length ∧ u8 m 1 = 1 ∧ u8 m 16 ≤ 4) ∧
      (let f := fixTl 2 (leBytes 16 0); let m := tlMsg f; s.tlGood f = true ∧ be16 m 2 = m.length ∧ u8 m 1 = 2) := by decide +kernel

theorem wit_TwinStreamsReachTheStandby_note :
    (let s := (fixTwin roleStandby).setSlot 0 { st := .staged }
     let f := fixTl 3 (leBytes 2 0 ++ leBytes 1 2 ++ leBytes 29 0); let m := tlMsg f
     let u := s.tlFrame m
     s.tlOn = true ∧ s.flag TWN_STATUS_TL_UP = true ∧ s.tlGood f = true ∧ u8 m 1 = 3 ∧ be16 m 2 = m.length ∧ u.isStandby = true ∧ u8 (tlBody m) 2 = 2 ∧
      u.findHandle (be16 (tlBody m) 0) = some 0 ∧ s.tlGood (f.drop 1) = false) ∧
    (let s := fixTwin roleStandby
     let f := fixTl 4 (leBytes 1 3 ++ leBytes 11 0 ++ beBytes 4 4 ++ leBytes 4 0); let m := tlMsg f
     let b := tlBody m
     s.tlGood f = true ∧ u8 m 1 = 4 ∧ be16 m 2 = m.length ∧ be16 b 8 = 0 ∧ be16 b 10 = 0 ∧ (b.drop 16).length = be32 b 12 ∧ (s.tlFrame m).isStandby = true ∧
      (s.tlFrame m).lacks 7 = false ∧ ((s.setFlag TWN_SYNC_NEED_SYNC 0 true).tlFrame m).lacks 7 = true ∧
      ((s.setFlag TWN_SYNC_NEED_SYNC 0 true).tlFrame m).isStandby = true ∧ ((s.setFlag TWN_SYNC_NEED_SYNC 0 true).tlFrame m).twn.kept.length < 4096 ∧
      ({ num := 0, origin := 3, flags := u8 b 1, handle := 0, data := [] } : TlCmd).admitted = false) ∧
    (let s := (fixTwin roleStandby).setSess 0 { valid := true }
     let f := fixTl 5 (leBytes 30 0); let m := tlMsg f
     s.tlGood f = true ∧ u8 m 1 = 5 ∧ be16 m 2 = m.length ∧ be16 (tlBody m) 0 < 16384 ∧ ((s.tlFrame m).sess 0).valid = true ∧ (s.tlFrame m).isStandby = true) ∧
    (let s := (fixTwin roleStandby).setTile 0 { lanes := [(0, { mode := .shadow })] }
     let f := fixTl 6 (leBytes 2 0 ++ leBytes 1 1 ++ leBytes 45 0); let m := tlMsg f
     let u := s.tlFrame m
     s.tlGood f = true ∧ u8 m 1 = 6 ∧ be16 m 2 = m.length ∧ u8 (tlBody m) 0 = 0 ∧ u8 (tlBody m) 2 = 1 ∧ (u.tile 0).lastCommit = none ∧ ((u.tile 0).lane 0).mode = .shadow ∧
      u.isStandby = true ∧ ((s.modTile 0 (fun tl => { tl with lastCommit := some 9 })).tile 0).lastCommit = some 9 ∧ tick10 (tlBody m) 4 < 9) := by decide +kernel
theorem wit_TwinStreamsReachTheStandby_data :
    (let s := (fixTwin roleStandby).setFlag TWN_SYNC_NEED_SYNC 0 true
     let f := fixTl 7 (leBytes 1 1 ++ leBytes 19 0); let m := tlMsg f
     s.tlGood f = true ∧ u8 m 1 = 7 ∧ be16 m 2 = m.length ∧ (s.tlFrame m).flag TWN_SYNC_NEED_SYNC = true ∧ u8 (tlBody m) 0 = 1 ∧ be32 (tlBody m) 4 = 0 ∧ (s.tlFrame m).isStandby = true) ∧
    (let b := tlBody (tlMsg (fixTl 7 (leBytes 1 2 ++ leBytes 19 0))); u8 b 0 = 2 ∧ be32 b 4 = 0) ∧
    be32 (tlBody (tlMsg (fixTl 7 (leBytes 4 2 ++ beBytes 4 9 ++ leBytes 12 0)))) 4 ≠ 0 ∧
    (let s := ((fixTwin roleStandby).setFlag TWN_SYNC_NEED_SYNC 0 true).setReg TWN_SYNC_STORE 0 1
     let s : State := { s with twn := { s.twn with image := (StoreImg.plans []).bytes } }
     let f := fixTl 8 (leBytes 1 1 ++ leBytes 7 0 ++ beBytes 4 2 ++ beBytes 4 (crc32 (StoreImg.plans []).bytes)); let m := tlMsg f
     let u := s.tlFrame m
     s.tlGood f = true ∧ u8 m 1 = 8 ∧ be16 m 2 = m.length ∧ u.isStandby = true ∧ u.flag TWN_SYNC_NEED_SYNC = true ∧ be32 (tlBody m) 8 = u.twn.image.length ∧
      be32 (tlBody m) 12 = crc32 u.twn.image ∧ u8 (tlBody m) 0 = (StoreImg.plans []).number ∧ u8 (tlBody m) 0 = u.reg TWN_SYNC_STORE ∧
      (StoreImg.plans []).bytes = u.twn.image ∧ (StoreImg.plans []).tail = (tlBody m).drop 16 ∧
      be32 (tlBody (tlMsg (fixTl 8 (leBytes 8 0 ++ leBytes 8 255)))) 8 ≠ u.twn.image.length) := by decide +kernel
theorem wit_TwinStreamsReachTheStandby_send :
    (let s := fixTwin roleActive
     let u := s.captureSnap
     s.tlOn = true ∧ s.forwards = true ∧ s.nextGroup 0 = some 0 ∧ s.twn.snapAt = 0 ∧ s.leads = true ∧ s.retiring mtxTwin = false ∧ s.twn.snapTile = none ∧
      u.tlOn = true ∧ u.forwards = true ∧ u.retiring mtxTwin = false ∧ u.nextGroup u.twn.snapAt = some 0 ∧ u.twn.snapTile = some 0) ∧
    (let s := (fixTwin roleActive).setReg TWN_SYNC_STORE 0 2
     let s : State := { s with twn := { s.twn with sending := true, image := leBytes 3 5 } }
     s.leads = true ∧ s.twn.sending = true ∧ s.reg TWN_SYNC_STORE ≠ 0 ∧ s.retiring mtxTwin = false ∧ s.badStore 2 = none ∧
      s.twn.image.drop s.twn.sent ≠ [] ∧ (s.twn.image.drop s.twn.sent).take 2 <+: s.twn.image.drop s.twn.sent ∧ s.twn.image.drop 3 = []) := by decide +kernel
theorem wit_TwinStreamsReachTheStandby_other :
    (let s := fixTwin roleStandby; let m := tlMsg (fixTl 3 (leBytes 2 0 ++ leBytes 1 4 ++ leBytes 29 0))
     u8 (tlBody m) 2 = 4 ∧ (s.tlFrame m).isStandby = true ∧ ((fixTwin roleActive).tlFrame m).isStandby = false ∧
      s.findHandle 0 = none ∧ u8 (tlMsg (fixTl 3 [])) 1 ≠ 4) ∧
    (let b := tlBody (tlMsg (fixTl 4 (leBytes 1 3 ++ leBytes 7 0 ++ beBytes 2 0 ++ beBytes 2 1 ++ beBytes 4 4 ++ leBytes 4 0)))
     be16 b 10 ≠ 0 ∧ be16 b 8 = 0) ∧
    (let b := tlBody (tlMsg (fixTl 4 (leBytes 1 3 ++ leBytes 11 0 ++ beBytes 4 4 ++ leBytes 3 0)))
     be16 b 8 = 0 ∧ (b.drop 16).length ≠ be32 b 12) ∧
    (let s := fixTwin roleStandby
     let s := ({ s with twn := { s.twn with kept := List.replicate 4096 { num := 0, origin := 1, flags := 0, handle := 0, data := [] } } } : State).setFlag TWN_SYNC_NEED_SYNC 0 true
     s.lacks 7 = true ∧ 4096 ≤ s.twn.kept.length) ∧
    (let s := fixTwin roleStandby; let m := tlMsg (fixTl 5 (beBytes 2 16384 ++ leBytes 30 0))
     16384 ≤ be16 (tlBody m) 0 ∧ (s.sess 0).valid = false ∧ s.flag TWN_SYNC_NEED_SYNC = false) ∧
    (let s := fixTwin roleStandby; let s : State := { s with twn := { s.twn with got := [1, 2, 3, 4, 5, 6] } }
     s.twn.kept = [] ∧ s.twn.heldCmds = [] ∧ s.twn.heldReqs = [] ∧ (StoreImg.sessions []).number = 7 ∧ (∀ k ∈ [1, 2, 3, 4, 5, 6], k ∈ s.twn.got)) ∧
    (let s := (fixTwin roleActive).setReg TWN_SYNC_STORE 0 7
     let s : State := { s with twn := { s.twn with sending := true } }
     s.reg TWN_SYNC_STORE = 7 ∧ s.twn.image.drop s.twn.sent = [] ∧ s.twn.mustEnd = [] ∧ ({ s with twn := { s.twn with mustEnd := [0] } } : State).twn.mustEnd ≠ [] ∧
      s.badStore 7 = none ∧ s.twn.heldCmds = [] ∧ (fixTwin roleStandby).leads = false ∧ (fixTwin roleStandby).forwards = false) ∧
    (let s := (fixTwin roleActive).setReg TWN_SYNC_STORE 0 1
     let s : State := { s with twn := { s.twn with sending := true }, mtx := { s.mtx with bad := [(planAddr 1 / 8, 0)] } }
     s.badStore 1 = some (planAddr 1 / 8, 0)) := by decide +kernel

/-- The SIU in a state, its inputs at the permit side. -/
def fixSiu (st : Nat) : State := fixDrives.setReg SIU_STATUS_STATE 0 st

theorem wit_SafetyStatesOutputsAndResets :
    (let s := fixSiu sOn
     s.pins.porstN = true ∧ s.pins.resetN = true ∧ s.siuState ≠ sInit ∧ s.outputsOn = true ∧ s.siuState = sOn ∧ s.siu.testing = none ∧
      (s.setIn 0 inPermit).inSt 0 = inPermit ∧ ({ mismatch := true } : SiuEnv).mismatch = true) ∧
    (1 : Nat) ≤ 2 ∧ (sStop < 8 ∧ sStop ≠ sOn ∧ sStop ≠ sDegraded) ∧ (fixSiu sInit).siuState = sInit ∧ (fixSiu sStop).outputsOn = false ∧
    (fixSiu sDegraded).siuState = sDegraded ∧
    (let s : State := { fixSiu sOn with siu := { testing := some 1, starting := true, edmDue := true, rstLen := some 5000, rstAt := some 3 } }
     s.siu.testing = some 1 ∧ s.siu.starting = true ∧ s.siu.edmDue = true ∧ s.siu.rstLen = some 5000 ∧ s.siu.rstAt = some 3 ∧ s.siu.rstStuck = false ∧
      (s.setFlag SIU_CFG0_EDM_EN 0 false).flag SIU_CFG0_EDM_EN = false ∧
      (({ s with siu := { s.siu with level := 2048 } } : State).setFlag SIU_CFG0_EDM_EN 0 true).flag SIU_CFG0_EDM_EN = true ∧
      ({ s with siu := { s.siu with level := 2048 } } : State).chan 11 = s.outputsOn) ∧
    (let s := ((fixSiu sStop).setFlag SIU_STATUS_PRES_OPEN 0 true).setFlag SIU_CFG0_HOST_RST_EN 0 true
     s.windowOpen = true ∧ s.presence = true ∧ s.flag SIU_CFG0_HOST_RST_EN = true ∧ ({} : State).windowOpen = false ∧ ({} : State).pins.porstN = false ∧
      s.outputsOn = false ∧ s.siu.testing = none ∧ s.siu.starting = false ∧ s.siu.clearing = false ∧ s.siu.request = 0 ∧ s.siuState ≠ sInit ∧
      s.siuState ≠ sDegraded ∧ s.siu.edmDue = false ∧ s.siu.rstLen = none ∧ s.siu.rstAt = none) ∧
    (let s : State := { (fixSiu sFault).setFlag SIU_FAULT_DEGRADE_EXP 0 true with siu := { request := 2, clearing := true } }
     s.siu.clearing = true ∧ s.siu.starting = false ∧ s.outFail 0 = 0 ∧ s.outFail 1 = 0 ∧ s.siu.request ≠ 0 ∧ s.siuState = sFault ∧
      s.faultsSeen = true ∧ (s.setReg SIU_OUTPUTS_FAIL_A 0 1).outFail 0 ≠ 0 ∧ (s.setIn 0 inFault).faultsSeen = false) := by decide +kernel

theorem wit_PresenceConfigurationAndSafetySamples :
    (let s := fixSiu sStop
     s.pins.porstN = true ∧ s.pins.resetN = true ∧ s.siu.presStuck = false ∧ s.presence = false ∧ s.siu.presEnd = none ∧ s.siu.presLow = none ∧ s.siu.crcSet = false ∧
      ({} : State).pins.porstN = false ∧ ({} : State).windowOpen = false ∧ (s.setFlag SIU_STATUS_PRES_OPEN 0 true).presence = true ∧ s.windowOpen = true ∧
      s.siuState ≠ sOn ∧ s.siuState ≠ sDegraded ∧ s.siu.cfg0 < 2 ^ 32 ∧ s.siu.cfg1 < 2 ^ 32 ∧ (s.setFlag SIU_STATUS_PRES_OPEN 0 true).windowOpen = true ∧
      bit 0 3 = s.chan 3 ∧ bit 8 3 ≠ s.chan 3 ∧ s.siu.runs.read 0 3 < 32 * s.reg SIU_CFG0_T_FILT) ∧
    (let s : State := { fixSiu sOn with siu := { presEnd := some 9, presLow := some 4, presStuck := true, crcSet := true, runs := [(3, 100000)] } }
     s.siu.presEnd = some 9 ∧ s.siu.presLow = some 4 ∧ s.siu.presStuck = true ∧ s.siu.crcSet = true ∧ s.siuState = sOn ∧
      ({ s with siu := { s.siu with presStuck := false } } : State).siu.presStuck = false ∧
      32 * s.reg SIU_CFG0_T_FILT ≤ s.siu.runs.read 0 3 ∧ bit 8 3 ≠ s.chan 3 ∧
      siuCrc (s.word SIU_CFG0_T_DISC.off).toNat (s.word SIU_CFG1_DEGRADE_MIN.off).toNat ≠ s.reg SIU_CFG_CRC_CFG_CRC) := by decide +kernel

theorem wit_EventsAreRecordedInOrder :
    (let s := fixRun
     s.inReset = false ∧ s.windowOpen = true ∧ s.presence = false ∧ 3 ≤ s.startup ∧ s.heldOff 697 = false ∧ s.severity 697 ≠ sevIgnore ∧
      s.held 929 = false ∧ srcCondition 929 = true ∧ srcCondition 697 = false ∧ (s.setHeld 929 true).held 929 = true ∧ s.flt.hist.length ≤ 0) ∧
    (let s : State := { fixRun.setReg FLT_CTRL_HOLDOFF_US 0 10 with dt := 1000, flt := { stamp := [(697, 901)] } }
     s.flt.stamp.read 0 697 = 900 + 1 ∧ s.dt < 900 + usTicks (s.reg FLT_CTRL_HOLDOFF_US)) ∧
    ((fixRun.setReg (FLT_SEV_SEV) 696 0).setReg FLT_SEV_SEV 700 1).severity 697 = 1 := by decide +kernel
theorem wit_EventsAreRecordedInOrder_b :
    (let s := fixRun.setFlag SIU_STATUS_PRES_OPEN 0 true
     s.windowOpen = true ∧ s.presence = true ∧ bit (2 ^ 31 + 697) 31 = true ∧ bit 697 31 = false) ∧
    (let s := (fixRun.setWord (FLT_SEV_SEV.offAt 87) 0).setFlag TMU_STATUS_PLL_LOCK 0 true
     s.severity 697 = sevIgnore ∧ s.flag TMU_STATUS_PLL_LOCK = true) ∧
    (let s : State := { fixRun with flt := { hist := [⟨697, 1, false, true, 0, 5, 9⟩] } }
     s.flt.hist[0]? = some ⟨697, 1, false, true, 0, 5, 9⟩ ∧ s.flt.hist.length ≤ 1) ∧
    (let s := fixRun.modTile 95 (fun tl => { tl with engine := true, idleFrames := 4 })
     s.engineRuns 95 = true ∧ 4 ≤ (s.tile 95).idleFrames) := by decide +kernel
theorem wit_EventsAreRecordedInOrder_c :
    ({} : State).inReset = true ∧ ({} : State).windowOpen = false ∧ (fixRun.modTile 5 (fun tl => { tl with engine := false })).engineRuns 5 = false ∧ fixRun.flag TMU_STATUS_PLL_LOCK = false ∧
    (fixUp 2 0).startup < 3 ∧ srcDomain 3 = some 0 ∧ fixRun.domState 0 = 0 ∧ (fixRun.domSt 0).fence = none ∧
    (fixRun.setReg DOM_STATUS_STATE 0 1).domState 0 ≠ 0 ∧ srcDomain 700 = none ∧ fixRun.severity 928 ≠ sevIgnore ∧
    fixRun.flag FLT_CTRL_INJ_ACT = false := by decide +kernel

theorem wit_SealsFusesAndServiceOfDomains_seal : ({ fixRun with btu := { cask1 := some (fixCask 4) } } : State).newestCask = some (1, fixCask 4) := by
  have h : (fixCask 4).dieId = Config.dieId.toNat := rfl
  simp [State.newestCask, State.caskCopies, fixCask_valid, h]

theorem wit_SealsFusesAndServiceOfDomains :
    (let s := fixRun.setFlag SIU_STATUS_PRES_OPEN 0 true
     s.windowOpen = true ∧ s.presence = true ∧ s.word BTU_CTRL_SEAL.off = 0 ∧ s.btu.sealing = none ∧ s.inReset = false ∧
      (s.setFlag KLN_CTRL_CASK_WIN_EN 0 false).flag KLN_CTRL_CASK_WIN_EN = false ∧
      (s.setFlag KLN_CTRL_CASK_WIN_EN 0 true).flag KLN_CTRL_CASK_WIN_EN = true ∧ s.flag KLN_STATUS_CASK_OK = false ∧
      bit 3 (s.reg BTU_FUSE_KEY_RUN) = true ∧ bit 2 (s.reg BTU_FUSE_KEY_RUN) = false ∧ s.startup ≠ 2 ∧ (fixUp 2 0).startup = 2 ∧ fixRun.presence = false ∧ s.newestCask = none ∧
      ({} : State).windowOpen = false ∧ ({} : State).inReset = true) ∧
    (let s := fixRun.setFlag SIU_STATUS_PRES_OPEN 0 true
     s.word (DOM_CTRL_FENCE.offAt 7) = 0 ∧ s.domState 7 = 0 ∧ (s.domSt 7).fence = none ∧ s.retiring 6 = false ∧ s.degradeHeld 7 = false ∧
      s.leads = true ∧ (s.setReg MTX_STATUS_RETIRING 0 64).retiring 6 = true) := by decide +kernel

theorem wit_SealsFusesAndServiceOfDomains_domain :
    (let s := (({ fixRun with btu := { staged := some (1, []), doms := [(7, { load := some true, due := true })] } } : State).setReg DOM_STATUS_STATE 7 1)
     s.domState 7 = 1 ∧ s.btu.staged.isSome = true ∧ (s.domSt 7).due = true ∧ s.loadDue 7 = true ∧
      (State.tilesOfDom 7).all (fun t => (s.tile t).engine) = true) ∧
    (let s := (({ fixRun with btu := { doms := [(7, { loaded := some true })] } } : State).setReg DOM_STATUS_STATE 7 2)
     s.domState 7 = 2 ∧ (s.domSt 7).loaded = some true ∧ (s.domSt 6).loaded = none ∧ (s.setReg DOM_STATUS_STATE 6 2).domState 6 = 2) ∧
    (∀ st, ({ fixRun with btu := { sealing := some (0, { gen := 1, dieId := 2, cfg0 := 0, cfg1 := 0, thr := 0, throttle := 0, ctrl := 0, twn := 0 }, st) } }
      : State).btu.sealing.isSome = true) := by
  refine ⟨by decide +kernel, by decide +kernel, fun _ => rfl⟩

/-- A read of plan slot 1 by the calendar sequencer, and a write of a hole. -/
def fixBurst : MtxReq := { master := 0, addr := planAddr 1, beats := [{ en := 1 }, { en := 1 }], delivered := some 1 }
theorem wit_SealsFusesAndServiceOfDomains_matrix :
    fixBurst.target false = 2 ∧ ({ fixBurst with addr := planAddr 1 + 8 } : MtxReq).target false = 11 ∧
    ({ fixBurst with write := true } : MtxReq).target false = 11 ∧ ({ fixBurst with addr := planAddr 0 + 4096 - 64 } : MtxReq).target false = 11 ∧
    inProgress 0 [fixBurst] = true ∧ inProgress 1 [fixBurst] = false ∧ fixRun.retiring 0 = false ∧ nextGrant 5 0 [fixBurst] = some fixBurst ∧
    fixRun.badIn fixBurst.addr 128 = none ∧ fixRun.mtx.map = false ∧ physAddr false fixBurst.addr = planAddr 1 ∧ fixBurst.found = [] ∧
    ({ fixBurst with addr := 0x04000000, write := true, master := 3 } : MtxReq).target false ≠ 11 ∧ 0x04000000 < poolAddr 0 ∧
    ({ fixRun with mtx := { bad := [(planAddr 1 / 8, 0)] } } : State).badIn fixBurst.addr 128 = some (planAddr 1 / 8, 0) ∧
    (∀ j < 7, j ≠ 6 → (fixRun.setReg MTX_STATUS_RETIRING 0 64).retiring j = false) ∧ fixBurst.master = 0 ∧ (1 : Nat) < 8 ∧
    (let s := fixRun.setReg CAL_L_STATE_STATE 3 calRunning; s.leads = true ∧ s.listLive 3 = true ∧ s.reg CAL_L_POS_NEXT 3 = 0) ∧
    (let s : State := { fixRun with btu := { doms := [(0, { fence := some 1 }), (1, { ret := true }), (2, { recal := some true }), (3, { recal := some false })] } }
     let s := ((s.setReg DOM_STATUS_STATE 1 1).setReg DOM_STATUS_STATE 2 3).setReg DOM_STATUS_STATE 3 3
     s.domState 0 = 0 ∧ (s.domSt 0).fence = some 1 ∧ s.domState 1 = 1 ∧ (s.domSt 1).ret = true ∧ s.domState 2 = 3 ∧ (s.domSt 2).recal = some true ∧
      (s.domSt 3).recal = some false) ∧ (fixUp 4 1).role = roleStandby ∧ roleStandby = 1 := by decide +kernel

theorem wit_TestAccessPortAndMemoryTest :
    (fixRun.pins.porstN = true ∧ fixRun.pins.resetN = true ∧ State.reset.pins.porstN = false) ∧
    (({ fixRun with pins := { porstN := true, resetN := false } } : State).pins.resetN = false) ∧
    (let s := (fixRun.setReg GLB_MBIST_RESULT 0 (2 ^ 31 + 5)).tapSelect 0x10 .result
     2 ^ 31 ≤ s.reg GLB_MBIST_RESULT ∧ s.tap.sel = .result ∧ fixRun.reg GLB_MBIST_RESULT < 2 ^ 31) ∧
    ((fixRun.setFlag GLB_TEST_TEST_EN 0 true).setFlag GLB_TEST_TEST_LOCK 0 false).factory = true ∧ fixRun.factory = false ∧
    boundary[0]? = some (.fra 0 0, .data) ∧ fixRun.mission (.own 0) = some false ∧ fixRun.mission (.fra 0 0) = some false ∧
    (let s : State := { fixRun with tap := { cells := 3 } }; s.cell (.fra 0 0) .control = true ∧ s.cell (.fra 0 0) .data = true ∧ s.cell (.fra 0 1) .control = false) ∧
    ((0xFF : Nat) < 256 ∧ 0x12 ≤ 0xFF) ∧ ((0x0F : Nat) < 0x10 ∧ 0x07 ≤ 0x0F) ∧ ((0x20 : Nat) < 256 ∧ 0x12 ≤ 0x20) := by decide +kernel
end

section
/-! PROOFS. The scope family: a step, the reset state, the register map, and reads and writes of its registers. -/

namespace Sys2Proof.Machine

open Reg

/-! ### A step, the outcome of a command, and the reset state -/

/-- Outside reset both pins are high. -/
theorem State.inReset_eq_false_iff (s : State) : s.inReset = false ↔ s.pins.porstN = true ∧ s.pins.resetN = true := by
  simp [State.inReset]

theorem step_of_pending_cons {s : State} {c : Instr} {rest : List Instr} (h : s.pending = c :: rest) :
    step s = exec c { s with pending := rest } := by
  rw [step, h]

theorem step_of_pending_nil {s : State} (h : s.pending = []) : step s = .next s.idle := by
  rw [step, h]

/-- Settles O1: the two arms of `step`, and the two cases of an idle tick. -/
theorem stepRunsFrontCommandOrPassesOneTick : Obligations.StepRunsFrontCommandOrPassesOneTick := by
  refine ⟨fun c rest s h => step_of_pending_cons h, fun s h => ?_⟩
  rw [step_of_pending_nil h, State.idle, ← State.inReset_eq_false_iff]
  constructor
  · rintro ⟨hs, hr⟩
    simp [hs, hr]
  · intro hn
    rw [if_neg (by simpa using hn)]

/-- Settles O2: the arm of every row of the opcode table answers `.next`. -/
theorem everyCommandAnswersNext : Obligations.EveryCommandAnswersNext := by
  intro c s
  cases c <;> exact ⟨_, rfl⟩

/-- No register has been written at reset. -/
theorem State.word_reset (o : Nat) : State.reset.word o = resetWord o := rfl

/-- Settles O4: at reset each register reads its reset value and each store stands at its empty default. -/
theorem resetLeavesRegistersAtTheirResetValues : Obligations.ResetLeavesRegistersAtTheirResetValues := by
  refine ⟨State.word_reset, rfl, rfl, rfl, rfl, fun _ => rfl, rfl, rfl, rfl, rfl, rfl, rfl, rfl, rfl, rfl, rfl, rfl, rfl, rfl, rfl,
    rfl, rfl, rfl, rfl, rfl, rfl, rfl, rfl, rfl, rfl, rfl, rfl, ?_⟩
  decide +kernel

/-! ### The fields of the register map (R13, R601) -/

/-- The two fields take different bits of a word. -/
abbrev Fd.bitsApart (f g : Fd) : Prop := f.lo + f.wd ≤ g.lo ∨ g.lo + g.wd ≤ f.lo

/-- Offset of the last instance. -/
abbrev Fd.last (f : Fd) : Nat := f.off + f.stride * (f.count - 1)

/-- A reason why no word holds common bits of two fields: they take different bits, one group of registers ends before the other begins,
or the offsets of the groups differ modulo their common step. -/
abbrev Fd.separate (f g : Fd) : Prop :=
  f.bitsApart g ∨ f.last < g.off ∨ g.last < f.off ∨ f.off % f.stride.gcd g.stride ≠ g.off % f.stride.gcd g.stride

/-- The field lies in its word and its reset value in its width. -/
abbrev Fd.sound (f : Fd) : Prop := f.fits ∧ f.rst < 2 ^ f.wd

theorem Fd.separate_symm {f g : Fd} (h : f.separate g) : g.separate f := by
  unfold Fd.separate Fd.bitsApart at *
  rw [Nat.gcd_comm] at h
  omega

/-- A field covers the offsets of its instances only. -/
theorem Fd.exists_inst_of_covers {f : Fd} {o : Nat} (h : f.covers o = true) : ∃ k ≤ f.count - 1, o = f.off + f.stride * k := by
  unfold Fd.covers at h
  split at h
  · exact ⟨0, Nat.zero_le _, by simpa using h⟩
  · simp only [Bool.and_eq_true, decide_eq_true_eq] at h
    obtain ⟨⟨hlo, hmod⟩, hcount⟩ := h
    refine ⟨(o - f.off) / f.stride, by omega, ?_⟩
    rw [Nat.mul_div_cancel' (Nat.dvd_of_mod_eq_zero hmod)]
    omega

theorem Fd.off_le_of_covers {f : Fd} {o : Nat} (h : f.covers o = true) : f.off ≤ o := by
  obtain ⟨k, -, rfl⟩ := Fd.exists_inst_of_covers h
  exact Nat.le_add_right _ _

theorem Fd.le_last_of_covers {f : Fd} {o : Nat} (h : f.covers o = true) : o ≤ f.last := by
  obtain ⟨k, hk, rfl⟩ := Fd.exists_inst_of_covers h
  exact Nat.add_le_add_left (Nat.mul_le_mul_left _ hk) _

theorem Fd.mod_eq_of_covers {f : Fd} {o d : Nat} (h : f.covers o = true) (hd : d ∣ f.stride) : o % d = f.off % d := by
  obtain ⟨k, -, rfl⟩ := Fd.exists_inst_of_covers h
  obtain ⟨m, hm⟩ := hd
  rw [hm, Nat.mul_assoc, Nat.add_mul_mod_self_left]

/-- Separate fields that meet in one word take different bits of it. -/
theorem Fd.bitsApart_of_separate {f g : Fd} {o : Nat} (h : f.separate g) (hf : f.covers o = true) (hg : g.covers o = true) :
    f.bitsApart g := by
  rcases h with bits | below | above | mod
  · exact bits
  · exact absurd (Nat.le_trans (Fd.off_le_of_covers hg) (Fd.le_last_of_covers hf)) (Nat.not_le_of_lt below)
  · exact absurd (Nat.le_trans (Fd.off_le_of_covers hf) (Fd.le_last_of_covers hg)) (Nat.not_le_of_lt above)
  · rw [← Fd.mod_eq_of_covers hf (Nat.gcd_dvd_left _ _), ← Fd.mod_eq_of_covers hg (Nat.gcd_dvd_right _ _)] at mod
    exact absurd rfl mod

/-- The blocks of R601. -/
def fieldTables : List (List Fd) :=
  [[], fieldsGLB, fieldsDOM, fieldsTILE, fieldsTMU, fieldsCPX, fieldsADM, fieldsHIF, fieldsTWN, fieldsSIU, fieldsFLT, fieldsKLN,
   fieldsBTU, fieldsMTX]

theorem ite_mem_list {α : Type} {c : Prop} [Decidable c] {x y : α} {l : List α} :
    (if c then x else y) ∈ l ↔ (c → x ∈ l) ∧ (¬ c → y ∈ l) := by
  split
  · next h => exact ⟨fun hx => ⟨fun _ => hx, fun hn => absurd h hn⟩, fun hxy => hxy.1 h⟩
  · next h => exact ⟨fun hy => ⟨fun hc => absurd hc h, fun _ => hy⟩, fun hxy => hxy.2 h⟩

theorem blockFields_mem_fieldTables (o : Nat) : blockFields o ∈ fieldTables := by
  simp only [blockFields, fieldTables, ite_mem_list, List.mem_cons, true_or, or_true, implies_true, and_self]

theorem sound_of_mem_fieldTables : ∀ l ∈ fieldTables, ∀ f ∈ l, f.sound := by decide +kernel

theorem pairwise_separate_of_mem_fieldTables : ∀ l ∈ fieldTables, l.Pairwise Fd.separate := by decide +kernel

theorem mem_fieldsAt {f : Fd} {o : Nat} : f ∈ fieldsAt o ↔ f ∈ blockFields o ∧ f.covers o = true := List.mem_filter

theorem sound_of_mem_fieldsAt {f : Fd} {o : Nat} (hf : f ∈ fieldsAt o) : f.sound :=
  sound_of_mem_fieldTables _ (blockFields_mem_fieldTables o) f (mem_fieldsAt.1 hf).1

theorem fits_of_mem_fieldsAt {f : Fd} {o : Nat} (hf : f ∈ fieldsAt o) : f.fits := (sound_of_mem_fieldsAt hf).1

/-- Two different fields of one block are separate, in either order. -/
theorem separate_of_mem_blockFields {f g : Fd} {o : Nat} (hf : f ∈ blockFields o) (hg : g ∈ blockFields o) (hfg : f ≠ g) :
    f.separate g := by
  have table := pairwise_separate_of_mem_fieldTables _ (blockFields_mem_fieldTables o)
  have rising : (blockFields o).Pairwise (fun f g => f ≠ g → f.separate g) := by
    refine List.Pairwise.imp ?_ table
    exact fun h _ => h
  have falling : (blockFields o).Pairwise (flip fun f g => f ≠ g → f.separate g) := by
    refine List.Pairwise.imp ?_ table
    exact fun h _ => Fd.separate_symm h
  exact rising.forall_of_forall_of_flip (fun _ _ h => absurd rfl h) falling hf hg hfg

theorem bitsApart_of_mem_fieldsAt {f g : Fd} {o : Nat} (hf : f ∈ fieldsAt o) (hg : g ∈ fieldsAt o) (hfg : f ≠ g) : f.bitsApart g := by
  obtain ⟨hfb, hfo⟩ := mem_fieldsAt.1 hf
  obtain ⟨hgb, hgo⟩ := mem_fieldsAt.1 hg
  exact Fd.bitsApart_of_separate (separate_of_mem_blockFields hfb hgb hfg) hfo hgo

/-- Settles O5: the tables of R601 hold separate fields, and separate fields that meet in one word take different bits of it. -/
theorem fieldsOfTheRegisterMapDoNotOverlap : Obligations.FieldsOfTheRegisterMapDoNotOverlap :=
  fun _ => ⟨fun _ hf _ hg => bitsApart_of_mem_fieldsAt hf hg, fun _ hf => sound_of_mem_fieldsAt hf⟩

/-- Settles O6, by the laws of the register file. -/
theorem writeOfAFieldKeepsEveryOtherField : Obligations.WriteOfAFieldKeepsEveryOtherField := by
  intro s f g i j v hf
  refine ⟨s.reg_setReg f i v hf, fun h => ?_, rfl⟩
  by_cases ho : g.offAt j = f.offAt i
  · exact s.reg_setReg_other f g i j v hf ho (h.resolve_left (not_not_intro ho))
  · exact s.reg_setReg_ne f g i j v ho

/-! ### Words built field by field -/

/-- A word with fields of `l` set in turn to the values that `val` gives. -/
def putFields (val : Fd → Nat) (l : List Fd) (w : Nat) : Nat := l.foldl (fun w f => setBits w f.lo f.wd (val f)) w

theorem putFields_lt (val : Fd → Nat) {l : List Fd} (hl : ∀ f ∈ l, f.fits) {w : Nat} (hw : w < 2 ^ 32) : putFields val l w < 2 ^ 32 := by
  induction l generalizing w with
  | nil => exact hw
  | cons g l ih =>
    rw [List.forall_mem_cons] at hl
    exact ih hl.2 (setBits_lt _ hw hl.1)

/-- Setting other bits leaves the field alone. -/
theorem getBits_setBits_of_bitsApart {f g : Fd} (h : g.bitsApart f) (x v : Nat) :
    getBits (setBits x g.lo g.wd v) f.lo f.wd = getBits x f.lo f.wd := by
  rcases h with h | h
  · exact getBits_setBits_above h
  · exact getBits_setBits_below h

/-- A field reads its own value when it was set, and as before otherwise, where the other fields set take other bits. -/
theorem getBits_putFields (val : Fd → Nat) {f : Fd} {l : List Fd} (hl : ∀ g ∈ l, g ≠ f → g.bitsApart f) (w : Nat) :
    getBits (putFields val l w) f.lo f.wd = if f ∈ l then val f % 2 ^ f.wd else getBits w f.lo f.wd := by
  induction l generalizing w with
  | nil => rfl
  | cons g l ih =>
    rw [List.forall_mem_cons] at hl
    have rest : getBits (putFields val (g :: l) w) f.lo f.wd =
        if f ∈ l then val f % 2 ^ f.wd else getBits (setBits w g.lo g.wd (val g)) f.lo f.wd := ih hl.2 _
    rw [rest]
    by_cases hg : g = f
    · subst hg
      simp [getBits_setBits_same]
    · rw [getBits_setBits_of_bitsApart (hl.1 hg)]
      simp [Ne.symm hg]

/-- A register whose fields of `l` are set: what each of its fields reads. -/
theorem getBits_putFields_word (s : State) (val : Fd → Nat) {f : Fd} {o : Nat} {l : List Fd} (hl : ∀ g ∈ l, g ∈ fieldsAt o)
    (hf : f ∈ fieldsAt o) : getBits (BitVec.ofNat 32 (putFields val l (s.word o).toNat)).toNat f.lo f.wd =
      if f ∈ l then val f % 2 ^ f.wd else getBits (s.word o).toNat f.lo f.wd := by
  rw [BitVec.toNat_ofNat, Nat.mod_eq_of_lt (putFields_lt val (fun g hg => fits_of_mem_fieldsAt (hl g hg)) (s.word o).isLt),
    getBits_putFields val (fun g hg hne => bitsApart_of_mem_fieldsAt (hl g hg) hf hne)]

/-! ### Writes by access code (R13 to R15) -/

@[simp] theorem State.word_raise (s : State) (n info a : Nat) : (s.raise n info).word a = s.word a := by
  simp [State.word]

@[simp] theorem State.word_badWrite (s : State) (o a : Nat) : (s.badWrite o).word a = s.word a := State.word_raise s 864 o a

/-- What a write of v at offset o makes of field f, kept or not. -/
def State.fieldAfter (s : State) (o v : Nat) (f : Fd) : Nat :=
  f.acc.after (getBits (s.target o) f.lo f.wd) (getBits v f.lo f.wd)
    (!s.fieldLegal o f v || !crossOk o v || s.fieldLocked f || (decide (f.acc = .rwp) && s.rwpRefused o v) || actionBits.contains f)

/-- The raises of a write at offset o: 696 when presence refuses it, then 864 for a bad one. -/
def State.writeRaises (s : State) (o : Nat) (refused bad : Bool) : State :=
  let s := if refused then s.raise 696 o else s
  if bad then s.badWrite o else s

@[simp] theorem State.word_writeRaises (s : State) (o a : Nat) (refused bad : Bool) : (s.writeRaises o refused bad).word a = s.word a := by
  cases refused <;> cases bad <;> simp [State.writeRaises]

theorem State.setTarget_of_ne {s : State} {o : Nat} (h0 : o ≠ SIU_CFG0_T_DISC.off) (h1 : o ≠ SIU_CFG1_DEGRADE_MIN.off) (v : Nat) :
    s.setTarget o v = s.setWord o (BitVec.ofNat 32 v) := by
  rw [State.setTarget, if_neg h0, if_neg h1]

theorem State.target_of_ne {s : State} {o : Nat} (h0 : o ≠ SIU_CFG0_T_DISC.off) (h1 : o ≠ SIU_CFG1_DEGRADE_MIN.off) :
    s.target o = (s.word o).toNat := by
  rw [State.target, if_neg h0, if_neg h1]

theorem State.plainWrite_of_regLocked {s : State} {o : Nat} (h : s.regLocked o = true) (v : Nat) : s.plainWrite o v = s.raise 864 o := by
  rw [State.plainWrite, if_pos h, State.badWrite]

/-- A write of a register that is not locked whole sets its fields, then raises. -/
theorem State.plainWrite_eq {s : State} {o : Nat} (h : s.regLocked o = false) (v : Nat) :
    s.plainWrite o v = (s.setTarget o (putFields (s.fieldAfter o v) (fieldsAt o) (s.target o))).writeRaises o (s.rwpRefused o v)
      (s.badFields o v || !crossOk o v) := by
  rw [State.plainWrite, if_neg (by simp [h])]
  rfl

/-- Each access code keeps a field in its width. -/
theorem Acc.after_lt (a : Acc) {cur new wd : Nat} (hc : cur < 2 ^ wd) (hn : new < 2 ^ wd) (keep : Bool) : a.after cur new keep < 2 ^ wd := by
  cases a with
  | rw | rwp | rwt => cases keep <;> assumption
  | w1c => exact Nat.and_lt_two_pow _ (Nat.xor_lt_two_pow hc hn)
  | w1s => exact Nat.or_lt_two_pow hc hn
  | ro | rc | wo => exact hc

/-- An access code that stores gives the new value, unless the field is kept. -/
theorem Acc.after_of_stores {a : Acc} (h : a.stores = true) (cur new : Nat) (keep : Bool) :
    a.after cur new keep = if keep then cur else new := by
  cases a with
  | rw | rwp | rwt => rfl
  | ro | rc | wo | w1c | w1s => exact absurd h Bool.false_ne_true

theorem State.fieldAfter_lt (s : State) (o v : Nat) (f : Fd) : s.fieldAfter o v f < 2 ^ f.wd :=
  Acc.after_lt _ (getBits_lt _ _ _) (getBits_lt _ _ _) _

section
variable {s : State} {o : Nat} (hl : s.regLocked o = false) (h0 : o ≠ SIU_CFG0_T_DISC.off) (h1 : o ≠ SIU_CFG1_DEGRADE_MIN.off) (v : Nat)
include hl h0 h1

theorem State.plainWrite_eq_setWord :
    s.plainWrite o v = (s.setWord o (BitVec.ofNat 32 (putFields (s.fieldAfter o v) (fieldsAt o) (s.word o).toNat))).writeRaises o
      (s.rwpRefused o v) (s.badFields o v || !crossOk o v) := by
  rw [State.plainWrite_eq hl, State.setTarget_of_ne h0 h1, State.target_of_ne h0 h1]

/-- A write leaves every other register alone. -/
theorem State.word_plainWrite_ne {a : Nat} (ha : a ≠ o) : (s.plainWrite o v).word a = s.word a := by
  rw [State.plainWrite_eq_setWord hl h0 h1, State.word_writeRaises, State.word_setWord_ne _ ha]

/-- A field of the register written reads what its access code makes of it. -/
theorem State.getBits_plainWrite {f : Fd} (hf : f ∈ fieldsAt o) :
    getBits ((s.plainWrite o v).word o).toNat f.lo f.wd = s.fieldAfter o v f := by
  rw [State.plainWrite_eq_setWord hl h0 h1, State.word_writeRaises, State.word_setWord,
    getBits_putFields_word s _ (fun _ hg => hg) hf, if_pos hf,
    Nat.mod_eq_of_lt (State.fieldAfter_lt s o v f)]

/-- A write that presence refuses raises 696, and 864 behind it when it is bad too. -/
theorem State.plainWrite_of_rwpRefused (hr : s.rwpRefused o v = true) :
    ∃ t : State, t.flt = s.flt ∧ (s.plainWrite o v = t.raise 696 o ∨ s.plainWrite o v = (t.raise 696 o).raise 864 o) := by
  rw [State.plainWrite_eq_setWord hl h0 h1, hr]
  cases s.badFields o v || !crossOk o v
  · exact ⟨_, State.setWord_flt s o _, .inl rfl⟩
  · exact ⟨_, State.setWord_flt s o _, .inr rfl⟩

end

/-- Presence refuses no write while a presence window is open. -/
theorem State.presence_of_rwpRefused {s : State} {o v : Nat} (h : s.rwpRefused o v = true) : s.presence = false := by
  simp only [State.rwpRefused, Bool.and_eq_true, Bool.not_eq_true'] at h
  obtain ⟨⟨closed, -⟩, -⟩ := h
  exact closed

theorem State.rwpRefused_of_presence {s : State} (h : s.presence = true) (o v : Nat) : s.rwpRefused o v = false := by
  simp [State.rwpRefused, h]

/-- A field that stores values takes the new one when nothing locks or refuses it and the write is legal. -/
theorem State.fieldAfter_of_stores {s : State} {o v : Nat} {f : Fd} (hs : f.acc.stores = true) (hl : s.fieldLocked f = false)
    (ha : actionBits.contains f = false) (hr : f.acc = .rwp → s.rwpRefused o v = false) :
    s.fieldAfter o v f = if s.fieldLegal o f v && crossOk o v then getBits v f.lo f.wd else getBits (s.target o) f.lo f.wd := by
  have refused : (decide (f.acc = .rwp) && s.rwpRefused o v) = false := by
    by_cases h : f.acc = .rwp <;> simp [h, hr]
  rw [State.fieldAfter, Acc.after_of_stores hs, hl, ha, refused]
  cases s.fieldLegal o f v <;> cases crossOk o v <;> rfl

/-- A locked field that stores values stands, and so does one that presence refuses. -/
theorem State.fieldAfter_of_kept {s : State} {o v : Nat} {f : Fd} (hs : f.acc.stores = true)
    (hk : s.fieldLocked f = true ∨ f.acc = .rwp ∧ s.rwpRefused o v = true) : s.fieldAfter o v f = getBits (s.target o) f.lo f.wd := by
  rw [State.fieldAfter, Acc.after_of_stores hs, if_pos]
  rcases hk with hk | ⟨hp, hr⟩
  · simp [hk]
  · simp [hp, hr]

/-- Settles O41: a locked register by `plainWrite_of_regLocked`; in any other each field reads its `fieldAfter`, by access code. -/
theorem accessCodesOfTheRegisterTables : Obligations.AccessCodesOfTheRegisterTables := by
  intro s o v
  refine ⟨fun h => State.plainWrite_of_regLocked h v, fun hl h0 h1 => ⟨fun a ha => State.word_plainWrite_ne hl h0 h1 v ha,
    fun hr => ⟨State.presence_of_rwpRefused hr, State.plainWrite_of_rwpRefused hl h0 h1 v hr⟩, fun f hf => ?_⟩⟩
  rw [State.getBits_plainWrite hl h0 h1 v hf, ← State.target_of_ne h0 h1]
  have stores {a : Acc} (h : f.acc = a) (ha : a.stores = true) : f.acc.stores = true := by rw [h, ha]
  refine ⟨?standing, fun h hu ha => ?rw, fun h hk => ?locked, fun h => ?w1c, fun h => ?w1s, fun h hr => ?refused,
    fun h hp hu ha => ?rwp, fun h hu ha => ?rwt⟩
  case standing => rintro (h | h | h) <;> rw [State.fieldAfter, h] <;> rfl
  case rw => exact State.fieldAfter_of_stores (stores h rfl) hu ha (by simp [h])
  case locked => exact State.fieldAfter_of_kept (stores h rfl) (.inl hk)
  case w1c => rw [State.fieldAfter, h]; rfl
  case w1s => rw [State.fieldAfter, h]; rfl
  case refused => exact State.fieldAfter_of_kept (stores h rfl) (.inr ⟨h, hr⟩)
  case rwp => exact State.fieldAfter_of_stores (stores h rfl) hu ha (fun _ => State.rwpRefused_of_presence hp o v)
  case rwt => exact State.fieldAfter_of_stores (stores h rfl) hu ha (by simp [h])

end Sys2Proof.Machine
end

section
/-! PROOFS. The paths to the registers, holes and illegal accesses (R13, R391, R599 to R603). -/

namespace Sys2Proof.Machine

open Reg

/-! ### Reads and their RC fields -/

@[simp] theorem State.word_send (s : State) (m : OutMsg) (a : Nat) : (s.send m).word a = s.word a := rfl

/-- Filling shadows changes the shadows alone. -/
theorem State.latch_eq (s : State) (sup : Bool) (o : Nat) : s.latch sup o = { s with shadow := (s.latch sup o).shadow } := by
  unfold State.latch State.forEach
  generalize latches o = l
  induction l generalizing s with
  | nil => rfl
  | cons a l ih =>
    rw [List.foldl_cons, ih]
    rfl

@[simp] theorem State.word_latch (s : State) (sup : Bool) (o a : Nat) : (s.latch sup o).word a = s.word a := by
  rw [State.latch_eq]
  rfl

/-- Which count an RC field takes up does not depend on the shadows. -/
@[simp] theorem State.rcBase_latch (s : State) (sup : Bool) (o : Nat) (f : Fd) : (s.latch sup o).rcBase f = s.rcBase f := by
  rw [State.latch_eq]
  rfl

/-- The RC fields of the register at offset o. -/
def rcFieldsAt (o : Nat) : List Fd := (fieldsAt o).filter (fun f => decide (f.acc = .rc))

theorem mem_rcFieldsAt {f : Fd} {o : Nat} (hf : f ∈ fieldsAt o) : f ∈ rcFieldsAt o ↔ f.acc = .rc := by
  simp [rcFieldsAt, hf]

/-- Clearing the RC fields changes their register, and at `CPn_CNT_DROP` the port's mark. -/
theorem State.clearRc_eq (s : State) (o : Nat) : s.clearRc o =
    { s.setWord o (BitVec.ofNat 32 (putFields s.rcBase (rcFieldsAt o) (s.word o).toNat)) with cpx := (s.clearRc o).cpx } := by
  have fold : (fieldsAt o).foldl (fun w f => if f.acc = .rc then f.put w (s.rcBase f) else w) (s.word o).toNat =
      putFields s.rcBase (rcFieldsAt o) (s.word o).toNat := by
    rw [putFields, rcFieldsAt, List.foldl_filter]
    simp only [decide_eq_true_eq]
    rfl
  unfold State.clearRc
  rw [fold]
  split <;> rfl

theorem State.word_clearRc_self (s : State) (o : Nat) :
    (s.clearRc o).word o = BitVec.ofNat 32 (putFields s.rcBase (rcFieldsAt o) (s.word o).toNat) := by
  rw [State.clearRc_eq]
  exact State.word_setWord s o _

theorem State.word_clearRc_ne (s : State) {o a : Nat} (ha : a ≠ o) : (s.clearRc o).word a = s.word a := by
  rw [State.clearRc_eq]
  exact State.word_setWord_ne s ha _

/-- After a read an RC field reads the count that it takes up, and every other field of the register as before. -/
theorem State.getBits_clearRc (s : State) {f : Fd} {o : Nat} (hf : f ∈ fieldsAt o) :
    getBits ((s.clearRc o).word o).toNat f.lo f.wd =
      if f.acc = .rc then s.rcBase f % 2 ^ f.wd else getBits (s.word o).toNat f.lo f.wd := by
  rw [State.word_clearRc_self, getBits_putFields_word s _ (l := rcFieldsAt o) (fun _ hg => (List.mem_filter.1 hg).1) hf]
  simp only [mem_rcFieldsAt hf]

theorem State.rcBase_mod (s : State) (f : Fd) : s.rcBase f % 2 ^ f.wd =
    if f = CPX_SESS_PEAK then s.nOpen % 2 ^ f.wd else if f = ADM_POOL_PEAK then s.adm.reqs.length % 2 ^ f.wd else 0 := by
  rw [State.rcBase, apply_ite (· % 2 ^ f.wd), apply_ite (· % 2 ^ f.wd), Nat.zero_mod]

/-! ### The two paths to a register -/

theorem exec_registerWrite (p : Window) (o v : Nat) (s : State) : exec (.registerWrite p o v) s = execRegisterWrite p o v s := rfl

theorem exec_rcRegisterRead (p : Window) (o : Nat) (s : State) : exec (.rcRegisterRead p o) s = execRcRegisterRead p o s := rfl

theorem exec_bar0IllegalAccess (write : Bool) (o size v : Nat) (s : State) :
    exec (.bar0IllegalAccess write o size v) s = execBar0IllegalAccess write o size v s := rfl

section
variable {s : State} {p : Window} (o v : Nat)

theorem exec_registerWrite_of_closed (h : s.onPath p = false) : exec (.registerWrite p o v) s = .next s := by
  rw [exec_registerWrite, execRegisterWrite.eq_def, h]
  rfl

theorem exec_rcRegisterRead_of_closed (h : s.onPath p = false) : exec (.rcRegisterRead p o) s = .next s := by
  rw [exec_rcRegisterRead, execRcRegisterRead, h]
  rfl

/-- Host software's path is the false one of `barWrite` and `barRead`, the supervisor's the true one. -/
theorem exec_registerWrite_host (h : s.onPath .host = true) :
    exec (.registerWrite .host o v) s = .next (s.barWrite false o (v % 2 ^ 32)) := by
  rw [exec_registerWrite, execRegisterWrite.eq_def, if_neg (by simp [h])]

theorem exec_registerWrite_supervisor (h : s.onPath .supervisor = true) :
    exec (.registerWrite .supervisor o v) s = .next (s.barWrite true o (v % 2 ^ 32)) := by
  rw [exec_registerWrite, execRegisterWrite.eq_def, if_neg (by simp [h])]

theorem exec_rcRegisterRead_host (h : s.onPath .host = true) :
    exec (.rcRegisterRead .host o) s = .next ((s.barRead false o).1.send (.value o (s.barRead false o).2)) := by
  rw [exec_rcRegisterRead, execRcRegisterRead, if_pos h, State.readReg.eq_def]

theorem exec_rcRegisterRead_supervisor (h : s.onPath .supervisor = true) :
    exec (.rcRegisterRead .supervisor o) s = .next ((s.barRead true o).1.send (.value o (s.barRead true o).2)) := by
  rw [exec_rcRegisterRead, execRcRegisterRead, if_pos h, State.readReg.eq_def]

theorem exec_registerWrite_of_open (hp : p = .host ∨ p = .supervisor) (h : s.onPath p = true) :
    ∃ sup, exec (.registerWrite p o v) s = .next (s.barWrite sup o (v % 2 ^ 32)) := by
  rcases hp with rfl | rfl
  · exact ⟨false, exec_registerWrite_host o v h⟩
  · exact ⟨true, exec_registerWrite_supervisor o v h⟩

theorem exec_rcRegisterRead_of_open (hp : p = .host ∨ p = .supervisor) (h : s.onPath p = true) :
    ∃ sup, exec (.rcRegisterRead p o) s = .next ((s.barRead sup o).1.send (.value o (s.barRead sup o).2)) := by
  rcases hp with rfl | rfl
  · exact ⟨false, exec_rcRegisterRead_host o h⟩
  · exact ⟨true, exec_rcRegisterRead_supervisor o h⟩

end

section
variable {o : Nat} (hh : isHole o = false) (ha : o % 4 = 0) (hf : fieldsAt o ≠ [])
include hh ha hf

/-- A register with no row of its own is written by its access codes. -/
theorem State.barWrite_of_register (s : State) (sup : Bool) (v : Nat) (h0 : isReg DRV_SPAN_SPAN_PRI o = false)
    (h1 : isReg SNS_CTRL_LINE_CHECK o = false) (h2 : o ≠ MTX_CTRL_REMAP.off) :
    s.barWrite sup o v = State.afterWrite s o v (s.plainWrite o v) := by
  simp only [State.barWrite, hh, ha, hf, h0, h1, h2, ne_eq, not_true, or_self, if_false, Bool.false_eq_true]

/-- A register that is no capture and no shadow answers its view, fills its shadows and clears its RC fields. -/
theorem State.barRead_of_register (s : State) (sup : Bool) (h0 : isReg TCAP_NS_NS o = false) (h1 : isShadow o = false) :
    s.barRead sup o = ((s.latch sup o).clearRc o, s.view o) := by
  simp only [State.barRead, hh, ha, hf, h0, h1, ne_eq, not_true, or_self, if_false, Bool.false_eq_true]

end

/-! ### Holes (R599, R601) -/

theorem State.inReset_of_windowOpen {s : State} (h : s.windowOpen = true) : s.inReset = false := by
  simp only [State.windowOpen, Bool.and_eq_true, Bool.not_eq_true'] at h
  exact h.1

/-- Outside reset a raise joins the logger's. -/
theorem State.raise_of_not_inReset {s : State} (h : s.inReset = false) (n info : Nat) :
    s.raise n info = { s with flt := { s.flt with raises := s.flt.raises ++ [{ src := n, info := info }] } } := by
  simp [State.raise, State.raiseEv, h]

theorem State.word_setReg_ne (s : State) {f : Fd} {i a : Nat} (h : a ≠ f.offAt i) (v : Nat) : (s.setReg f i v).word a = s.word a :=
  State.word_setWord_ne s h _

theorem State.word_inc_ne (s : State) {f : Fd} {i a : Nat} (h : a ≠ f.offAt i) : (s.inc f i).word a = s.word a := by
  rw [State.inc, State.count, if_neg Nat.one_ne_zero, State.word_setReg_ne s h]

/-- The states that differ in their registers alone. -/
def State.sameButRegs (s t : State) : Prop := t = { s with regs := t.regs }

theorem State.sameButRegs_refl (s : State) : s.sameButRegs s := rfl

theorem State.sameButRegs.setReg {s t : State} (h : s.sameButRegs t) (f : Fd) (i v : Nat) : s.sameButRegs (t.setReg f i v) := by
  unfold State.sameButRegs at *
  generalize t.regs = r at h
  subst h
  rfl

theorem State.sameButRegs.inc {s t : State} (h : s.sameButRegs t) (f : Fd) (i : Nat := 0) : s.sameButRegs (t.inc f i) :=
  h.setReg f i _

/-- The registers of the default target's record of an access (R599), before its count and its raise. -/
def State.setHoleRecord (s : State) (m : Nat) (write : Bool) (hi lo : Nat) : State :=
  (((s.setReg MTX_ERR_LO_ADDR_LO 0 lo).setReg MTX_ERR_HI_ADDR_HI 0 hi).setReg MTX_ERR_HI_MASTER 0 m).setFlag MTX_ERR_HI_WRITE 0 write

theorem State.defaultTarget_eq_raise (s : State) (m : Nat) (write : Bool) (hi lo : Nat) :
    s.defaultTarget m write hi lo = ((s.setHoleRecord m write hi lo).inc MTX_CNT1_DEFAULT).raise 865 := rfl

theorem State.reg_inc_ne (s : State) {f g : Fd} {i j : Nat} (h : g.offAt j ≠ f.offAt i) : (s.inc f i).reg g j = s.reg g j := by
  rw [State.reg, State.word_inc_ne s h, State.reg]

section
variable (s : State) (m : Nat) (write : Bool) (hi lo : Nat)

theorem State.sameButRegs_setHoleRecord : s.sameButRegs (s.setHoleRecord m write hi lo) :=
  (((s.sameButRegs_refl.setReg _ _ _).setReg _ _ _).setReg _ _ _).setReg _ _ _

theorem State.word_setHoleRecord_ne {a : Nat} (h0 : a ≠ MTX_ERR_LO_ADDR_LO.off) (h1 : a ≠ MTX_ERR_HI_MASTER.off) :
    (s.setHoleRecord m write hi lo).word a = s.word a := by
  rw [State.setHoleRecord, State.setFlag, State.word_setReg_ne _ h1, State.word_setReg_ne _ h1, State.word_setReg_ne _ h1,
    State.word_setReg_ne _ h0]

theorem State.setHoleRecord_write : (s.setHoleRecord m write hi lo).reg MTX_ERR_HI_WRITE = b2n write := by
  rw [State.setHoleRecord, State.setFlag, State.reg_setReg _ _ _ _ (by decide)]
  cases write <;> rfl

theorem State.setHoleRecord_master : (s.setHoleRecord m write hi lo).reg MTX_ERR_HI_MASTER = m % 2 ^ MTX_ERR_HI_MASTER.wd := by
  rw [State.setHoleRecord, State.setFlag, State.reg_setReg_other _ MTX_ERR_HI_WRITE MTX_ERR_HI_MASTER _ _ _ (by decide) rfl (by decide),
    State.reg_setReg _ _ _ _ (by decide)]

theorem State.setHoleRecord_addr : (s.setHoleRecord m write hi lo).reg MTX_ERR_LO_ADDR_LO = lo % 2 ^ 32 := by
  rw [State.setHoleRecord, State.setFlag, State.reg_setReg_ne _ _ _ _ _ _ (by decide), State.reg_setReg_ne _ _ _ _ _ _ (by decide),
    State.reg_setReg_ne _ _ _ _ _ _ (by decide), State.reg_setReg _ _ _ _ (by decide)]
  rfl

end

/-- What the default target records of host software's access at offset o, and all that it changes. -/
structure State.HoleRecorded (s t : State) (o : Nat) (write : Bool) (out : List OutMsg) : Prop where
  out_eq : t.out = out
  write_eq : t.reg MTX_ERR_HI_WRITE = b2n write
  addr_eq : t.reg MTX_ERR_LO_ADDR_LO = o % 2 ^ 32
  master_eq : t.reg MTX_ERR_HI_MASTER = 0xF
  count_eq : t.reg MTX_CNT1_DEFAULT = min (2 ^ MTX_CNT1_DEFAULT.wd - 1) (s.reg MTX_CNT1_DEFAULT + 1)
  word_eq : ∀ a, a ≠ MTX_ERR_LO_ADDR_LO.off → a ≠ MTX_ERR_HI_MASTER.off → a ≠ MTX_CNT1_DEFAULT.off → t.word a = s.word a
  rest_eq : t = { s with regs := t.regs, free := s.free + 1, out := t.out, flt := { s.flt with raises := s.flt.raises ++ [{ src := 865 }] } }

/-- Host software's access of a hole takes a free value for its high address, and the default target records it. -/
theorem State.holeAccess_host (s : State) (write : Bool) (o : Nat) :
    s.holeAccess false write o = (s.takeFree 8).2.defaultTarget 0xF write (s.takeFree 8).1 o := rfl

theorem State.holeRecorded_holeAccess {s : State} (h : s.inReset = false) (write : Bool) (o : Nat) :
    s.HoleRecorded (s.holeAccess false write o) o write s.out := by
  generalize hu : (s.takeFree 8).2 = u
  generalize hr : u.setHoleRecord 0xF write (s.takeFree 8).1 o = r
  have access : s.holeAccess false write o = (r.inc MTX_CNT1_DEFAULT).raise 865 := by
    rw [State.holeAccess_host, State.defaultTarget_eq_raise, hu, hr]
  have rest : u.sameButRegs r := by
    rw [← hr]
    exact State.sameButRegs_setHoleRecord _ _ _ _ _
  have word (a : Nat) (h0 : a ≠ MTX_ERR_LO_ADDR_LO.off) (h1 : a ≠ MTX_ERR_HI_MASTER.off) : r.word a = s.word a := by
    rw [← hr, State.word_setHoleRecord_ne _ _ _ _ _ h0 h1, ← hu]
    rfl
  have other {f : Fd} (hf : f.offAt 0 ≠ MTX_CNT1_DEFAULT.offAt 0) : (s.holeAccess false write o).reg f = r.reg f := by
    rw [access, State.raise_reg, State.reg_inc_ne r hf]
  have raised : s.holeAccess false write o =
      { s with regs := (r.inc MTX_CNT1_DEFAULT).regs, free := s.free + 1, flt := { s.flt with raises := s.flt.raises ++ [{ src := 865 }] } } := by
    have counted : u.sameButRegs (r.inc MTX_CNT1_DEFAULT) := rest.inc _
    rw [access, State.raise_of_not_inReset (by rw [counted, ← hu]; exact h), counted, ← hu]
    rfl
  refine ⟨?out, ?direction, ?addr, ?master, ?count, ?word, ?rest⟩
  case out => rw [raised]
  case direction => rw [other (by decide), ← hr, State.setHoleRecord_write]
  case addr => rw [other (by decide), ← hr, State.setHoleRecord_addr]
  case master => rw [other (by decide), ← hr, State.setHoleRecord_master]; rfl
  case count =>
    rw [access, State.raise_reg, State.reg_inc _ _ _ (by decide)]
    rw [State.reg, word _ (by decide) (by decide)]
    rfl
  case word =>
    intro a h0 h1 h2
    rw [access, State.word_raise, State.word_inc_ne r h2, word a h0 h1]
  case rest => rw [raised]

/-- A read of a hole is answered to the reader after its record. -/
theorem State.HoleRecorded.send {s t : State} {o : Nat} {write : Bool} {out : List OutMsg} (h : s.HoleRecorded t o write out) (m : OutMsg) :
    s.HoleRecorded (t.send m) o write (m :: out) where
  out_eq := by rw [State.send_out, h.out_eq]
  write_eq := h.write_eq
  addr_eq := h.addr_eq
  master_eq := h.master_eq
  count_eq := h.count_eq
  word_eq := h.word_eq
  rest_eq := by rw [State.send, h.rest_eq]

theorem State.barRead_of_hole (s : State) {o : Nat} (h : isHole o = true) :
    s.barRead false o = (s.holeAccess false false o, 2 ^ 32 - 1) := by
  rw [State.barRead, if_pos h]
  rfl

theorem State.barWrite_of_hole (s : State) {o : Nat} (h : isHole o = true) (v : Nat) : s.barWrite false o v = s.holeAccess false true o := by
  rw [State.barWrite, if_pos h]

/-- The record of an access of a hole, and its frame, whether a read or a write. -/
theorem State.HoleRecorded.frame {s t : State} {o : Nat} {write : Bool} {out : List OutMsg} (h : s.HoleRecorded t o write out) :
    t.reg MTX_ERR_LO_ADDR_LO = o % 2 ^ 32 ∧ t.reg MTX_ERR_HI_MASTER = 0xF ∧
      t.reg MTX_CNT1_DEFAULT = min (2 ^ MTX_CNT1_DEFAULT.wd - 1) (s.reg MTX_CNT1_DEFAULT + 1) ∧
      (∀ a, a ≠ MTX_ERR_LO_ADDR_LO.off → a ≠ MTX_ERR_HI_MASTER.off → a ≠ MTX_CNT1_DEFAULT.off → t.word a = s.word a) ∧
      t = { s with regs := t.regs, free := s.free + 1, out := t.out, flt := { s.flt with raises := s.flt.raises ++ [{ src := 865 }] } } :=
  ⟨h.addr_eq, h.master_eq, h.count_eq, h.word_eq, h.rest_eq⟩

/-! ### Accesses of other sizes, and misaligned ones (R602) -/

theorem exec_bar0IllegalAccess_of_closed {s : State} (h : s.windowOpen = false) (write : Bool) (o n v : Nat) :
    exec (.bar0IllegalAccess write o n v) s = .next s := by
  rw [exec_bar0IllegalAccess, execBar0IllegalAccess, h]
  rfl

section
variable {s : State} {o : Nat} (h : s.windowOpen = true) (ho : o < 0x1000000) (v : Nat)
include h ho

theorem exec_bar0IllegalAccess_of_open (write : Bool) {n : Nat} (hn : [1, 2, 4, 8].contains n = true) :
    exec (.bar0IllegalAccess write o n v) s = .next (s.bar0Access write o n v) := by
  rw [exec_bar0IllegalAccess, execBar0IllegalAccess, if_pos (by simp only [h, hn, ho, decide_true, Bool.and_self])]

end

section
variable (s : State) {o n : Nat} (v : Nat)

theorem State.bar0Access_misaligned_write (h : o % n ≠ 0) : s.bar0Access true o n v = s.raise 864 o := by
  rw [State.bar0Access, if_pos h]
  rfl

theorem State.bar0Access_misaligned_read (h : o % n ≠ 0) :
    s.bar0Access false o n v = (s.raise 864 o).send (.value o (2 ^ (8 * n) - 1)) := by
  rw [State.bar0Access, if_pos h]
  rfl

/-- A write of 1 or 2 bytes is bad, aligned or not. -/
theorem State.bar0Access_short_write (h : n < 4) : s.bar0Access true o n v = s.raise 864 o := by
  by_cases ha : o % n = 0
  · rw [State.bar0Access, if_neg (not_not_intro ha), if_pos rfl, if_pos h, State.badWrite]
  · exact s.bar0Access_misaligned_write v ha

theorem State.bar0Access_short_read (h : n < 4) (ha : o % n = 0) : s.bar0Access false o n v =
    (s.barRead false (o / 4 * 4)).1.send (.value o ((s.barRead false (o / 4 * 4)).2 / 2 ^ (8 * (o % 4)) % 2 ^ (8 * n))) := by
  rw [State.bar0Access, if_neg (not_not_intro ha), if_neg Bool.false_ne_true, if_neg (by omega)]

theorem State.bar0Access_double_write (ha : o % 8 = 0) :
    s.bar0Access true o 8 v = (s.barWrite false o (v % 2 ^ 32)).barWrite false (o + 4) (v / 2 ^ 32 % 2 ^ 32) := by
  rw [State.bar0Access, if_neg (not_not_intro ha)]
  rfl

theorem State.bar0Access_double_read (ha : o % 8 = 0) : s.bar0Access false o 8 v =
    ((s.barRead false o).1.barRead false (o + 4)).1.send
      (.value o ((s.barRead false o).2 + 2 ^ 32 * ((s.barRead false o).1.barRead false (o + 4)).2)) := by
  rw [State.bar0Access, if_neg (not_not_intro ha)]
  rfl

end

/-- Settles O42: the two paths over a register and over a hole, then each size of an access through BAR0. -/
theorem registerReadsAndWrites : Obligations.RegisterReadsAndWrites := by
  intro s o v
  refine ⟨fun p hp hop hh ha hf => ⟨fun h0 h1 h2 => ?write, fun h0 h1 => ?read⟩, fun hw hh => ?hole, fun hw ho => ?sizes,
    fun p hp => ⟨exec_registerWrite_of_closed o v hp, exec_rcRegisterRead_of_closed o hp⟩,
    fun hw w n => exec_bar0IllegalAccess_of_closed hw w o n v⟩
  case write =>
    obtain ⟨sup, row⟩ := exec_registerWrite_of_open o v hp hop
    rw [row, State.barWrite_of_register hh ha hf s sup _ h0 h1 h2]
  case read =>
    obtain ⟨sup, row⟩ := exec_rcRegisterRead_of_open o hp hop
    rw [State.barRead_of_register hh ha hf s sup h0 h1] at row
    refine ⟨_, row, ?out, fun a hne => ?others, fun f hff => ?fields, ?rest⟩
    case out => rw [State.send_out, State.clearRc_eq, State.latch_eq]; rfl
    case others => rw [State.word_send, State.word_clearRc_ne _ hne, State.word_latch]
    case fields =>
      rw [State.word_send, State.getBits_clearRc _ hff, State.rcBase_latch, State.word_latch, State.rcBase_mod, ite_not]
    case rest =>
      rw [State.clearRc_eq, State.latch_eq]
      rfl
  case hole =>
    have access (write : Bool) := State.holeRecorded_holeAccess (State.inReset_of_windowOpen hw) write o
    have read := (access false).send (.value o (2 ^ 32 - 1))
    have written := access true
    refine ⟨_, _, ?_, ?_, read.out_eq, written.out_eq, read.write_eq, written.write_eq, ?_⟩
    · rw [exec_rcRegisterRead_host o hw, s.barRead_of_hole hh]
    · rw [exec_registerWrite_host o v hw, s.barWrite_of_hole hh]
    · simp only [List.forall_mem_cons, List.not_mem_nil, false_imp_iff, implies_true, and_true]
      exact ⟨read.frame, written.frame⟩
  case sizes =>
    have row (write : Bool) {n : Nat} (hn : [1, 2, 4, 8].contains n = true) := exec_bar0IllegalAccess_of_open hw ho v write hn
    refine ⟨fun ha => ?_, fun ha => ?_, ?_, ?_, fun n hn => ?_, fun ha => ?_, fun ha => ⟨?_, ?_⟩, fun ha => ⟨?_, ?_⟩⟩
    · rw [row _ (by decide), s.bar0Access_misaligned_write v ha]
    · rw [row _ (by decide), s.bar0Access_misaligned_read v ha]
    · rw [row _ (by decide), s.bar0Access_short_write v (by decide)]
    · rw [row _ (by decide), s.bar0Access_short_write v (by decide)]
    · rcases hn with rfl | ⟨rfl, ha⟩
      · rw [row _ (by decide), s.bar0Access_short_read v (by decide) (Nat.mod_one o)]
      · rw [row _ (by decide), s.bar0Access_short_read v (by decide) ha]
    · rw [row _ (by decide), s.bar0Access_misaligned_read v ha]
    · rw [row _ (by decide), s.bar0Access_double_write v ha]
    · rw [row _ (by decide), s.bar0Access_double_read v ha]
    · rw [row _ (by decide), s.bar0Access_misaligned_write v ha]
    · rw [row _ (by decide), s.bar0Access_misaligned_read v ha]

end Sys2Proof.Machine
end
